-- ==== Sys2Proof/Word.lean ====
section
/-! DEFINITION. The words of the LK-6240: bytes, addresses, frame numbers, and the index types that
number its terminals, flows, profiles and ranging contexts (spec/00_scope.md, Conventions). -/

namespace Sys2Proof

/-- One byte of a record or a packet. -/
abbrev Byte := BitVec 8

/-- A two-byte quantity of a record or a packet. -/
abbrev Word16 := BitVec 16

/-- A four-byte quantity of a record or a packet. -/
abbrev Word32 := BitVec 32

/-- A 48-bit Ethernet address or station identity. -/
abbrev Mac := BitVec 48

/-- An air-frame number, 0 to 65535, wrapping (spec/00_scope.md, Frame number). -/
abbrev FrameNo := BitVec 16

/-- A terminal slot, 0 to 255. -/
abbrev Slot := Fin 256

/-- A service flow, 0 to 1023. -/
abbrev FlowIdx := Fin 1024

/-- A modulation profile, 0 to 11. -/
abbrev ProfIdx := Fin 12

/-- A ranging context, 0 to 3. -/
abbrev CtxNo := Fin 4

/-- A VLAN identifier, 0 to 4095. -/
abbrev Tag := Fin 4096

/-- An Ethernet packet: its bytes from the destination address to the last byte of the FCS. -/
abbrev Packet := List Byte

end Sys2Proof
end

