-- ==== Sys2Proof/Config.lean ====
section
/-! DEFINITION. The fixed sizes of the LK-6240 that its rules name, and the one level the spec leaves
to the board. No value the spec gives a meaning to is left open, so there is no free value here. -/

namespace Sys2Proof.Config

/-- The largest value of every counter (R186). -/
def counterMax : Nat := 4294967295

/-- Buffer cells of the PBR (R126). -/
def bufferCells : Nat := 32768

/-- Bytes in one buffer cell (R126). -/
def cellBytes : Nat := 256

/-- The shortest packet, in bytes (R96). -/
def packetMin : Nat := 64

/-- The longest packet, in bytes (R96). -/
def packetMax : Nat := 9216

/-- Flows in one chain (R86). -/
def chainMax : Nat := 16

/-- Requests in the request queue (R173). -/
def requestMax : Nat := 4

/-- Packets in the trunk transmitter's transmit queue (R177). -/
def transmitMax : Nat := 64

/-- Notices in the notice queue (R184). -/
def noticeMax : Nat := 32

/-- Commands in one request (R174). -/
def commandMax : Nat := 16

/-- The cap of the pacer credit (R62). -/
def creditMax : Nat := 1024

/-- The cost of one binding (R63). -/
def bindCost : Nat := 256

/-- Failures that end an attempt (R74). -/
def failureLimit : Nat := 3

/-- Adjustment rounds of one attempt (R70). -/
def adjustLimit : Nat := 4

/-- The largest sample and quality value, in qu (R27). -/
def qualityMax : Nat := 500

/-- The levels of the eight address straps at power-on. DESIGN CHOICE (notes/assumptions/1.md): the
straps are the board's, and a DEVICE_RESET command carries the levels it samples. Unsafe. -/
def powerOnStraps : Byte := 0#8

end Sys2Proof.Config
end

