-- ==== Sys2Proof/Machine/Table.lean ====
section
/-! DEFINITION. A table of `n` records held sparsely: only the records that differ from the record
`d` every index holds after device reset are listed, in ascending order of index. The form is carried
by the table itself, so that two tables that read alike are equal data. -/

namespace Sys2Proof.Machine

/-- The canonical form of a table's entries: indices strictly rising, and no entry equal to the
record an unlisted index reads as. -/
abbrev Canonical {α : Type} {n : Nat} (d : α) (l : List (Fin n × α)) : Prop :=
  l.Pairwise (fun a b => a.1 < b.1) ∧ ∀ e ∈ l, e.2 ≠ d

/-- A table of `n` records whose unlisted indices read as `d`. -/
structure Table {α : Type} (n : Nat) (d : α) where
  /-- The records that differ from `d`, by ascending index. -/
  entries : List (Fin n × α)
  /-- The canonical form. -/
  wf : Canonical d entries
  deriving DecidableEq, Repr

/-- Look an index up in a list of entries. -/
def lookupIn {α : Type} {n : Nat} (d : α) (k : Fin n) : List (Fin n × α) → α
  | [] => d
  | e :: rest => if e.1 = k then e.2 else lookupIn d k rest

/-- Write a record at an index of an ascending list of entries: the record replaces the one listed
there, and the default record is not listed. -/
def insertIn {α : Type} [DecidableEq α] {n : Nat} (d : α) (k : Fin n) (v : α) :
    List (Fin n × α) → List (Fin n × α)
  | [] => if v = d then [] else [(k, v)]
  | e :: rest =>
    if k < e.1 then (if v = d then e :: rest else (k, v) :: e :: rest)
    else if e.1 = k then (if v = d then rest else (k, v) :: rest)
    else e :: insertIn d k v rest

/-- Apply a change to every listed record, dropping those that become the default record. -/
def mapIn {α : Type} [DecidableEq α] {n : Nat} (d : α) (f : Fin n → α → α)
    (l : List (Fin n × α)) : List (Fin n × α) :=
  (l.map (fun e => (e.1, f e.1 e.2))).filter (fun e => e.2 ≠ d)

section Canonical
variable {α : Type} [DecidableEq α] {n : Nat} {d : α}

theorem mem_insertIn (k : Fin n) (v : α) (l : List (Fin n × α)) (x : Fin n × α)
    (h : x ∈ insertIn d k v l) : x = (k, v) ∨ x ∈ l := by
  induction l with
  | nil =>
    unfold insertIn at h
    split at h <;> simp_all
  | cons e rest ih =>
    unfold insertIn at h
    split at h
    · split at h
      · exact .inr h
      · exact (List.mem_cons.mp h).imp_right id
    · split at h
      · split at h
        · exact .inr (List.mem_cons_of_mem _ h)
        · exact (List.mem_cons.mp h).imp_right (List.mem_cons_of_mem _)
      · rcases List.mem_cons.mp h with rfl | h
        · exact .inr (by simp)
        · exact (ih h).imp_right (List.mem_cons_of_mem _)

theorem insertIn_bound (k : Fin n) (v : α) (j : Fin n) (l : List (Fin n × α))
    (hl : ∀ e ∈ l, j < e.1) (hj : j < k) : ∀ e ∈ insertIn d k v l, j < e.1 := by
  intro x hx
  rcases mem_insertIn k v l x hx with rfl | h
  · exact hj
  · exact hl x h

theorem insertIn_canonical (k : Fin n) (v : α) (l : List (Fin n × α)) (h : Canonical d l) :
    Canonical d (insertIn d k v l) := by
  induction l with
  | nil => unfold insertIn; split <;> simp_all [Canonical]
  | cons e rest ih =>
    obtain ⟨hp, hd⟩ := h
    obtain ⟨hlt, hp'⟩ := List.pairwise_cons.mp hp
    have hd' : ∀ x ∈ rest, x.2 ≠ d := fun x hx => hd x (by simp [hx])
    unfold insertIn
    split
    · rename_i hk
      split
      · exact ⟨hp, hd⟩
      · rename_i hv
        refine ⟨List.pairwise_cons.mpr ⟨?_, hp⟩, ?_⟩
        · intro x hx
          rcases List.mem_cons.mp hx with rfl | h
          · exact hk
          · exact lt_trans hk (hlt x h)
        · intro x hx
          rcases List.mem_cons.mp hx with rfl | h
          · exact hv
          · exact hd x h
    · rename_i hk
      split
      · rename_i he
        split
        · exact ⟨hp', hd'⟩
        · rename_i hv
          refine ⟨List.pairwise_cons.mpr ⟨?_, hp'⟩, ?_⟩
          · intro x hx; exact he ▸ hlt x hx
          · intro x hx
            rcases List.mem_cons.mp hx with rfl | h
            · exact hv
            · exact hd' x h
      · rename_i he
        have hlt' : e.1 < k := lt_of_le_of_ne (not_lt.mp hk) he
        obtain ⟨ip, id'⟩ := ih ⟨hp', hd'⟩
        refine ⟨List.pairwise_cons.mpr ⟨insertIn_bound k v e.1 rest hlt hlt', ip⟩, ?_⟩
        intro x hx
        rcases List.mem_cons.mp hx with rfl | h
        · exact hd x (by simp)
        · exact id' x h

theorem mapIn_canonical (f : Fin n → α → α) (l : List (Fin n × α)) (h : Canonical d l) :
    Canonical d (mapIn d f l) := by
  refine ⟨List.Pairwise.filter _ ?_, ?_⟩
  · exact List.pairwise_map.mpr h.1
  · intro e he
    simpa using (List.mem_filter.mp he).2

end Canonical

/-- The table every index of which holds the default record. -/
def Table.empty {α : Type} {n : Nat} {d : α} : Table n d := ⟨[], by simp [Canonical]⟩

/-- The record at an index. -/
def Table.get {α : Type} {n : Nat} {d : α} (t : Table n d) (k : Fin n) : α :=
  lookupIn d k t.entries

/-- The table with the record at one index replaced. -/
def Table.put {α : Type} [DecidableEq α] {n : Nat} {d : α} (t : Table n d) (k : Fin n) (v : α) :
    Table n d :=
  ⟨insertIn d k v t.entries, insertIn_canonical k v t.entries t.wf⟩

/-- The table with a change applied to every record (the change keeps the default record). -/
def Table.map {α : Type} [DecidableEq α] {n : Nat} {d : α} (t : Table n d)
    (f : Fin n → α → α) : Table n d :=
  ⟨mapIn d f t.entries, mapIn_canonical f t.entries t.wf⟩

/-- The indices, ascending, of the records that satisfy a test the default record fails. -/
def Table.keys {α : Type} {n : Nat} {d : α} (t : Table n d) (p : Fin n → α → Bool) : List (Fin n) :=
  (t.entries.filter (fun e => p e.1 e.2)).map Prod.fst

/-- The sum of a quantity over every record (the quantity is 0 on the default record). -/
def Table.total {α : Type} {n : Nat} {d : α} (t : Table n d) (g : α → Nat) : Nat :=
  (t.entries.map (fun e => g e.2)).sum

end Sys2Proof.Machine
end

