-- ==== Sys2Proof/Syntax.lean ====
section
/-! DEFINITION. The commands and events the LK-6240 takes: one constructor per row of
spec/opcode_table.json, in the table's order, with the row's operands. -/

namespace Sys2Proof

/-- A record on the Sector Record Link as it arrives or leaves: the bytes of its frame (spec/11, 11.5), whose
fields Machine/Bytes.lean reads. The link delivers each record whole (R190). -/
structure LinkRecord where
  /-- The kind byte, the four-byte body length, the body, and the CRC-16 in the last two bytes. -/
  bytes : List Byte
  deriving DecidableEq, Repr

/-- The commands and events of spec/opcode_table.json. A record row carries the record as received, a
packet row the packet as received, and a management command row the source address of its request and
its body bytes (spec/11, 11.2); the row itself is the command's code. A row of an event inside one of
the blocks carries the index the event names, if it names one. -/
inductive Instr where
  /-- FRAME_START (R161). -/
  | frameStart (r : LinkRecord)
  /-- BURST_REPORT (R165). -/
  | burstReport (r : LinkRecord)
  /-- MISS_REPORT (R166). -/
  | missReport (r : LinkRecord)
  /-- RANGING_REPORT (R69, R167). -/
  | rangingReport (r : LinkRecord)
  /-- RANGING_MISS (R72, R167). -/
  | rangingMiss (r : LinkRecord)
  /-- SECTOR_STATE (R163, R164). -/
  | sectorState (r : LinkRecord)
  /-- TRUNK_PACKET_ARRIVAL (R96). -/
  | trunkPacketArrival (p : Packet)
  /-- DEVICE_RESET (R23): the reset input, with the levels of the eight address straps. -/
  | deviceReset (straps : Byte)
  /-- QMON_FRAME_EVENT (R26). -/
  | qmonFrameEvent
  /-- TMGR_FRAME_EVENT (R14). -/
  | tmgrFrameEvent
  /-- DOWN_TIMER_EXPIRY (R14). -/
  | downTimerExpiry (slot : Slot)
  /-- REC_FRAME_EVENT (R64). -/
  | recFrameEvent
  /-- RESPONSE_TIMEOUT (R67). -/
  | responseTimeout (ctx : CtxNo)
  /-- READMISSION_SCAN (R113). -/
  | readmissionScan
  /-- PBR_FRAME_EVENT (R131). -/
  | pbrFrameEvent
  /-- STALE_DISCARD (R132). -/
  | staleDiscard (flow : FlowIdx)
  /-- GBLD_FRAME_EVENT (R148). -/
  | gbldFrameEvent
  /-- GRANT_TAKE (R66). -/
  | grantTake
  /-- WINDOW_COMPLETE (R28). -/
  | windowComplete (slot : Slot)
  /-- REQUEST_TAKE (R174). -/
  | requestTake
  /-- TRANSMIT_COMPLETE (R177). -/
  | transmitComplete
  /-- NOTICE_SEND (R185). -/
  | noticeSend
  /-- UNKNOWN_COMMAND (R175): a command record whose code names no command. -/
  | unknownCommand (src : Mac) (code : Byte) (body : List Byte)
  /-- PROVISION_TERMINAL (R6). -/
  | provisionTerminal (src : Mac) (body : List Byte)
  /-- SET_TERMINAL (R7). -/
  | setTerminal (src : Mac) (body : List Byte)
  /-- PARK_TERMINAL (R9, R10). -/
  | parkTerminal (src : Mac) (body : List Byte)
  /-- RELEASE_TERMINAL (R8). -/
  | releaseTerminal (src : Mac) (body : List Byte)
  /-- DEPROVISION_TERMINAL (R11). -/
  | deprovisionTerminal (src : Mac) (body : List Byte)
  /-- FORCE_PROFILE (R51). -/
  | forceProfile (src : Mac) (body : List Byte)
  /-- WRITE_PROFILE (R41). -/
  | writeProfile (src : Mac) (body : List Byte)
  /-- INVALIDATE_PROFILE (R42). -/
  | invalidateProfile (src : Mac) (body : List Byte)
  /-- SET_FLOW (R87). -/
  | setFlow (src : Mac) (body : List Byte)
  /-- UNBIND_FLOW (R91). -/
  | unbindFlow (src : Mac) (body : List Byte)
  /-- ENABLE_FLOW (R92). -/
  | enableFlow (src : Mac) (body : List Byte)
  /-- DISABLE_FLOW (R93). -/
  | disableFlow (src : Mac) (body : List Byte)
  /-- MAP_TAGS (R95). -/
  | mapTags (src : Mac) (body : List Byte)
  /-- SET_SECTOR (R181). -/
  | setSector (src : Mac) (body : List Byte)
  /-- RESTART_SECTOR (R182). -/
  | restartSector (src : Mac) (body : List Byte)
  /-- READ_TERMINAL (R179). -/
  | readTerminal (src : Mac) (body : List Byte)
  /-- READ_FLOW (R179). -/
  | readFlow (src : Mac) (body : List Byte)
  /-- READ_PROFILE (R40). -/
  | readProfile (src : Mac) (body : List Byte)
  /-- READ_SECTOR (R180). -/
  | readSector (src : Mac) (body : List Byte)
  /-- READ_TAGS (R94). -/
  | readTags (src : Mac) (body : List Byte)
  /-- READ_REENTRY_QUEUE (R61). -/
  | readReentryQueue (src : Mac) (body : List Byte)
  /-- READ_READMISSION_LIST (R105). -/
  | readReadmissionList (src : Mac) (body : List Byte)
  /-- READ_CONTEXTS (R65). -/
  | readContexts (src : Mac) (body : List Byte)
  /-- READ_LEDGER (R179). -/
  | readLedger (src : Mac) (body : List Byte)
  /-- CLEAR_COUNTERS (R186). -/
  | clearCounters (src : Mac) (body : List Byte)
  /-- CLEAR_FLAGS (R183). -/
  | clearFlags (src : Mac) (body : List Byte)
  deriving DecidableEq, Repr

end Sys2Proof
end

