-- ==== Sys2Proof/Machine/State.lean ====
section
/-! DEFINITION. The state of the LK-6240: the tables and records of its ten blocks, the events that
are announced between them and not yet taken, and the commands waiting outside. Plain data. -/

namespace Sys2Proof.Machine

/-! ### Terminals (R1, R24, R44, R108) -/

/-- The eight service states (R5). -/
inductive TermState where
  | absent | parked | down | queued | ranging | ramping | inService | fading
  deriving DecidableEq, Repr

/-- The state a FADING terminal left (R17). -/
inductive FadeOrigin where
  | ramping | inService
  deriving DecidableEq, Repr

/-- The resume policies LAST and DEFAULT (R1). -/
inductive ResumePolicy where
  | last | sectorDefault
  deriving DecidableEq, Repr

/-- The outcome codes of an attempt (R75, spec/11 11.3). -/
inductive AttemptOutcome where
  | admitted | noResponse | corrupt | weak | proveFailed | identityMismatch | adjustLimit
  | sectorLost | parked
  deriving DecidableEq, Repr

/-- A window result as the terminal record keeps it (R24). The frame number is the QMON's result stamp,
absent where the stamp is absent (DEDUCED, notes/assumptions/27.md). -/
structure WindowResult where
  q : Nat
  impaired : Bool
  frame : Option FrameNo
  deriving DecidableEq, Repr

/-- A measurement window record (R24). -/
structure Window where
  samples : Nat := 0
  sum : Nat := 0
  crcBad : Nat := 0
  settling : Bool := false
  misses : Nat := 0
  deriving DecidableEq, Repr

/-- The six counters of a terminal (R3). -/
structure TermCounters where
  bursts : Nat := 0
  crcBad : Nat := 0
  misses : Nat := 0
  attempts : Nat := 0
  failed : Nat := 0
  outages : Nat := 0
  deriving DecidableEq, Repr

/-- A terminal record (R1), with its window record (R24), its dwell count (R44) and its needs (R108).
The field defaults are the values after device reset. -/
structure Terminal where
  state : TermState := .absent
  identity : Option Mac := none
  freeze : Bool := false
  cls : Fin 4 := 0
  policy : ResumePolicy := .sectorDefault
  ceiling : ProfIdx := 0
  current : Option ProfIdx := none
  resume : Option ProfIdx := none
  beforeFade : Option FadeOrigin := none
  timer : Option Nat := none
  failedAttempts : Nat := 0
  lastOutcome : Option AttemptOutcome := none
  lastResult : Option WindowResult := none
  outageSeen : Bool := false
  chainHead : Option FlowIdx := none
  counters : TermCounters := {}
  window : Window := {}
  dwell : Nat := 0
  needUp : Nat := 0
  needDown : Nat := 0
  deriving DecidableEq, Repr

/-- The terminal record after device reset: ABSENT (R1, R23). -/
abbrev Terminal.reset : Terminal := {}

/-! ### Profiles (R40) -/

/-- A profile table entry (R40). The field defaults are those of profiles 1 to 11 after reset. -/
structure Profile where
  valid : Bool := false
  density : Nat := 0
  overhead : Nat := 0
  entry : Nat := 0
  exit : Nat := 0
  dwell : Nat := 0
  deriving DecidableEq, Repr

/-- The entry that profiles 1 to 11 hold after device reset (R40). -/
abbrev Profile.reset : Profile := {}

/-! ### Flows (R84, R85, R127, R140) -/

/-- The directions of a flow (R84). -/
inductive Direction where
  | down | up
  deriving DecidableEq, Repr

/-- The fade policies (R84). -/
inductive FadePolicy where
  | hold | shed
  deriving DecidableEq, Repr

/-- The waiting causes (R103). -/
inductive Cause where
  | new | outage | shed | parked
  deriving DecidableEq, Repr

/-- The flow states (R102), a waiting cause being present exactly in WAITING (R103). -/
inductive FlowState where
  | disabled
  | waiting (cause : Cause)
  | admitted
  deriving DecidableEq, Repr

/-- An entry of a flow queue: the packet's bytes and its arrival frame number (R127). The entry's
length and cells are computed from the bytes. -/
structure QEntry where
  bytes : Packet
  arrival : Option FrameNo
  deriving DecidableEq, Repr

/-- A backlog marker (R140). -/
structure Marker where
  remaining : Nat
  released : Nat
  discarded : Nat
  deriving DecidableEq, Repr

/-- The eight counters of a flow (R85). -/
structure FlowCounters where
  enqueued : Nat := 0
  released : Nat := 0
  full : Nat := 0
  shed : Nat := 0
  stale : Nat := 0
  disabled : Nat := 0
  noBuf : Nat := 0
  flush : Nat := 0
  deriving DecidableEq, Repr

/-- A flow record (R84) with its queue, release credit and backlog marker (R127). The field defaults
are the values after device reset. -/
structure Flow where
  bound : Option Slot := none
  dir : Direction := .down
  cls : Fin 8 := 7
  cb : Nat := 0
  pb : Nat := 0
  policy : FadePolicy := .hold
  limit : Nat := 64
  holdAge : Nat := 1000
  state : FlowState := .disabled
  chainNext : Option FlowIdx := none
  counters : FlowCounters := {}
  queue : List QEntry := []
  credit : Nat := 0
  marker : Option Marker := none
  deriving DecidableEq, Repr

/-- The flow record after device reset (R84). -/
abbrev Flow.reset : Flow := {}

/-! ### Re-entry (R58 to R66) -/

/-- The stages of a ranging context (R65). -/
inductive Stage where
  | invitePending | inviteWait | provePending | proveWait
  deriving DecidableEq, Repr

/-- The attempt a bound ranging context holds (R65). A free context holds none, so every field of it is
absent. -/
structure Attempt where
  terminal : Slot
  stage : Stage := .invitePending
  failures : Nat := 0
  adjusts : Nat := 0
  timer : Option Nat := none
  slotFrame : Option FrameNo := none
  entryProfile : Option ProfIdx := none
  sample : Option Nat := none
  parkPending : Bool := false
  deriving DecidableEq, Repr

/-- The kinds of a context entry in a grant list (R149). -/
inductive GrantKind where
  | ranging | proving
  deriving DecidableEq, Repr

/-- A grant the GBLD has handed to the REC (R154). -/
structure Grant where
  ctx : CtxNo
  terminal : Slot
  kind : GrantKind
  frame : FrameNo
  deriving DecidableEq, Repr

/-- The Re-entry Controller's state: the queue (R58), the contexts (R65), the pacer credit (R62) and the
grants handed to it and not yet taken (R66). -/
structure Reentry where
  queue : List Slot := []
  contexts : Table 4 (none : Option Attempt) := Table.empty
  credit : Nat := 0
  grants : List Grant := []
  deriving DecidableEq, Repr

/-! ### Ledger, buffer, link -/

/-- The Capacity Ledger's own state: the Readmission List (R104) and the loads (R108). -/
structure Ledger where
  list : List FlowIdx := []
  loadUp : Nat := 0
  loadDown : Nat := 0
  deriving DecidableEq, Repr

/-- The packet buffer's free cell count (R126) and the PBR's arrival stamp (R128). -/
structure Buffer where
  freeCells : Nat := Config.bufferCells
  stamp : Option FrameNo := none
  deriving DecidableEq, Repr

/-- For each of the six blocks, the frame events announced to it and not yet taken, oldest first
(R162). -/
structure FrameEvents where
  qmon : List FrameNo := []
  tmgr : List FrameNo := []
  reec : List FrameNo := []
  cled : List FrameNo := []
  pbr : List FrameNo := []
  gbld : List FrameNo := []
  deriving DecidableEq, Repr

/-- The Sector Link Interface's state: current frame number (R161), sector state (R163), announced frame
events (R162) and the records handed to it for the modem, in the order of handing (R170). -/
structure Link where
  frame : Option FrameNo := none
  sectorUp : Bool := false
  announced : FrameEvents := {}
  outgoing : List LinkRecord := []
  deriving DecidableEq, Repr

/-- The ten sector counters (R186). -/
structure SectorCounters where
  trunkErrors : Nat := 0
  unclassified : Nat := 0
  misdirected : Nat := 0
  upForwarded : Nat := 0
  upDropped : Nat := 0
  noBuffer : Nat := 0
  linkErrors : Nat := 0
  frameGaps : Nat := 0
  sectorLosses : Nat := 0
  strayReports : Nat := 0
  deriving DecidableEq, Repr

/-! ### Management -/

/-- The five notice classes (R183). -/
inductive NoticeClass where
  | terminal | attempt | capacity | backlog | sector
  deriving DecidableEq, Repr

/-- A subset of the notice classes: the event enable set or the class flags (R181, R183). -/
structure ClassSet where
  terminal : Bool := false
  attempt : Bool := false
  capacity : Bool := false
  backlog : Bool := false
  sector : Bool := false
  deriving DecidableEq, Repr

/-- The notices of R183's table, each with its kind, subject and detail. A flow's terminal is the one it
is bound to. -/
inductive NoticeBody where
  | down (slot : Slot)
  | ramping (slot : Slot)
  | inService (slot : Slot)
  | fading (slot : Slot)
  | identity (slot : Slot) (learned : Mac)
  | attempt (slot : Slot) (ctx : CtxNo) (outcome : AttemptOutcome) (failedAttempts : Nat)
  | shed (flow : FlowIdx) (terminal : Option Slot) (dir : Direction) (cls : Fin 8)
      (profile : Option ProfIdx) (load : Nat)
  | admitted (flows : List FlowIdx)
  | drained (flow : FlowIdx) (terminal : Option Slot) (released discarded : Nat)
  | stale (flow : FlowIdx) (terminal : Option Slot) (state : FlowState) (discards : Nat)
  | sectorDown
  | sectorUp
  | frameGap (expected received gap : FrameNo)
  | restart
  deriving DecidableEq, Repr

/-- A notice in the notice queue (R184). -/
structure Notice where
  seq : Word16
  frame : Option FrameNo
  body : NoticeBody
  deriving DecidableEq, Repr

/-- The sector setup record (R181). The field defaults are the reset values of the table. -/
structure Setup where
  u : Nat := 6000
  d : Nat := 8000
  rs : Nat := 160
  m : Nat := 12
  a : Nat := 90
  w : Nat := 3
  eMax : Nat := 2
  mf : Nat := 3
  mo : Nat := 40
  settle : Nat := 200
  backoff : Nat := 50
  pacer : Nat := 64
  rMax : Nat := 4
  tr : Nat := 4
  timingWindow : Nat := 8
  powerWindow : Nat := 6
  defaultProfile : ProfIdx := 0
  enable : ClassSet := {}
  address : Mac
  deriving DecidableEq, Repr

/-- The ten result statuses (R176). -/
inductive Status where
  | ok | clamped | absent | busy | range | inUse | inconsistent | chainFull | unknown | length
  deriving DecidableEq, Repr

/-- A command record of a request (spec/11, 11.1). -/
structure CmdRecord where
  code : Byte
  body : List Byte
  deriving DecidableEq, Repr

/-- A command's result (R176, R177). -/
structure CmdResult where
  code : Byte
  status : Status
  body : List Byte
  deriving DecidableEq, Repr

/-- The well-formed request whose commands are being taken: the head of the request queue, its commands
still to take and the results of those taken (R174, R175). -/
structure ActiveRequest where
  source : Mac
  tag : Word16
  todo : List CmdRecord
  results : List CmdResult
  deriving DecidableEq, Repr

/-- The Management Agent's state (R173 to R187), the setup record apart. `lastResult` is the model's own
field: the result of the last management command taken (notes/assumptions/7.md). -/
structure Management where
  requests : List Packet := []
  active : Option ActiveRequest := none
  held : Option Packet := none
  notices : List Notice := []
  seq : Word16 := 0
  controller : Option Mac := none
  flags : ClassSet := {}
  overflow : Bool := false
  lastResult : Option CmdResult := none
  deriving DecidableEq, Repr

/-- The trunk transmitter: the packet being sent and the packets waiting in its transmit queue (R177). -/
structure Transmitter where
  sending : Option Packet := none
  queue : List Packet := []
  deriving DecidableEq, Repr

/-! ### The whole state -/

/-- The state of the LK-6240 and the commands waiting for it. -/
structure State where
  /-- The commands waiting, first in, first out: the model's own field. -/
  pending : List Instr
  /-- The levels of the address straps as they were last sampled. -/
  straps : Byte
  /-- The sector setup record, owned by the MAGT (R181). -/
  setup : Setup
  /-- The profile table, owned by the PCTL (R40). -/
  profiles : Table 12 Profile.reset
  /-- The terminal table, owned by the TMGR (R1). -/
  terms : Table 256 Terminal.reset
  /-- The flow table (R84). -/
  flows : Table 1024 Flow.reset
  /-- The tag map, owned by the TPC (R94). -/
  tags : Table 4096 (none : Option FlowIdx)
  /-- The SLI. -/
  link : Link
  /-- The REC. -/
  reentry : Reentry
  /-- The CLED. -/
  ledger : Ledger
  /-- The PBR. -/
  buffer : Buffer
  /-- The QMON's result stamp (R26). -/
  resultStamp : Option FrameNo
  /-- The MAGT. -/
  mgmt : Management
  /-- The trunk transmitter (R177). -/
  tx : Transmitter
  /-- The sector counters (R186). -/
  counters : SectorCounters
  deriving DecidableEq, Repr

/-- Reasons the machine stops with a fault. The spec gives every command an effect or a result, so there
is none. -/
inductive Fault where
  deriving DecidableEq, Repr

/-- Reasons a command has no meaning in the model. -/
inductive Refusal where
  /-- Raised by an arm of `exec` whose command has no meaning yet; safe, since the machine stops. No arm
  raises it. -/
  | notModelled (mnemonic : String)
  deriving DecidableEq, Repr

/-- Profile 0 after device reset (R40). -/
def Profile.zeroReset : Profile :=
  { valid := true, density := 8, overhead := 48, entry := 30, exit := 20, dwell := 1 }

/-- The part's reset Ethernet address: 02-00-5A-4C-00 and the strap octet (R181). -/
def resetAddress (straps : Byte) : Mac := 0x02005A4C00#40 ++ straps

/-- The machine right after a device reset that sampled the given strap levels (R23, R38, R56, R83, R100,
R124, R147, R172, R187). DESIGN CHOICE (notes/assumptions/31.md): frame events announced before the reset and not yet
taken are lost with the rest of the SLI's state. DESIGN CHOICE (notes/assumptions/32.md): the packet that the trunk
transmitter is sending is lost, whether payload, a response or a notice. Both unsafe. -/
def State.resetWith (straps : Byte) : State where
  pending := []
  straps := straps
  setup := { address := resetAddress straps }
  profiles := Table.empty.put 0 Profile.zeroReset
  terms := Table.empty
  flows := Table.empty
  tags := Table.empty
  link := {}
  reentry := {}
  ledger := {}
  buffer := {}
  resultStamp := none
  mgmt := {}
  tx := {}
  counters := {}

/-- The machine right after power-on reset. -/
def State.reset : State := State.resetWith Config.powerOnStraps

end Sys2Proof.Machine
end

