-- ==== Sys2Proof/Machine/Ops.lean ====
section
/-! DEFINITION. The named operations over the tables: reading and replacing one record, saturating
counters, and placement into an ordered list. -/

namespace Sys2Proof.Machine

/-! ### Counters -/

/-- A counter increased by an amount, saturating (R186). -/
def satAdd (c k : Nat) : Nat := min (c + k) Config.counterMax

/-- The sector counters changed. -/
def State.count (s : State) (f : SectorCounters → SectorCounters) : State :=
  { s with counters := f s.counters }

/-! ### Records of the tables -/

/-- The terminal record of a slot. -/
def State.term (s : State) (i : Slot) : Terminal := s.terms.get i

/-- A terminal record changed. -/
def State.modTerm (s : State) (i : Slot) (f : Terminal → Terminal) : State :=
  { s with terms := s.terms.put i (f (s.term i)) }

/-- The record of a flow. -/
def State.flow (s : State) (i : FlowIdx) : Flow := s.flows.get i

/-- A flow record changed. -/
def State.modFlow (s : State) (i : FlowIdx) (f : Flow → Flow) : State :=
  { s with flows := s.flows.put i (f (s.flow i)) }

/-- A profile table entry. -/
def State.profile (s : State) (p : ProfIdx) : Profile := s.profiles.get p

/-- The attempt a context holds, if it is bound. -/
def State.ctx (s : State) (c : CtxNo) : Option Attempt := s.reentry.contexts.get c

/-- A context written. -/
def State.setCtx (s : State) (c : CtxNo) (a : Option Attempt) : State :=
  { s with reentry := { s.reentry with contexts := s.reentry.contexts.put c a } }

/-- The context numbers in ascending order. -/
def allContexts : List CtxNo := [0, 1, 2, 3]

/-- The context bound to a terminal, with its attempt (R65). -/
def State.contextOf (s : State) (i : Slot) : Option (CtxNo × Attempt) :=
  allContexts.findSome? fun c =>
    match s.ctx c with
    | some a => if a.terminal = i then some (c, a) else none
    | none => none

/-! ### States -/

/-- Whether a service state is one of the three serviced states (R5). -/
def TermState.serviced : TermState → Bool
  | .ramping | .inService | .fading => true
  | .absent | .parked | .down | .queued | .ranging => false

/-- Whether a terminal is RAMPING or IN_SERVICE. -/
def TermState.active : TermState → Bool
  | .ramping | .inService => true
  | .absent | .parked | .down | .queued | .ranging | .fading => false

/-- Whether a flow state is WAITING. -/
def FlowState.isWaiting : FlowState → Bool
  | .waiting _ => true
  | .disabled | .admitted => false

/-- Whether a flow state is ADMITTED. -/
def FlowState.isAdmitted : FlowState → Bool
  | .admitted => true
  | .disabled | .waiting _ => false

/-- The waiting cause a flow state carries (R103). -/
def FlowState.cause? : FlowState → Option Cause
  | .waiting c => some c
  | .disabled | .admitted => none

/-! ### Ordered lists (R59, R104) -/

/-- An item placed after every entry of its own class and of better classes, ahead of the entries of
worse classes. -/
def placeByClass {α : Type} (cls : α → Nat) (x : α) (l : List α) : List α :=
  l.takeWhile (fun y => cls y ≤ cls x) ++ x :: l.dropWhile (fun y => cls y ≤ cls x)

/-! ### Flow chains (R86) -/

/-- The flows from a link onward, following chain next. -/
def State.walkChain (s : State) : Nat → Option FlowIdx → List FlowIdx
  | 0, _ => []
  | _, none => []
  | n + 1, some f => f :: s.walkChain n (s.flow f).chainNext

/-- The chain of a terminal: at most 16 flows from its chain head (R86). -/
def State.chain (s : State) (i : Slot) : List FlowIdx :=
  s.walkChain Config.chainMax (s.term i).chainHead

/-- Link flows one to the next in the given order, the last to none. -/
def State.relink (s : State) : List FlowIdx → State
  | [] => s
  | f :: rest => (s.modFlow f fun r => { r with chainNext := rest.head? }).relink rest

/-- Give a terminal the chain that holds the given flows in the given order. -/
def State.setChain (s : State) (i : Slot) (l : List FlowIdx) : State :=
  (s.modTerm i fun t => { t with chainHead := l.head? }).relink l

/-- Whether flow `f` stands before flow `g` in a chain: class ascending, then index ascending (R86). -/
def State.chainBefore (s : State) (f g : FlowIdx) : Bool :=
  (s.flow f).cls < (s.flow g).cls || ((s.flow f).cls == (s.flow g).cls && f < g)

/-- Link a flow into a terminal's chain at its place by class and index (R88). -/
def State.linkFlow (s : State) (i : Slot) (f : FlowIdx) : State :=
  s.setChain i
    ((s.chain i).takeWhile (fun g => s.chainBefore g f) ++ f ::
      (s.chain i).dropWhile (fun g => s.chainBefore g f))

/-- Unlink a flow from a terminal's chain, the other flows keeping their order (R88, R91). -/
def State.unlinkFlow (s : State) (i : Slot) (f : FlowIdx) : State :=
  (s.setChain i ((s.chain i).filter (· ≠ f))).modFlow f fun r => { r with chainNext := none }

end Sys2Proof.Machine
end

