-- ==== Sys2Proof/Machine/Flags.lean ====
section
/-! DEFINITION. The sticky flags, the enable set and the taking of a notice (R183, R184). -/

namespace Sys2Proof.Machine

/-- Whether a class stands in a set. -/
def ClassSet.has (c : ClassSet) : NoticeClass → Bool
  | .terminal => c.terminal
  | .attempt => c.attempt
  | .capacity => c.capacity
  | .backlog => c.backlog
  | .sector => c.sector

/-- The set with a class added. -/
def ClassSet.mark (c : ClassSet) : NoticeClass → ClassSet
  | .terminal => { c with terminal := true }
  | .attempt => { c with attempt := true }
  | .capacity => { c with capacity := true }
  | .backlog => { c with backlog := true }
  | .sector => { c with sector := true }

/-- The class of a notice (R183's table). -/
def NoticeBody.cls : NoticeBody → NoticeClass
  | .down _ | .ramping _ | .inService _ | .fading _ | .identity _ _ => .terminal
  | .attempt _ _ _ _ => .attempt
  | .shed _ _ _ _ _ _ | .admitted _ => .capacity
  | .drained _ _ _ _ | .stale _ _ _ _ => .backlog
  | .sectorDown | .sectorUp | .frameGap _ _ _ | .restart => .sector

/-- The MAGT's part of a notice (R183, R184): the class flag is set; the notice is discarded if its class
is not enabled or no controller address is present; otherwise it takes the next sequence number and joins
the queue, or is discarded at a full queue with NOTICE_OVERFLOW set. -/
def Management.take (m : Management) (enable : ClassSet) (frame : Option FrameNo)
    (b : NoticeBody) : Management :=
  let m := { m with flags := m.flags.mark b.cls }
  if enable.has b.cls && m.controller.isSome then
    if m.notices.length < Config.noticeMax then
      { m with seq := m.seq + 1, notices := m.notices ++ [⟨m.seq, frame, b⟩] }
    else
      { m with seq := m.seq + 1, overflow := true }
  else m

/-- Hand a notice to the MAGT. It carries the SLI's current frame number (R162, R184). -/
def State.raise (s : State) (b : NoticeBody) : State :=
  { s with mgmt := s.mgmt.take s.setup.enable s.link.frame b }

end Sys2Proof.Machine
end

