-- ==== Sys2Proof/Machine/Queues.lean ====
section
/-! DEFINITION. The packet buffer, the flow queues, the release credit and the backlog marker (R126 to
R130, R140 to R143, R146). -/

namespace Sys2Proof.Machine

/-- The cells a packet of some bytes occupies (R126). -/
def cellsOf (bytes : Nat) : Nat := (bytes + (Config.cellBytes - 1)) / Config.cellBytes

/-- An entry's length in bytes (R127). -/
def QEntry.len (e : QEntry) : Nat := e.bytes.length

/-- An entry's cells (R127). -/
def QEntry.cells (e : QEntry) : Nat := cellsOf e.len

/-- The cells a flow's queue holds (R127). -/
def Flow.cellsHeld (f : Flow) : Nat := (f.queue.map QEntry.cells).sum

/-- Cells returned to the free cells of the buffer (R126). -/
def State.freeUp (s : State) (n : Nat) : State :=
  { s with buffer := { s.buffer with freeCells := s.buffer.freeCells + n } }

/-- A flow leaves ADMITTED: its credit becomes 0 and its marker absent, without a notice (R102, R141). -/
def State.dropCredit (s : State) (f : FlowIdx) : State :=
  s.modFlow f fun r => { r with credit := 0, marker := none }

/-- One counted entry leaves the queue, released or discarded: the marker counts it, and when its
remaining reaches 0 a DRAINED notice is raised and the marker becomes absent (R141). -/
def State.countMarker (s : State) (f : FlowIdx) (released : Bool) : State :=
  match (s.flow f).marker with
  | none => s
  | some m =>
    let rel := if released then m.released + 1 else m.released
    let dis := if released then m.discarded else m.discarded + 1
    if m.remaining - 1 = 0 then
      (s.modFlow f fun r => { r with marker := none }).raise
        (.drained f (s.flow f).bound rel dis)
    else
      s.modFlow f fun r =>
        { r with marker := some ⟨m.remaining - 1, rel, dis⟩ }

/-- Release the head entry of a flow's queue (R130). -/
def State.releaseHead (s : State) (f : FlowIdx) : State :=
  match (s.flow f).queue with
  | [] => s
  | e :: rest =>
    (((s.modFlow f fun r => { r with
        queue := rest
        counters := { r.counters with released := satAdd r.counters.released 1 } }).freeUp
      e.cells).countMarker f true)

/-- Discard the head entry of a flow's queue with reason STALE (R130, R132). -/
def State.discardStale (s : State) (f : FlowIdx) : State :=
  match (s.flow f).queue with
  | [] => s
  | e :: rest =>
    (((s.modFlow f fun r => { r with
        queue := rest
        counters := { r.counters with stale := satAdd r.counters.stale 1 } }).freeUp
      e.cells).countMarker f false)

/-- Discard the tail entry of a flow's queue with reason FULL (R90). The marker counts the discard where
the queue held no more entries than the marker's remaining (R141). -/
def State.discardTail (s : State) (f : FlowIdx) : State :=
  match (s.flow f).queue.getLast? with
  | none => s
  | some e =>
    let s' := (s.modFlow f fun r => { r with
        queue := r.queue.dropLast
        counters := { r.counters with full := satAdd r.counters.full 1 } }).freeUp e.cells
    match (s.flow f).marker with
    | none => s'
    | some m => if (s.flow f).queue.length ≤ m.remaining then s'.countMarker f false else s'

/-- Discard from the tail, one entry at a time, until the cells held are no more than the limit (R90).
The first argument bounds the number of entries discarded. -/
def State.trimTail (f : FlowIdx) : Nat → State → State
  | 0, s => s
  | n + 1, s =>
    if (s.flow f).cellsHeld ≤ (s.flow f).limit then s else State.trimTail f n (s.discardTail f)

/-- A lowered queue limit takes effect: as many tail discards as the limit asks for (R90). -/
def State.trimToLimit (s : State) (f : FlowIdx) : State :=
  State.trimTail f (s.flow f).queue.length s

/-- Discard a flow's whole queue with reason SHED, one count per packet (R143). -/
def State.discardShed (s : State) (f : FlowIdx) : State :=
  (s.modFlow f fun r => { r with
      queue := []
      counters := { r.counters with shed := satAdd r.counters.shed r.queue.length } }).freeUp
    (s.flow f).cellsHeld

/-- Discard a flow's whole queue with reason FLUSH, one count per packet (R143). -/
def State.flushQueue (s : State) (f : FlowIdx) : State :=
  (s.modFlow f fun r => { r with
      queue := []
      counters := { r.counters with flush := satAdd r.counters.flush r.queue.length } }).freeUp
    (s.flow f).cellsHeld

/-- Take a packet handed for enqueue: the queue limit first, then the free cells; a packet that passes both
joins the tail with the arrival stamp (R128, R129). -/
def State.enqueue (s : State) (f : FlowIdx) (p : Packet) : State :=
  let c := cellsOf p.length
  if (s.flow f).limit < (s.flow f).cellsHeld + c then
    s.modFlow f fun r => { r with counters := { r.counters with full := satAdd r.counters.full 1 } }
  else if s.buffer.freeCells < c then
    (s.modFlow f fun r =>
      { r with counters := { r.counters with noBuf := satAdd r.counters.noBuf 1 } }).count
      fun k => { k with noBuffer := satAdd k.noBuffer 1 }
  else
    let s' := s.modFlow f fun r => { r with
      queue := r.queue ++ [⟨p, s.buffer.stamp⟩]
      counters := { r.counters with enqueued := satAdd r.counters.enqueued 1 } }
    { s' with buffer := { s'.buffer with freeCells := s'.buffer.freeCells - c } }

/-- A DOWN flow is admitted: the backlog marker is set if its queue holds packets (R140). -/
def State.setMarker (s : State) (f : FlowIdx) : State :=
  if (s.flow f).dir = .down ∧ (s.flow f).queue ≠ [] then
    s.modFlow f fun r => { r with marker := some ⟨r.queue.length, 0, 0⟩ }
  else s

/-- The PBR's part of a restart: every queue flushed, credits 0, markers absent, every cell free (R146). -/
def State.flushAll (s : State) : State :=
  { s with
    flows := s.flows.map fun _ r => { r with
      queue := []
      credit := 0
      marker := none
      counters := { r.counters with flush := satAdd r.counters.flush r.queue.length } }
    buffer := { s.buffer with freeCells := Config.bufferCells } }

end Sys2Proof.Machine
end

