-- ==== Sys2Proof/Machine/Bytes.lean ====
section
/-! DEFINITION. Byte order, field extraction and the two CRCs (R96, R188, R190). -/

namespace Sys2Proof.Machine

/-! ### Building: multi-byte numbers most significant byte first (R188) -/

/-- A two-byte number. -/
def be16 (w : Word16) : List Byte := [w.extractLsb' 8 8, w.extractLsb' 0 8]

/-- A four-byte number. -/
def be32 (w : Word32) : List Byte :=
  [w.extractLsb' 24 8, w.extractLsb' 16 8, w.extractLsb' 8 8, w.extractLsb' 0 8]

/-- A six-byte address or identity. -/
def be48 (w : Mac) : List Byte :=
  [w.extractLsb' 40 8, w.extractLsb' 32 8, w.extractLsb' 24 8, w.extractLsb' 16 8,
    w.extractLsb' 8 8, w.extractLsb' 0 8]

/-- A number in one byte. -/
def num8 (n : Nat) : Byte := BitVec.ofNat 8 n

/-- A number in two bytes. -/
def num16 (n : Nat) : List Byte := be16 (BitVec.ofNat 16 n)

/-- A number in four bytes. -/
def num32 (n : Nat) : List Byte := be32 (BitVec.ofNat 32 n)

/-- A byte of flag bits, bit 0 first in the list. -/
def flagByte (bits : List Bool) : Byte :=
  bits.foldr (fun b acc => (acc <<< 1) ||| (if b then 1#8 else 0#8)) 0#8

/-! ### Reading -/

/-- The byte at an offset; 0 beyond the end. -/
def byteAt (l : List Byte) (i : Nat) : Byte := l.getD i 0#8

/-- The two-byte number at an offset. -/
def word16At (l : List Byte) (i : Nat) : Word16 := byteAt l i ++ byteAt l (i + 1)

/-- The four-byte number at an offset. -/
def word32At (l : List Byte) (i : Nat) : Word32 := word16At l i ++ word16At l (i + 2)

/-- The six-byte address or identity at an offset. -/
def macAt (l : List Byte) (i : Nat) : Mac := word16At l i ++ word32At l (i + 2)

/-- The byte at an offset as a number. -/
def nat8At (l : List Byte) (i : Nat) : Nat := (byteAt l i).toNat

/-- The two-byte number at an offset as a number. -/
def nat16At (l : List Byte) (i : Nat) : Nat := (word16At l i).toNat

/-- A flag bit of the byte at an offset. -/
def bitAt (l : List Byte) (i bit : Nat) : Bool := (byteAt l i).getLsbD bit

/-- The slot a byte names. -/
def slotOf (b : Byte) : Slot := ⟨b.toNat, b.isLt⟩

/-- The slot named by the byte at an offset. -/
def slotAt (l : List Byte) (i : Nat) : Slot := slotOf (byteAt l i)

/-- The flow a number names, if it names one. -/
def flowOf (n : Nat) : Option FlowIdx := if h : n < 1024 then some ⟨n, h⟩ else none

/-- The profile a number names, if it names one. -/
def profileOf (n : Nat) : Option ProfIdx := if h : n < 12 then some ⟨n, h⟩ else none

/-- A number brought into a range by moving it to the nearer end (R176). -/
def clamp (lo hi n : Nat) : Nat := min hi (max lo n)

/-! ### The FCS (R96) -/

/-- One bit of the FCS computation. The register is held with the coefficient of x^31 in bit 0, so the
generator of R96 appears as EDB88320 and each byte enters least significant bit first. -/
def crc32Bit (c : Word32) : Word32 :=
  if c.getLsbD 0 then (c >>> 1) ^^^ 0xEDB88320#32 else c >>> 1

/-- One byte of the FCS computation. -/
def crc32Byte (c : Word32) (b : Byte) : Word32 :=
  crc32Bit (crc32Bit (crc32Bit (crc32Bit (crc32Bit (crc32Bit (crc32Bit (crc32Bit
    (c ^^^ b.setWidth 32))))))))

/-- The CRC-32 of a byte sequence, register at all ones first and inverted at the end (R96). -/
def crc32 (l : List Byte) : Word32 := ~~~ (l.foldl crc32Byte 0xFFFFFFFF#32)

/-- The four FCS bytes of a byte sequence: the coefficient of x^31 is the least significant bit of the
first (R96). -/
def fcsBytes (l : List Byte) : List Byte :=
  [(crc32 l).extractLsb' 0 8, (crc32 l).extractLsb' 8 8, (crc32 l).extractLsb' 16 8,
    (crc32 l).extractLsb' 24 8]

/-- A packet's bytes less its FCS. -/
def withoutFcs (p : Packet) : List Byte := p.take (p.length - 4)

/-- Whether a packet's FCS checks (R96). -/
def fcsChecks (p : Packet) : Bool := p.drop (p.length - 4) == fcsBytes (withoutFcs p)

/-- A packet sent by the part: padded with zero bytes to 64 with its FCS (R189), the FCS appended. -/
def sealPacket (l : List Byte) : Packet :=
  let padded := l ++ List.replicate (60 - l.length) 0#8
  padded ++ fcsBytes padded

/-! ### The CRC-16 of a record (R190) -/

/-- One bit of the CRC-16 computation, generator x^16 + x^12 + x^5 + 1, most significant bit first. -/
def crc16Bit (c : Word16) : Word16 :=
  if c.getMsbD 0 then (c <<< 1) ^^^ 0x1021#16 else c <<< 1

/-- One byte of the CRC-16 computation. -/
def crc16Byte (c : Word16) (b : Byte) : Word16 :=
  crc16Bit (crc16Bit (crc16Bit (crc16Bit (crc16Bit (crc16Bit (crc16Bit (crc16Bit
    (c ^^^ (b.setWidth 16 <<< 8)))))))))

/-- The CRC-16 of a byte sequence: register at all ones first, no final inversion (R190). -/
def crc16 (l : List Byte) : Word16 := l.foldl crc16Byte 0xFFFF#16

/-- The CRC-16 of a record's kind, length and body bytes, in the order sent (R190). -/
def recordCrc (kind : Byte) (length : Word32) (body : List Byte) : Word16 :=
  crc16 (kind :: be32 length ++ body)

/-! ### The frame of a record (spec/11, 11.5; R190) -/

/-- The bytes of a record's frame that are not its body: kind, body length and CRC-16. -/
def frameBytes : Nat := 7

/-- A record of a kind and a body, with its length and its check computed, the check's high byte first (R170,
R188, R190). -/
def mkRecord (kind : Byte) (body : List Byte) : LinkRecord where
  bytes := kind :: be32 (BitVec.ofNat 32 body.length) ++ body ++
    be16 (recordCrc kind (BitVec.ofNat 32 body.length) body)

end Sys2Proof.Machine

namespace Sys2Proof

open Sys2Proof.Machine

/-- The kind byte of a record, at offset 0. -/
def LinkRecord.kind (r : LinkRecord) : Byte := byteAt r.bytes 0

/-- The body length a record states, at offsets 1 to 4. -/
def LinkRecord.length (r : LinkRecord) : Word32 := word32At r.bytes 1

/-- The body of a record: the bytes from offset 5 to before the last two. -/
def LinkRecord.body (r : LinkRecord) : List Byte := (r.bytes.drop 5).take (r.bytes.length - frameBytes)

/-- The CRC-16 of a record: its last two bytes, high byte first (R190). -/
def LinkRecord.crc (r : LinkRecord) : Word16 := word16At r.bytes (r.bytes.length - 2)

/-- Whether a record's bytes hold its frame. -/
def LinkRecord.isFramed (r : LinkRecord) : Bool := decide (frameBytes ≤ r.bytes.length)

end Sys2Proof
end

