-- ==== Sys2Proof/Machine/Transmit.lean ====
section
/-! DEFINITION. The trunk transmitter and the packets the part builds itself: responses and notices (R177,
R185, R189, spec/11 11.1 and 11.4). -/

namespace Sys2Proof.Machine

/-! ### The transmitter (R177) -/

/-- An idle transmitter takes the first waiting packet. -/
def Transmitter.start (t : Transmitter) : Transmitter :=
  match t.sending, t.queue with
  | none, p :: rest => ⟨some p, rest⟩
  | _, _ => t

/-- Whether the transmit queue has room for a packet. -/
def Transmitter.hasRoom (t : Transmitter) : Bool := decide (t.queue.length < Config.transmitMax)

/-- A packet joins the transmit queue. -/
def Transmitter.hand (t : Transmitter) (p : Packet) : Transmitter :=
  { t with queue := t.queue ++ [p] }.start

/-- The transmitter has sent its packet and takes the next one waiting. -/
def Transmitter.finish (t : Transmitter) : Transmitter := { t with sending := none }.start

/-- A transmission opportunity: the transmitter is idle and holds no handed packet waiting (R177). -/
def Transmitter.opportunity (t : Transmitter) : Bool := t.sending.isNone && t.queue.isEmpty

/-! ### Upstream payload (R99) -/

/-- One payload packet of a good report: forwarded where its length is in range and the transmit queue has
room, and dropped otherwise (R99). -/
def State.forwardPacket (s : State) (p : Packet) : State :=
  if Config.packetMin ≤ p.length ∧ p.length ≤ Config.packetMax ∧ s.tx.hasRoom = true then
    { s with tx := s.tx.hand p }.count fun k => { k with upForwarded := satAdd k.upForwarded 1 }
  else s.count fun k => { k with upDropped := satAdd k.upDropped 1 }

/-- The payload of a good non-proving report, in payload order (R99). -/
def State.forwardPayload (s : State) (ps : List Packet) : State := ps.foldl State.forwardPacket s

/-- A payload dropped and counted (R99). -/
def State.dropPayload (s : State) (n : Nat) : State :=
  s.count fun k => { k with upDropped := satAdd k.upDropped n }

/-! ### Packets the part builds (R189) -/

/-- The type of management packets (R96). -/
def managementType : Word16 := 0x7A6C#16

/-- The broadcast address. -/
def broadcastAddress : Mac := 0xFFFFFFFFFFFF#48

/-- A management packet, untagged: destination, source, type, payload, padding and FCS (R177, R189). -/
def managementPacket (dest src : Mac) (payload : List Byte) : Packet :=
  sealPacket (be48 dest ++ be48 src ++ be16 managementType ++ payload)

/-- The status codes (spec/11, 11.1). -/
def Status.code : Status → Byte
  | .ok => 0#8
  | .clamped => 1#8
  | .absent => 2#8
  | .busy => 3#8
  | .range => 4#8
  | .inUse => 5#8
  | .inconsistent => 6#8
  | .chainFull => 7#8
  | .unknown => 8#8
  | .length => 9#8

/-- A result record: code, status, body length, body (spec/11, 11.1). -/
def CmdResult.bytes (r : CmdResult) : List Byte :=
  r.code :: r.status.code :: num16 r.body.length ++ r.body

/-- The payload of a response: version 1, kind RESPONSE, request tag, request status (0 OK, 1 FORMAT),
result count and the result records (spec/11, 11.1). -/
def responsePayload (tag : Word16) (status : Byte) (rs : List CmdResult) : List Byte :=
  1#8 :: 2#8 :: be16 tag ++ [status, num8 rs.length] ++ rs.flatMap CmdResult.bytes

/-! ### Codes of records and notices (spec/11, 11.3 and 11.4) -/

/-- The outcome codes. -/
def AttemptOutcome.code : AttemptOutcome → Byte
  | .admitted => 0#8
  | .noResponse => 1#8
  | .corrupt => 2#8
  | .weak => 3#8
  | .proveFailed => 4#8
  | .identityMismatch => 5#8
  | .adjustLimit => 6#8
  | .sectorLost => 7#8
  | .parked => 8#8

/-- The direction codes. -/
def Direction.code : Direction → Byte
  | .down => 0#8
  | .up => 1#8

/-- The flow state codes. -/
def FlowState.code : FlowState → Byte
  | .disabled => 0#8
  | .waiting _ => 1#8
  | .admitted => 2#8

/-- The class codes of a notice. -/
def NoticeClass.code : NoticeClass → Byte
  | .terminal => 0#8
  | .attempt => 1#8
  | .capacity => 2#8
  | .backlog => 3#8
  | .sector => 4#8

/-- The kind code of a notice within its class (spec/11, 11.4). -/
def NoticeBody.kind : NoticeBody → Byte
  | .down _ => 0#8
  | .ramping _ => 1#8
  | .inService _ => 2#8
  | .fading _ => 3#8
  | .identity _ _ => 4#8
  | .attempt _ _ o _ => o.code
  | .shed _ _ _ _ _ _ => 0#8
  | .admitted _ => 1#8
  | .drained _ _ _ _ => 0#8
  | .stale _ _ _ _ => 1#8
  | .sectorDown => 0#8
  | .sectorUp => 1#8
  | .frameGap _ _ _ => 2#8
  | .restart => 3#8

/-- The subject of a notice: a slot or a flow index, or none (R183). -/
def NoticeBody.subject : NoticeBody → Option Nat
  | .down i | .ramping i | .inService i | .fading i | .identity i _ | .attempt i _ _ _ => some i.val
  | .shed f _ _ _ _ _ | .drained f _ _ _ | .stale f _ _ _ => some f.val
  | .admitted fs => fs.head?.map Fin.val
  | .sectorDown | .sectorUp | .frameGap _ _ _ | .restart => none

/-- A slot byte, zero where there is none. -/
def slotByte (i : Option Slot) : Byte := num8 ((i.map Fin.val).getD 0)

/-- A profile byte, zero where there is none. -/
def profileByte (p : Option ProfIdx) : Byte := num8 ((p.map Fin.val).getD 0)

/-- A flow index in two bytes, zero where there is none. -/
def flowWord (f : Option FlowIdx) : List Byte := num16 ((f.map Fin.val).getD 0)

/-- A frame number in two bytes, zero where there is none. -/
def frameWord (n : Option FrameNo) : List Byte := be16 (n.getD 0#16)

/-- The detail of a notice before padding (spec/11, 11.4). -/
def NoticeBody.detail : NoticeBody → List Byte
  | .down _ | .ramping _ | .inService _ | .fading _ => []
  | .identity _ id => be48 id
  | .attempt _ c _ n => [num8 c.val, num8 n]
  | .shed _ t x cls p load => [slotByte t, x.code, num8 cls.val, profileByte p] ++ num32 load
  | .admitted fs => num8 fs.length :: 0#8 :: fs.flatMap fun f => num16 f.val
  | .drained _ t r d => slotByte t :: 0#8 :: num16 r ++ num16 d
  | .stale _ t st n => slotByte t :: st.code :: num16 n
  | .sectorDown | .sectorUp | .restart => []
  | .frameGap e r g => be16 e ++ be16 r ++ be16 g

/-- The payload of a notice packet: 46 bytes (spec/11, 11.4). -/
def Notice.payload (n : Notice) : List Byte :=
  let head := 1#8 :: 3#8 :: be16 n.seq ++ [n.body.cls.code, n.body.kind] ++
    [flagByte [n.body.subject.isSome, n.frame.isSome], 0#8] ++
    num16 (n.body.subject.getD 0) ++ frameWord n.frame ++ n.body.detail
  head ++ List.replicate (46 - head.length) 0#8

/-- At a transmission opportunity the head notice leaves the queue for the controller (R185). -/
def State.sendNotice (s : State) : State :=
  match s.mgmt.notices, s.mgmt.controller with
  | n :: rest, some dest =>
    if s.tx.opportunity then
      { s with
        mgmt := { s.mgmt with notices := rest }
        tx := { s.tx with sending := some (managementPacket dest s.setup.address n.payload) } }
    else s
  | _, _ => s

/-! ### Responses (R177) -/

/-- A response is handed to the transmitter and its request leaves the queue, or is held where the transmit
queue has no room (R177). -/
def State.respond (s : State) (p : Packet) : State :=
  if s.tx.hasRoom then
    { s with
      mgmt := { s.mgmt with requests := s.mgmt.requests.tail, held := none }
      tx := s.tx.hand p }
  else { s with mgmt := { s.mgmt with held := some p } }

/-- The transmitter finishes sending a packet, and a held response is handed to it (R177). An idle
transmitter finishes nothing. -/
def State.finishSending (s : State) : State :=
  if s.tx.sending.isSome then
    let s := { s with tx := s.tx.finish }
    match s.mgmt.held with
    | some p => s.respond p
    | none => s
  else s

end Sys2Proof.Machine
end

