-- ==== Sys2Proof/Machine/Classifier.lean ====
section
/-! DEFINITION. The Trunk Port and Classifier: the checks of an arriving packet, the separation of
management packets, and the classification of downstream packets (R96, R97, R173). -/

namespace Sys2Proof.Machine

/-- Whether a packet is tagged: the two bytes after its source address hold 0x8100 (R96). -/
def isTagged (p : Packet) : Bool := word16At p 12 == 0x8100#16

/-- The offset of a packet's type field (R96). -/
def typeOffset (p : Packet) : Nat := if isTagged p then 16 else 12

/-- The VLAN identifier of a tagged packet: the low twelve bits of the two bytes after the tag type
(R96). -/
def vlanOf (p : Packet) : Tag := ⟨(word16At p 14).toNat % 4096, Nat.mod_lt _ (by decide)⟩

/-- The destination address of a packet. -/
def destOf (p : Packet) : Mac := macAt p 0

/-- The source address of a packet. -/
def sourceOf (p : Packet) : Mac := macAt p 6

/-- Whether a packet passes the checks of R96 step 1. -/
def packetChecks (p : Packet) : Bool :=
  decide (Config.packetMin ≤ p.length) && decide (p.length ≤ Config.packetMax) && fcsChecks p

/-- Whether a packet is a management packet for the part (R96 step 3). -/
def State.isManagement (s : State) (p : Packet) : Bool :=
  word16At p (typeOffset p) == managementType &&
    (destOf p == s.setup.address || destOf p == broadcastAddress)

/-- The flow a packet's tag is mapped to: none where the packet is untagged, carries identifier 0 or 4095,
or its entry is none (R97). -/
def State.taggedFlow (s : State) (p : Packet) : Option FlowIdx :=
  if isTagged p = false ∨ vlanOf p = 0 ∨ vlanOf p = 4095 then none else s.tags.get (vlanOf p)

/-- A downstream packet is classified (R97). -/
def State.classify (s : State) (p : Packet) : State :=
  match s.taggedFlow p with
  | none => s.count fun k => { k with unclassified := satAdd k.unclassified 1 }
  | some f =>
    match (s.flow f).dir, (s.flow f).state, (s.flow f).policy with
    | .up, _, _ => s.count fun k => { k with misdirected := satAdd k.misdirected 1 }
    | .down, .disabled, _ =>
      s.modFlow f fun r =>
        { r with counters := { r.counters with disabled := satAdd r.counters.disabled 1 } }
    | .down, .admitted, _ => s.enqueue f p
    | .down, .waiting _, .hold => s.enqueue f p
    | .down, .waiting _, .shed =>
      s.modFlow f fun r =>
        { r with counters := { r.counters with shed := satAdd r.counters.shed 1 } }

/-- The MAGT takes a management packet into its request queue, or discards it at a full one (R173). -/
def State.enqueueRequest (s : State) (p : Packet) : State :=
  if s.mgmt.requests.length < Config.requestMax then
    { s with mgmt := { s.mgmt with requests := s.mgmt.requests ++ [p] } }
  else s

/-- The TPC takes a packet arriving on the trunk (R96). -/
def State.takePacket (s : State) (p : Packet) : State :=
  if packetChecks p = false then s.count fun k => { k with trunkErrors := satAdd k.trunkErrors 1 }
  else if s.isManagement p then s.enqueueRequest p
  else s.classify p

end Sys2Proof.Machine
end

