-- ==== Sys2Proof/Machine/Ledger.lean ====
section
/-! DEFINITION. The Capacity Ledger: needs and loads, the admission test, shedding, withdrawals and the
reports on RAMPING terminals (R102 to R122). -/

namespace Sys2Proof.Machine

/-! ### Capacity (R106) -/

/-- Usable upstream capacity U_d = U − 4 × R_s. -/
def Setup.usableUp (c : Setup) : Nat := c.u - 4 * c.rs

/-- Upstream admission ceiling K_up. -/
def Setup.ceilingUp (c : Setup) : Nat := c.usableUp * c.a / 100

/-- Downstream admission ceiling K_down. -/
def Setup.ceilingDown (c : Setup) : Nat := c.d * c.a / 100

/-- The capacity of a direction. -/
def Setup.capacity (c : Setup) : Direction → Nat
  | .up => c.usableUp
  | .down => c.d

/-- The admission ceiling of a direction. -/
def Setup.ceiling (c : Setup) : Direction → Nat
  | .up => c.ceilingUp
  | .down => c.ceilingDown

/-! ### Needs and loads (R107, R108) -/

/-- A quotient rounded up to the next integer. -/
def ceilDiv (a b : Nat) : Nat := (a + (b - 1)) / b

/-- The symbol cost of some bytes at a density: ceil(64 × B / d). -/
def symbolCost (bytes density : Nat) : Nat := ceilDiv (64 * bytes) density

/-- The sum of CB over a list of flows, those of one direction that are ADMITTED or in `extra`. -/
def State.sumCB (s : State) (x : Direction) (extra : List FlowIdx) (l : List FlowIdx) : Nat :=
  (l.map fun f =>
    if (s.flow f).dir = x ∧ ((s.flow f).state = .admitted ∨ f ∈ extra) then (s.flow f).cb
    else 0).sum

/-- The profile entry at which a terminal is priced: that of its current profile. -/
def State.pricing (s : State) (i : Slot) : Profile :=
  match (s.term i).current with
  | some p => s.profile p
  | none => Profile.reset

/-- A priced need: overhead and symbol cost of the summed CB (R107). -/
def priced (p : Profile) (sum : Nat) : Nat := p.overhead + symbolCost sum p.density

/-- The need of a terminal in a direction, with the flows in `extra` counted as ADMITTED (R107, R109). -/
def State.needWith (s : State) (i : Slot) (x : Direction) (extra : List FlowIdx) : Nat :=
  let sum := s.sumCB x extra (s.chain i)
  if (s.term i).state.serviced then
    match x with
    | .up => if sum = 0 then s.setup.m else max s.setup.m (priced (s.pricing i) sum)
    | .down => if sum = 0 then 0 else priced (s.pricing i) sum
  else 0

/-- A terminal's need in a direction as the CLED holds it. -/
def Terminal.need (t : Terminal) : Direction → Nat
  | .up => t.needUp
  | .down => t.needDown

/-- The load of a direction. -/
def State.load (s : State) : Direction → Nat
  | .up => s.ledger.loadUp
  | .down => s.ledger.loadDown

/-- The loads recomputed as the sums of the needs over all slots (R108). -/
def State.sumLoads (s : State) : State :=
  { s with ledger := { s.ledger with
      loadUp := s.terms.total Terminal.needUp
      loadDown := s.terms.total Terminal.needDown } }

/-- A terminal's needs recomputed, and the loads with them (R108). -/
def State.reprice (s : State) (i : Slot) : State :=
  (s.modTerm i fun t =>
    { t with needUp := s.needWith i .up [], needDown := s.needWith i .down [] }).sumLoads

/-- The serviced terminals, in slot order. -/
def State.servicedSlots (s : State) : List Slot := s.terms.keys fun _ t => t.state.serviced

/-- Every serviced terminal's needs recomputed, after a change of M (R122). -/
def State.repriceAll (s : State) : State := s.servicedSlots.foldl State.reprice s

/-! ### The Readmission List and WAITING -/

/-- Place a flow in the Readmission List (R104). -/
def State.placeReadmission (s : State) (f : FlowIdx) : State :=
  { s with ledger := { s.ledger with
      list := placeByClass (fun g => (s.flow g).cls.val) f s.ledger.list } }

/-- Take a flow out of the Readmission List, the other entries keeping their order. -/
def State.unlist (s : State) (f : FlowIdx) : State :=
  { s with ledger := { s.ledger with list := s.ledger.list.filter (· ≠ f) } }

/-- A flow becomes WAITING with a cause and is placed in the Readmission List (R104). -/
def State.makeWaiting (s : State) (f : FlowIdx) (c : Cause) : State :=
  (s.modFlow f fun r => { r with state := .waiting c }).placeReadmission f

/-- An ADMITTED flow is withdrawn to WAITING: it leaves ADMITTED for the PBR as well (R102). -/
def State.withdraw (s : State) (f : FlowIdx) (c : Cause) : State :=
  (s.makeWaiting f c).dropCredit f

/-- Whether an enabled flow of a terminal's chain is WAITING (R19). -/
def State.hasWaiting (s : State) (i : Slot) : Bool :=
  (s.chain i).any fun f => (s.flow f).state.isWaiting

/-- A flow of a terminal that stays serviced has entered WAITING: an IN_SERVICE terminal becomes RAMPING
with its notice, and a FADING terminal's state before fade becomes RAMPING (R19). -/
def State.noteWaiting (s : State) (i : Slot) : State :=
  match (s.term i).state with
  | .inService => (s.modTerm i fun t => { t with state := .ramping }).raise (.ramping i)
  | .fading => s.modTerm i fun t => { t with beforeFade := some .ramping }
  | .absent | .parked | .down | .queued | .ranging | .ramping => s

/-- `noteWaiting` for the terminal a flow is bound to. -/
def State.noteFlowWaiting (s : State) (f : FlowIdx) : State :=
  match (s.flow f).bound with
  | some i => s.noteWaiting i
  | none => s

/-- `reprice` for the terminal a flow is bound to. -/
def State.repriceFlow (s : State) (f : FlowIdx) : State :=
  match (s.flow f).bound with
  | some i => s.reprice i
  | none => s

/-- A RAMPING terminal becomes IN_SERVICE with its notice (R19). -/
def State.toInService (s : State) (i : Slot) : State :=
  (s.modTerm i fun t => { t with state := .inService }).raise (.inService i)

/-- The CLED's report: every RAMPING terminal with no enabled flow in WAITING becomes IN_SERVICE (R19,
R115), in slot order (notes/assumptions/12.md). -/
def State.reportRamping (s : State) : State :=
  (s.terms.keys fun i t => decide (t.state = .ramping) && !s.hasWaiting i).foldl
    State.toInService s

/-! ### Shedding (R110, R111) -/

/-- The current profile of the terminal a flow is bound to. -/
def State.flowProfile (s : State) (f : FlowIdx) : Option ProfIdx :=
  (s.flow f).bound.bind fun i => (s.term i).current

/-- The index by which the second key of R111 compares a flow's profile. -/
def State.shedProfile (s : State) (f : FlowIdx) : Nat :=
  match s.flowProfile f with
  | some p => p.val
  | none => 0

/-- Whether flow `f` is shed before flow `g`: greatest class, then lowest current profile, then highest
index (R111). -/
def State.shedBefore (s : State) (f g : FlowIdx) : Bool :=
  if (s.flow f).cls = (s.flow g).cls then
    if s.shedProfile f = s.shedProfile g then g < f else s.shedProfile f < s.shedProfile g
  else (s.flow g).cls < (s.flow f).cls

/-- The ADMITTED flows of a direction, in index order. -/
def State.admittedFlows (s : State) (x : Direction) : List FlowIdx :=
  s.flows.keys fun _ r => decide (r.dir = x) && r.state.isAdmitted

/-- The first of a list of flows by the keys of R111. -/
def State.shedFirst (s : State) : List FlowIdx → Option FlowIdx
  | [] => none
  | f :: rest =>
    match s.shedFirst rest with
    | none => some f
    | some g => if s.shedBefore f g then some f else some g

/-- Shed one flow: WAITING with cause SHED and listed, removed from its terminal's need and the load, its
CAPACITY notice, then its terminal's change of state (R111). -/
def State.shedFlow (s : State) (x : Direction) (f : FlowIdx) : State :=
  let s := (s.withdraw f .shed).repriceFlow f
  (s.raise (.shed f (s.flow f).bound x (s.flow f).cls (s.flowProfile f) (s.load x))).noteFlowWaiting f

/-- Shed flows of a direction one at a time until its load is at or below capacity (R110). The first
argument bounds the number of flows shed. -/
def State.shedLoop (x : Direction) : Nat → State → State
  | 0, s => s
  | n + 1, s =>
    if s.load x ≤ s.setup.capacity x then s
    else
      match s.shedFirst (s.admittedFlows x) with
      | none => s
      | some f => State.shedLoop x n (s.shedFlow x f)

/-- Bring one direction's load within its capacity. -/
def State.fit (s : State) (x : Direction) : State :=
  State.shedLoop x (s.admittedFlows x).length s

/-- Bring the upstream load within U_d first, and then the downstream load within D (R110). -/
def State.shedToFit (s : State) : State := (s.fit .up).fit .down

/-! ### Admission (R109, R113, R114) -/

/-- The admission test of a flow of a terminal (R109): L − need + need′ ≤ K, written without subtraction,
or need′ = need. -/
def State.admissible (s : State) (i : Slot) (f : FlowIdx) : Bool :=
  let x := (s.flow f).dir
  let new := s.needWith i x [f]
  let old := (s.term i).need x
  decide (s.load x + new ≤ s.setup.ceiling x + old) || decide (new = old)

/-- A flow passes its test: ADMITTED, out of the list, its terminal's need and the load recomputed, and
the backlog marker set (R114, R140). -/
def State.makeAdmitted (s : State) (i : Slot) (f : FlowIdx) : State :=
  ((((s.modFlow f fun r => { r with state := .admitted, credit := 0 }).unlist f).reprice i).setMarker f)

/-- The walk of the Readmission List (R113): the entries still to visit, the flows admitted so far in
reverse order, and the state. Entries of terminals not RAMPING or IN_SERVICE are skipped; the walk stops
at the first failing test or after R_max admissions. -/
def State.scanWalk : List FlowIdx → List FlowIdx → State → List FlowIdx × State
  | [], done, s => (done.reverse, s)
  | f :: rest, done, s =>
    if s.setup.rMax ≤ done.length then (done.reverse, s)
    else
      match (s.flow f).bound with
      | none => State.scanWalk rest done s
      | some i =>
        if (s.term i).state.active then
          if s.admissible i f then State.scanWalk rest (f :: done) (s.makeAdmitted i f)
          else (done.reverse, s)
        else State.scanWalk rest done s

/-- The readmission scan (R113 to R115, R125). -/
def State.scan (s : State) : State :=
  let r := State.scanWalk s.ledger.list [] s
  let s := if r.1 = [] then r.2 else r.2.raise (.admitted r.1)
  s.reportRamping

/-! ### Departure (R118, R143) -/

/-- Withdraw every ADMITTED flow of a list, in its order (R118). -/
def State.withdrawAll (s : State) (c : Cause) (l : List FlowIdx) : State :=
  l.foldl (fun s f => if (s.flow f).state = .admitted then s.withdraw f c else s) s

/-- Discard the queues of the SHED-policy DOWN flows of a list (R143). -/
def State.discardShedQueues (s : State) (l : List FlowIdx) : State :=
  l.foldl (fun s f =>
    if (s.flow f).dir = .down ∧ (s.flow f).policy = .shed then s.discardShed f else s) s

/-! ### Restart (R123) -/

/-- The enabled flows in class order and, within a class, in index order. -/
def State.enabledInOrder (s : State) : List FlowIdx :=
  (List.finRange 8).flatMap fun c =>
    s.flows.keys fun _ r => decide (r.cls = c) && decide (r.state ≠ .disabled)

/-- The CLED's part of a restart: needs and loads 0, every enabled flow WAITING with cause OUTAGE in the
rebuilt list (R123). -/
def State.rebuildLedger (s : State) : State :=
  { s with
    terms := s.terms.map fun _ t => { t with needUp := 0, needDown := 0 }
    flows := s.flows.map fun _ r =>
      if r.state = .disabled then r else { r with state := .waiting .outage }
    ledger := { list := s.enabledInOrder, loadUp := 0, loadDown := 0 } }

end Sys2Proof.Machine
end

