-- ==== Sys2Proof/Machine/Terminals.lean ====
section
/-! DEFINITION. The Terminal Manager: entry to and departure from the service states, the settle and
backoff timers, fading, and the placement of terminals in the Re-entry Queue (R5 to R22, R58 to R60). -/

namespace Sys2Proof.Machine

/-! ### Windows (R31, R34) -/

/-- The window restarted: samples, sum and CRC-bad count 0; settling and consecutive misses kept (R31). -/
def Window.restart (w : Window) : Window := { w with samples := 0, sum := 0, crcBad := 0 }

/-- The window record of a terminal that leaves service (R34). -/
def Window.cleared : Window := {}

/-- The settling window of a terminal that enters service (R30). -/
def Window.opening : Window := { settling := true }

/-! ### The Re-entry Queue (R58, R59) -/

/-- A terminal's entry placed in the Re-entry Queue by class (R59). -/
def State.placeReentry (s : State) (i : Slot) : State :=
  { s with reentry := { s.reentry with
      queue := placeByClass (fun j => (s.term j).cls.val) i s.reentry.queue } }

/-- A terminal's entry taken out of the Re-entry Queue, the others keeping their order (R60). -/
def State.unqueue (s : State) (i : Slot) : State :=
  { s with reentry := { s.reentry with queue := s.reentry.queue.filter (· ≠ i) } }

/-- A terminal becomes QUEUED: its timer becomes absent and it is placed in the queue (R5, R59). -/
def State.makeQueued (s : State) (i : Slot) : State :=
  (s.modTerm i fun t => { t with state := .queued, timer := none }).placeReentry i

/-! ### DOWN and its timer (R13) -/

/-- The backoff for a failed attempts field (R13). -/
def backoffFor (base n : Nat) : Nat := base * 2 ^ min (n - 1) 6

/-- A terminal becomes DOWN with a timer: outage-seen set and a notice raised (R4, R5, R13). With the timer
at 0 and the sector UP it passes on to QUEUED within the event, unless the entry is made by
RESTART_SECTOR (R13). -/
def State.enterDown (s : State) (i : Slot) (timer : Nat) (byRestart : Bool) : State :=
  let s := (s.modTerm i fun t =>
    { t with state := .down, timer := some timer, outageSeen := true }).raise (.down i)
  if timer = 0 ∧ s.link.sectorUp = true ∧ byRestart = false then s.makeQueued i else s

/-! ### Leaving service (R9, R12, R34, R55, R118, R143) -/

/-- A serviced terminal leaves service for a state: current profile and state before fade absent, dwell 0,
window cleared, ADMITTED flows withdrawn in chain order, SHED-policy queues discarded where the departure
discards them, needs and loads recomputed. -/
def State.leaveService (s : State) (i : Slot) (dest : TermState) (c : Cause) (discard : Bool) : State :=
  let l := s.chain i
  let s := s.modTerm i fun t =>
    { t with state := dest, current := none, beforeFade := none, dwell := 0, window := Window.cleared }
  let s := s.withdrawAll c l
  let s := if discard then s.discardShedQueues l else s
  s.reprice i

/-- A serviced terminal goes out of service to DOWN with timer settle: the outages counter rises and the
departure is taken with cause OUTAGE (R12, R20, R22). On a restart the SHED discard does not arise
(R143). -/
def State.outage (s : State) (i : Slot) (byRestart : Bool) : State :=
  let s := s.leaveService i .down .outage (!byRestart)
  let s := s.modTerm i fun t =>
    { t with counters := { t.counters with outages := satAdd t.counters.outages 1 } }
  s.enterDown i s.setup.settle byRestart

/-- A serviced terminal is parked (R9). -/
def State.parkServiced (s : State) (i : Slot) : State := s.leaveService i .parked .parked true

/-! ### Entry to service (R15, R30, R55, R117) -/

/-- A terminal enters service at a profile: RAMPING with its notice, a settling window, its maintenance
need in the load with any shedding, and on to IN_SERVICE where no enabled flow is WAITING (R15). -/
def State.enterService (s : State) (i : Slot) (p : ProfIdx) : State :=
  let s := (s.modTerm i fun t =>
    { t with
      state := .ramping, current := some p, failedAttempts := 0, dwell := 0
      window := Window.opening }).raise (.ramping i)
  let s := (s.reprice i).shedToFit
  if s.hasWaiting i then s else s.toInService i

/-! ### Fading (R17, R18) -/

/-- A RAMPING or IN_SERVICE terminal becomes FADING: the state it left recorded, dwell 0, window restarted,
notice raised (R17, R46). A terminal in another state is unchanged. -/
def State.enterFading (s : State) (i : Slot) : State :=
  let go (o : FadeOrigin) : State :=
    (s.modTerm i fun t =>
      { t with
        state := .fading, beforeFade := some o, dwell := 0
        window := t.window.restart }).raise (.fading i)
  match (s.term i).state with
  | .ramping => go .ramping
  | .inService => go .inService
  | .absent | .parked | .down | .queued | .ranging | .fading => s

/-- A FADING terminal returns to its state before fade (R18): dwell 0, window restarted, notice raised for
the state entered. -/
def State.exitFading (s : State) (i : Slot) : State :=
  let back (st : TermState) : State :=
    s.modTerm i fun t =>
      { t with state := st, beforeFade := none, dwell := 0, window := t.window.restart }
  match (s.term i).beforeFade with
  | some .inService => (back .inService).raise (.inService i)
  | some .ramping | none => (back .ramping).raise (.ramping i)

end Sys2Proof.Machine
end

