-- ==== Sys2Proof/Machine/ProfileControl.lean ====
section
/-! DEFINITION. The Profile Controller: choices among the valid profiles, profile changes, and the
judgement of window results and fade reports (R40 to R57). -/

namespace Sys2Proof.Machine

/-! ### Choices among the valid profiles (R40) -/

/-- The highest valid profile that satisfies a test. -/
def State.highestValid (s : State) (ok : ProfIdx → Bool) : Option ProfIdx :=
  (List.finRange 12).reverse.find? fun p => (s.profile p).valid && ok p

/-- The highest valid profile not above a ceiling (R52). Profile 0 is always valid (R40). -/
def State.validAtMost (s : State) (c : ProfIdx) : ProfIdx :=
  (s.highestValid fun p => p ≤ c).getD 0

/-- The profile a step-down at `p` with quality `q` goes to (R46). -/
def State.stepDownTarget (s : State) (p : ProfIdx) (q : Nat) : ProfIdx :=
  (s.highestValid fun x => x < p && (s.profile x).exit ≤ q).getD 0

/-- The next valid profile above `p` (R47). -/
def State.nextValid (s : State) (p : ProfIdx) : Option ProfIdx :=
  (List.finRange 12).find? fun x => p < x && (s.profile x).valid

/-- The bound of an entry-profile computation: the lesser of the target and the ceiling (R53). -/
def State.entryBound (s : State) (t : Terminal) : ProfIdx :=
  let target :=
    match t.policy, t.resume with
    | .last, some r => r
    | .last, none | .sectorDefault, _ => s.setup.defaultProfile
  min target t.ceiling

/-- The entry profile of a terminal for a ranging sample (R53). -/
def State.entryProfileFor (s : State) (t : Terminal) (sample : Nat) : ProfIdx :=
  (s.highestValid fun p => p ≤ s.entryBound t && (s.profile p).entry ≤ sample).getD 0

/-! ### Profile changes (R50) -/

/-- A change of a serviced terminal's current profile, handed on within the event: dwell 0, window
restarted, needs repriced, and flows shed if a load exceeds capacity (R50, R112). -/
def State.changeProfile (s : State) (i : Slot) (p : ProfIdx) : State :=
  ((s.modTerm i fun t =>
    { t with current := some p, dwell := 0, window := t.window.restart }).reprice i).shedToFit

/-- A terminal's dwell count set. -/
def State.setDwell (s : State) (i : Slot) (n : Nat) : State :=
  s.modTerm i fun t => { t with dwell := n }

/-! ### Window results (R45 to R49) -/

/-- The resume profile judged on a result: set to the current profile in IN_SERVICE on an unimpaired
result with Q at or above exit (R45). -/
def State.judgeResume (s : State) (i : Slot) (p : ProfIdx) (q : Nat) (impaired : Bool) : State :=
  if (s.term i).state = .inService ∧ impaired = false ∧ (s.profile p).exit ≤ q then
    s.modTerm i fun t => { t with resume := some p }
  else s

/-- A result for a RAMPING or IN_SERVICE terminal at profile `p`: step-down, step-up, or hold (R46 to
R48). -/
def State.judgeStep (s : State) (i : Slot) (p : ProfIdx) (q : Nat) (impaired settling : Bool) : State :=
  if impaired = true ∨ q < (s.profile p).exit then
    if p = 0 then s.enterFading i else s.changeProfile i (s.stepDownTarget p q)
  else
    match s.nextValid p with
    | some n =>
      if settling = false ∧ n ≤ (s.term i).ceiling ∧ (s.profile n).entry ≤ q then
        if (s.profile n).dwell ≤ (s.term i).dwell + 1 then s.changeProfile i n
        else s.setDwell i ((s.term i).dwell + 1)
      else s.setDwell i 0
    | none => s.setDwell i 0

/-- A result for a FADING terminal (R49). -/
def State.judgeFading (s : State) (i : Slot) (q : Nat) (impaired : Bool) : State :=
  if impaired = false ∧ (s.profile 0).entry ≤ q then s.exitFading i
  else s.setDwell i 0

/-- The PCTL takes a window result at the terminal's current profile (R45 to R49). -/
def State.takeResult (s : State) (i : Slot) (q : Nat) (impaired settling : Bool) : State :=
  match (s.term i).current with
  | none => s
  | some p =>
    match (s.term i).state with
    | .ramping | .inService => (s.judgeResume i p q impaired).judgeStep i p q impaired settling
    | .fading => s.judgeFading i q impaired
    | .absent | .parked | .down | .queued | .ranging => s

/-! ### Fade reports (R33, R50) -/

/-- The fade report of a serviced terminal (R33, R50): from a profile above 0 to profile 0, and at
profile 0 to FADING. -/
def State.fadeReport (s : State) (i : Slot) : State :=
  match (s.term i).current with
  | none => s
  | some p => if p = 0 then s.enterFading i else s.changeProfile i 0

end Sys2Proof.Machine
end

