-- ==== Sys2Proof/Machine/Quality.lean ====
section
/-! DEFINITION. The Quality Monitor: samples, window results and misses (R24 to R35). -/

namespace Sys2Proof.Machine

/-- The window length W = 2^w (R25). -/
def Setup.windowLength (c : Setup) : Nat := 2 ^ c.w

/-- The effective impairment threshold min(E_max, W) (R25). -/
def Setup.impairThreshold (c : Setup) : Nat := min c.eMax c.windowLength

/-- The Q of a completed window: the mean of its samples to the nearest integer, a half rounded up (R28). -/
def Window.quality (w : Window) (length : Nat) : Nat := (w.sum + length / 2) / length

/-- Whether a completed window is impaired (R29). -/
def Window.impaired (w : Window) (threshold : Nat) : Bool :=
  decide (0 < threshold) && decide (threshold ≤ w.crcBad)

/-- The sample of an SNR (R27, R69). -/
def sampleOf (snr : Nat) : Nat := min snr Config.qualityMax

/-- A window completes: the result is stored with the stamp and delivered to the PCTL, and the window is
emptied and no longer settling (R28). -/
def State.completeWindow (s : State) (i : Slot) : State :=
  let w := (s.term i).window
  let q := w.quality s.setup.windowLength
  let imp := w.impaired s.setup.impairThreshold
  let s := s.modTerm i fun t => { t with lastResult := some ⟨q, imp, s.resultStamp⟩ }
  let s := s.takeResult i q imp w.settling
  s.modTerm i fun t => { t with window := { t.window.restart with settling := false } }

/-- A window completes where its samples have reached W (R27, R28). -/
def State.completeIfFull (s : State) (i : Slot) : State :=
  if (s.term i).window.samples = s.setup.windowLength then s.completeWindow i else s

/-- The counters of a burst report (R3, R27, R73). -/
def TermCounters.burst (c : TermCounters) (crcGood : Bool) : TermCounters :=
  { c with
    bursts := satAdd c.bursts 1
    crcBad := if crcGood then c.crcBad else satAdd c.crcBad 1 }

/-- The counters of a miss report (R3, R33, R73). -/
def TermCounters.miss (c : TermCounters) : TermCounters := { c with misses := satAdd c.misses 1 }

/-- A window with one more sample, and consecutive misses 0 (R27). -/
def Window.sample (w : Window) (s : Nat) (crcGood : Bool) : Window :=
  { w with
    samples := w.samples + 1
    sum := w.sum + s
    crcBad := if crcGood then w.crcBad else w.crcBad + 1
    misses := 0 }

/-- The QMON takes a burst report as one sample (R27). -/
def State.takeSample (s : State) (i : Slot) (snr : Nat) (crcGood : Bool) : State :=
  (s.modTerm i fun t =>
    { t with
      window := t.window.sample (sampleOf snr) crcGood
      counters := t.counters.burst crcGood }).completeIfFull i

/-- The QMON takes a miss report (R33): outage at M_o, else fade at M_f. -/
def State.takeMiss (s : State) (i : Slot) : State :=
  let s := s.modTerm i fun t =>
    { t with
      window := { t.window with misses := min (t.window.misses + 1) 255 }
      counters := t.counters.miss }
  let m := (s.term i).window.misses
  if s.setup.mo ≤ m then s.outage i false
  else if s.setup.mf ≤ m then s.fadeReport i
  else s

/-- Every terminal's window restarted, on a change of w (R35). -/
def State.restartWindows (s : State) : State :=
  { s with terms := s.terms.map fun _ t => { t with window := t.window.restart } }

/-- Every terminal's window record cleared, on RESTART_SECTOR (R37). -/
def State.clearWindows (s : State) : State :=
  { s with terms := s.terms.map fun _ t => { t with window := Window.cleared } }

end Sys2Proof.Machine
end

