-- ==== Sys2Proof/Machine/RangingContexts.lean ====
section
/-! DEFINITION. The Re-entry Controller: attempts and their ends, ranging reports, proving, response
timers, the pacer and the taking of grants (R58 to R83). -/

namespace Sys2Proof.Machine

/-! ### The end of an attempt (R75, R10, R15, R16) -/

/-- Whether an outcome is a failure outcome (R16, R75). -/
def AttemptOutcome.isFailure : AttemptOutcome → Bool
  | .noResponse | .corrupt | .weak | .proveFailed | .identityMismatch | .adjustLimit => true
  | .admitted | .sectorLost | .parked => false

/-- A failure outcome taken by the TMGR: the failed attempts field and counter rise and the terminal is
DOWN with the backoff for the new field value (R13, R16). -/
def State.failedDown (s : State) (i : Slot) : State :=
  let s := s.modTerm i fun t =>
    { t with
      failedAttempts := min (t.failedAttempts + 1) 255
      counters := { t.counters with failed := satAdd t.counters.failed 1 } }
  s.enterDown i (backoffFor s.setup.backoff (s.term i).failedAttempts) false

/-- The TMGR takes an attempt's outcome, with the entry profile held by the context where it is ADMITTED
(R10, R15, R16). -/
def State.takeOutcome (s : State) (i : Slot) (o : AttemptOutcome) (entry : Option ProfIdx)
    (byRestart : Bool) : State :=
  let s := s.modTerm i fun t => { t with lastOutcome := some o }
  match o with
  | .admitted => s.enterService i (entry.getD 0)
  | .parked => s.modTerm i fun t => { t with state := .parked }
  | .sectorLost => s.enterDown i s.setup.settle byRestart
  | .noResponse | .corrupt | .weak | .proveFailed | .identityMismatch | .adjustLimit => s.failedDown i

/-- An attempt ends (R75): the outcome recorded, the context freed, the outcome taken by the TMGR, and an
ATTEMPT notice raised for a failure outcome. -/
def State.endAttempt (s : State) (c : CtxNo) (a : Attempt) (o : AttemptOutcome) (byRestart : Bool) :
    State :=
  let s := (s.setCtx c none).takeOutcome a.terminal o a.entryProfile byRestart
  if o.isFailure then
    s.raise (.attempt a.terminal c o (s.term a.terminal).failedAttempts)
  else s

/-- The context returned to a pending stage: response timer and slot frame absent (R70, R71, R74). -/
def Attempt.backTo (a : Attempt) (st : Stage) : Attempt :=
  { a with stage := st, timer := none, slotFrame := none }

/-- A failure is counted (R74): the attempt goes on at the stage given while the count is below 3, and ends
with the failure's code at 3. -/
def State.failContext (s : State) (c : CtxNo) (a : Attempt) (o : AttemptOutcome) (st : Stage) : State :=
  if a.failures + 1 < Config.failureLimit then
    s.setCtx c (some { a.backTo st with failures := a.failures + 1 })
  else s.endAttempt c a o false

/-- A PROVE_FAILED failure: the entry profile becomes 0 first (R73). -/
def State.failProving (s : State) (c : CtxNo) (a : Attempt) : State :=
  s.failContext c { a with entryProfile := some 0 } .proveFailed .provePending

/-! ### Ranging reports (R69 to R72) -/

/-- The fields of a RANGING_REPORT (R159). -/
structure RangingReport where
  slot : Slot
  crcGood : Bool
  identity : Mac
  snr : Nat
  timing : Int
  power : Int
  deriving DecidableEq, Repr

/-- The timing correction of an ADJUST: the negated offset, −2048 corrected by 2047 (R70). -/
def timingCorrection (t : Int) : Int := min 2047 (-t)

/-- The power correction of an ADJUST: the negated offset, −64 corrected by 63 (R70). -/
def powerCorrection (p : Int) : Int := min 63 (-p)

/-- The ADJUST record (R70, spec/11 11.5). -/
def adjustRecord (i : Slot) (timing power : Int) : LinkRecord :=
  mkRecord 0x83#8
    (num8 i.val :: be16 (BitVec.ofInt 16 (timingCorrection timing)) ++
      [BitVec.ofInt 8 (powerCorrection power)])

/-- A record handed to the SLI for the modem (R170). -/
def State.send (s : State) (r : LinkRecord) : State :=
  { s with link := { s.link with outgoing := s.link.outgoing ++ [r] } }

/-- A report outside the windows (R70): an ADJUST and a further invitation, or ADJUST_LIMIT. -/
def State.adjust (s : State) (c : CtxNo) (a : Attempt) (timing power : Int) : State :=
  if a.adjusts < Config.adjustLimit then
    (s.send (adjustRecord a.terminal timing power)).setCtx c
      (some { a.backTo .invitePending with adjusts := a.adjusts + 1 })
  else s.endAttempt c a .adjustLimit false

/-- A reported identity is learned where freeze is no; a different one replacing one that was present raises
its notice (R2, R71). -/
def State.learnIdentity (s : State) (i : Slot) (id : Mac) : State :=
  if (s.term i).freeze then s
  else
    let s' := s.modTerm i fun t => { t with identity := some id }
    match (s.term i).identity with
    | some old => if old = id then s' else s'.raise (.identity i id)
    | none => s'

/-- A ranging report is accepted (R71). -/
def State.acceptRanging (s : State) (c : CtxNo) (a : Attempt) (r : RangingReport) : State :=
  let s := s.learnIdentity a.terminal r.identity
  s.setCtx c (some { a.backTo .provePending with
    failures := 0
    sample := some (sampleOf r.snr)
    entryProfile := some (s.entryProfileFor (s.term a.terminal) (sampleOf r.snr)) })

/-- A ranging report is judged (R69), or resolves a parked stage (R77). -/
def State.judgeRanging (s : State) (c : CtxNo) (a : Attempt) (r : RangingReport) : State :=
  let t := s.term a.terminal
  if a.parkPending then s.endAttempt c a .parked false
  else if r.crcGood = false then s.failContext c a .corrupt .invitePending
  else if t.freeze = true ∧ t.identity ≠ some r.identity then s.endAttempt c a .identityMismatch false
  else if sampleOf r.snr < (s.profile 0).entry then s.failContext c a .weak .invitePending
  else if s.setup.timingWindow < r.timing.natAbs ∨ s.setup.powerWindow < r.power.natAbs then
    s.adjust c a r.timing r.power
  else s.acceptRanging c a r

/-- A RANGING_MISS for a waiting context (R72, R77). -/
def State.judgeRangingMiss (s : State) (c : CtxNo) (a : Attempt) : State :=
  if a.parkPending then s.endAttempt c a .parked false
  else s.failContext c a .noResponse .invitePending

/-! ### Proving (R73) -/

/-- The exit threshold a proving burst is judged against: that of the entry profile held by the context. -/
def State.provingExit (s : State) (a : Attempt) : Nat := (s.profile (a.entryProfile.getD 0)).exit

/-- A proving BURST_REPORT decides the proving, or resolves a parked stage (R73, R77). -/
def State.judgeProving (s : State) (c : CtxNo) (a : Attempt) (snr : Nat) (crcGood : Bool) : State :=
  let s := s.modTerm a.terminal fun t => { t with counters := t.counters.burst crcGood }
  if a.parkPending then s.endAttempt c a .parked false
  else if crcGood = true ∧ s.provingExit a ≤ snr then s.endAttempt c a .admitted false
  else s.failProving c a

/-- A proving MISS_REPORT (R73, R77). -/
def State.judgeProvingMiss (s : State) (c : CtxNo) (a : Attempt) : State :=
  let s := s.modTerm a.terminal fun t => { t with counters := t.counters.miss }
  if a.parkPending then s.endAttempt c a .parked false
  else s.failProving c a

/-! ### Response timers (R67) -/

/-- The timeout of a context whose response timer stands at 0 in a waiting stage (R67). A context that is
not so is unchanged. -/
def State.timeout (s : State) (c : CtxNo) : State :=
  match s.ctx c with
  | none => s
  | some a =>
    if a.timer = some 0 then
      match a.stage with
      | .inviteWait =>
        if a.parkPending then s.endAttempt c a .parked false
        else s.failContext c a .noResponse .invitePending
      | .proveWait =>
        if a.parkPending then s.endAttempt c a .parked false else s.failProving c a
      | .invitePending | .provePending => s
    else s

/-- Whether a stage waits for a report (R65). -/
def Stage.waits : Stage → Bool
  | .inviteWait | .proveWait => true
  | .invitePending | .provePending => false

/-- A context's response timer at the frame event numbered `n`: lowered by one unless the slot frame is two
above `n`, with the timeout where it reaches 0 (R67). -/
def State.tickContext (n : FrameNo) (s : State) (c : CtxNo) : State :=
  match s.ctx c with
  | none => s
  | some a =>
    if a.stage.waits = true ∧ a.slotFrame ≠ some (n + 2) then
      match a.timer with
      | none => s
      | some k => (s.setCtx c (some { a with timer := some (k - 1) })).timeout c
    else s

/-! ### The pacer (R62, R63) -/

/-- The lowest-numbered free context. -/
def State.freeContext (s : State) : Option CtxNo := allContexts.find? fun c => (s.ctx c).isNone

/-- The pacer credit set. -/
def State.setCredit (s : State) (n : Nat) : State :=
  { s with reentry := { s.reentry with credit := n } }

/-- Bind a terminal, the head of the queue, to a context (R63). -/
def State.bindTo (s : State) (i : Slot) (c : CtxNo) : State :=
  let s := { s with reentry := { s.reentry with queue := s.reentry.queue.tail } }
  let s := s.setCtx c (some { terminal := i })
  let s := s.modTerm i fun t =>
    { t with
      state := .ranging
      counters := { t.counters with attempts := satAdd t.counters.attempts 1 } }
  s.setCredit (s.reentry.credit - Config.bindCost)

/-- Bind the head of the queue as long as the credit, a free context and the queue allow (R63). The first
argument bounds the bindings; there are four contexts. -/
def State.bindLoop : Nat → State → State
  | 0, s => s
  | n + 1, s =>
    match s.reentry.queue, s.freeContext with
    | i :: _, some c =>
      if Config.bindCost ≤ s.reentry.credit then State.bindLoop n (s.bindTo i c) else s
    | _, _ => s

/-- The credit step and the bindings of a frame event taken with the sector UP; with it DOWN the pacer earns
nothing and binds nothing (R62, R63, R80). -/
def State.pace (s : State) : State :=
  if s.link.sectorUp then
    State.bindLoop 4 (s.setCredit (min (s.reentry.credit + s.setup.pacer) Config.creditMax))
  else s

/-! ### Grants (R66, R154) -/

/-- The pending stage that matches a grant's kind, and the waiting stage it leads to (R66, R154). -/
def GrantKind.stages : GrantKind → Stage × Stage
  | .ranging => (.invitePending, .inviteWait)
  | .proving => (.provePending, .proveWait)

/-- The REC takes a grant, or drops it where the context is not bound to its terminal in the matching
pending stage (R66, R154). -/
def State.takeGrant (s : State) (g : Grant) : State :=
  match s.ctx g.ctx with
  | none => s
  | some a =>
    if a.terminal = g.terminal ∧ a.stage = g.kind.stages.1 then
      s.setCtx g.ctx (some { a with
        stage := g.kind.stages.2, timer := some s.setup.tr, slotFrame := some g.frame })
    else s

/-- Every grant handed to the REC taken, in the order of handing (R66). -/
def State.takeGrants (s : State) : State :=
  s.reentry.grants.foldl State.takeGrant { s with reentry := { s.reentry with grants := [] } }

/-! ### Loss and restart (R80, R82) -/

/-- A RANGING terminal's attempt ends at sector loss or restart: PARKED if park pending is set and
SECTOR_LOST otherwise (R20, R22). -/
def State.loseAttempt (s : State) (i : Slot) (byRestart : Bool) : State :=
  match s.contextOf i with
  | some (c, a) => s.endAttempt c a (if a.parkPending then .parked else .sectorLost) byRestart
  | none => s.takeOutcome i .sectorLost none byRestart

/-- The REC's state after a loss or a restart: queue empty, contexts free, credit 0 (R80, R82). -/
def State.clearReentry (s : State) : State :=
  { s with reentry := { s.reentry with queue := [], contexts := Table.empty, credit := 0 } }

end Sys2Proof.Machine
end

