-- ==== Sys2Proof/Machine/GrantLists.lean ====
section
/-! DEFINITION. The Grant Builder: the grant list of a frame event and the grants handed to the REC (R148
to R158). -/

namespace Sys2Proof.Machine

/-- The kinds of a grant list entry (R149). -/
inductive EntryKind where
  | ranging | proving | data
  deriving DecidableEq, Repr

/-- An entry of a grant list (R149). -/
structure GrantEntry where
  kind : EntryKind
  terminal : Slot
  profile : ProfIdx
  start : Nat
  length : Nat
  deriving DecidableEq, Repr

/-- The grant a pending context asks for, with the profile of its entry (R150). A context that is free or
waiting asks for none. -/
def State.contextGrant (s : State) (target : FrameNo) (c : CtxNo) : Option (Grant × ProfIdx) :=
  match s.ctx c with
  | none => none
  | some a =>
    match a.stage with
    | .invitePending => some (⟨c, a.terminal, .ranging, target⟩, 0)
    | .provePending => some (⟨c, a.terminal, .proving, target⟩, a.entryProfile.getD 0)
    | .inviteWait | .proveWait => none

/-- The context grants of a frame event, in context order (R150, R154). -/
def State.contextGrants (s : State) (target : FrameNo) : List (Grant × ProfIdx) :=
  allContexts.filterMap (s.contextGrant target)

/-- The kind of the list entry a grant stands for. -/
def GrantKind.entryKind : GrantKind → EntryKind
  | .ranging => .ranging
  | .proving => .proving

/-- The entries of a list before they are placed: the context entries, then one data entry for each serviced
terminal in slot order (R150, R151). -/
def State.unplaced (s : State) (target : FrameNo) : List GrantEntry :=
  (s.contextGrants target).map (fun g =>
    ⟨g.1.kind.entryKind, g.1.terminal, g.2, 0, s.setup.rs⟩) ++
  s.servicedSlots.map fun i =>
    ⟨.data, i, (s.term i).current.getD 0, 0, (s.term i).needUp⟩

/-- The entries laid end to end from a start symbol (R152). -/
def placeEntries : Nat → List GrantEntry → List GrantEntry
  | _, [] => []
  | at', e :: rest => { e with start := at' } :: placeEntries (at' + e.length) rest

/-- The grant list of a frame event: empty with the sector DOWN (R155), and otherwise the context and data
entries from symbol 0 (R152). -/
def State.grantList (s : State) (target : FrameNo) : List GrantEntry :=
  if s.link.sectorUp then placeEntries 0 (s.unplaced target) else []

/-- The kind codes of grant list entries (spec/11, 11.5). -/
def EntryKind.code : EntryKind → Byte
  | .ranging => 0#8
  | .proving => 1#8
  | .data => 2#8

/-- A grant list entry in eight bytes. -/
def GrantEntry.bytes (e : GrantEntry) : List Byte :=
  [e.kind.code, num8 e.terminal.val, num8 e.profile.val, 0#8] ++ num16 e.start ++ num16 e.length

/-- The GRANT_LIST record (spec/11, 11.5). -/
def grantListRecord (target : FrameNo) (l : List GrantEntry) : LinkRecord :=
  mkRecord 0x81#8 (be16 target ++ num16 l.length ++ l.flatMap GrantEntry.bytes)

/-- The GBLD takes the frame event numbered `n`: the list for frame n + 2 handed to the SLI, and one grant
for each context entry handed to the REC (R148, R154, R155). -/
def State.buildGrants (s : State) (n : FrameNo) : State :=
  let target := n + 2
  let grants := if s.link.sectorUp then (s.contextGrants target).map Prod.fst else []
  let s := s.send (grantListRecord target (s.grantList target))
  { s with reentry := { s.reentry with grants := s.reentry.grants ++ grants } }

end Sys2Proof.Machine
end

