-- ==== Sys2Proof/Decode.lean ====
section
/-! DEFINITION. What spells a command: the table's bits, of which spec/opcode_table.json gives no row any,
and the command code of a management command record (spec/11, 11.2). -/

namespace Sys2Proof

/-- The command a word spells by the table's bits. No row of spec/opcode_table.json gives bits, so no word
spells a command (notes/assumptions/23.md). -/
def decodeTableWord (_nbits _w : Nat) : Option Instr := none

/-- The management command of a code (spec/11, 11.2), for a request's source and a command record's body. A
code that names no command is the UNKNOWN_COMMAND row (R175). -/
def commandOf (src : Mac) (code : Byte) (body : List Byte) : Instr :=
  if code = 0x01#8 then .provisionTerminal src body
  else if code = 0x02#8 then .setTerminal src body
  else if code = 0x03#8 then .parkTerminal src body
  else if code = 0x04#8 then .releaseTerminal src body
  else if code = 0x05#8 then .deprovisionTerminal src body
  else if code = 0x06#8 then .forceProfile src body
  else if code = 0x10#8 then .writeProfile src body
  else if code = 0x11#8 then .invalidateProfile src body
  else if code = 0x20#8 then .setFlow src body
  else if code = 0x21#8 then .unbindFlow src body
  else if code = 0x22#8 then .enableFlow src body
  else if code = 0x23#8 then .disableFlow src body
  else if code = 0x24#8 then .mapTags src body
  else if code = 0x30#8 then .setSector src body
  else if code = 0x31#8 then .restartSector src body
  else if code = 0x40#8 then .readTerminal src body
  else if code = 0x41#8 then .readFlow src body
  else if code = 0x42#8 then .readProfile src body
  else if code = 0x43#8 then .readSector src body
  else if code = 0x44#8 then .readTags src body
  else if code = 0x45#8 then .readReentryQueue src body
  else if code = 0x46#8 then .readReadmissionList src body
  else if code = 0x47#8 then .readContexts src body
  else if code = 0x48#8 then .readLedger src body
  else if code = 0x50#8 then .clearCounters src body
  else if code = 0x51#8 then .clearFlags src body
  else .unknownCommand src code body

/-- The command record a management command row stands for: its request's source, its code and its body.
The rows that are no command record have none. -/
def commandRecord : Instr → Option (Mac × Byte × List Byte)
  | .frameStart _ | .burstReport _ | .missReport _ | .rangingReport _ | .rangingMiss _
  | .sectorState _ | .trunkPacketArrival _ | .deviceReset _ | .qmonFrameEvent | .tmgrFrameEvent
  | .downTimerExpiry _ | .recFrameEvent | .responseTimeout _ | .readmissionScan | .pbrFrameEvent
  | .staleDiscard _ | .gbldFrameEvent | .grantTake | .windowComplete _ | .requestTake
  | .transmitComplete | .noticeSend => none
  | .unknownCommand src code body => some (src, code, body)
  | .provisionTerminal src body => some (src, 0x01#8, body)
  | .setTerminal src body => some (src, 0x02#8, body)
  | .parkTerminal src body => some (src, 0x03#8, body)
  | .releaseTerminal src body => some (src, 0x04#8, body)
  | .deprovisionTerminal src body => some (src, 0x05#8, body)
  | .forceProfile src body => some (src, 0x06#8, body)
  | .writeProfile src body => some (src, 0x10#8, body)
  | .invalidateProfile src body => some (src, 0x11#8, body)
  | .setFlow src body => some (src, 0x20#8, body)
  | .unbindFlow src body => some (src, 0x21#8, body)
  | .enableFlow src body => some (src, 0x22#8, body)
  | .disableFlow src body => some (src, 0x23#8, body)
  | .mapTags src body => some (src, 0x24#8, body)
  | .setSector src body => some (src, 0x30#8, body)
  | .restartSector src body => some (src, 0x31#8, body)
  | .readTerminal src body => some (src, 0x40#8, body)
  | .readFlow src body => some (src, 0x41#8, body)
  | .readProfile src body => some (src, 0x42#8, body)
  | .readSector src body => some (src, 0x43#8, body)
  | .readTags src body => some (src, 0x44#8, body)
  | .readReentryQueue src body => some (src, 0x45#8, body)
  | .readReadmissionList src body => some (src, 0x46#8, body)
  | .readContexts src body => some (src, 0x47#8, body)
  | .readLedger src body => some (src, 0x48#8, body)
  | .clearCounters src body => some (src, 0x50#8, body)
  | .clearFlags src body => some (src, 0x51#8, body)

/-- Whether a code names a management command (R175). -/
def namesCommand (code : Byte) : Bool := commandOf 0 code [] != .unknownCommand 0 code []

end Sys2Proof
end

