-- ==== Sys2Proof/Machine/Management.lean ====
section
/-! DEFINITION. The Management Agent: the form of a request, the completion of a command, the response, and
the shape every management command shares (R174 to R179, R189). -/

namespace Sys2Proof.Machine

/-! ### The form of a request (R174, R189) -/

/-- The management payload of a packet: from after its type to before its FCS (notes/assumptions/8.md). -/
def payloadOf (p : Packet) : List Byte := (withoutFcs p).drop (typeOffset p + 2)

/-- Walk `n` command records, each four bytes and its body; none where the walk runs past the end (R174,
R189). Bytes after the last record are ignored. -/
def walkRecords : Nat → List Byte → Option (List CmdRecord)
  | 0, _ => some []
  | n + 1, l =>
    if l.length < 4 + nat16At l 2 then none
    else
      (walkRecords n (l.drop (4 + nat16At l 2))).map fun rs =>
        ⟨byteAt l 0, (l.drop 4).take (nat16At l 2)⟩ :: rs

/-- What the MAGT finds in the head request. -/
inductive RequestForm where
  /-- Discarded without a response: from a group address, or of a kind other than REQUEST. -/
  | discard
  /-- Malformed: answered FORMAT. -/
  | malformed
  /-- Well formed, with its command records. -/
  | good (records : List CmdRecord)
  deriving DecidableEq, Repr

/-- Whether an address is a group address: the lowest bit of its first byte. -/
def isGroup (a : Mac) : Bool := a.getLsbD 40

/-- The form of a request, its checks in the order of R174 and R189. -/
def requestForm (p : Packet) : RequestForm :=
  let l := payloadOf p
  if isGroup (sourceOf p) then .discard
  else if byteAt l 0 ≠ 1#8 then .malformed
  else if byteAt l 1 ≠ 1#8 then .discard
  else if nat8At l 4 < 1 ∨ Config.commandMax < nat8At l 4 then .malformed
  else
    match walkRecords (nat8At l 4) (l.drop 6) with
    | some rs => .good rs
    | none => .malformed

/-- The head request leaves the queue. -/
def State.dropRequest (s : State) : State :=
  { s with mgmt := { s.mgmt with requests := s.mgmt.requests.tail } }

/-- Whether the MAGT can take its head request: no request's commands are being taken and no response is
held (R177). -/
def Management.ready (m : Management) : Bool := m.active.isNone && m.held.isNone

/-- The MAGT takes the head request and checks its form (R174, R189). -/
def State.takeRequest (s : State) : State :=
  match s.mgmt.requests with
  | [] => s
  | p :: _ =>
    if s.mgmt.ready then
      match requestForm p with
      | .discard => s.dropRequest
      | .malformed =>
        s.respond (managementPacket (sourceOf p) s.setup.address
          (responsePayload (word16At (payloadOf p) 2) 1#8 []))
      | .good rs =>
        { s with mgmt := { s.mgmt with
            active := some ⟨sourceOf p, word16At (payloadOf p) 2, rs, []⟩ } }
    else s

/-! ### Completion of a command (R175, R177) -/

/-- The response to a request whose last command has been taken (R177). -/
def State.respondTo (s : State) (a : ActiveRequest) : State :=
  ({ s with mgmt := { s.mgmt with active := none } }).respond
    (managementPacket a.source s.setup.address (responsePayload a.tag 0#8 a.results))

/-- A command has been taken with a result: the result is kept, joins those of the active request where the
command is its next one, and the response is built after the last (R175, R177). -/
def State.complete (s : State) (src : Mac) (body : List Byte) (r : CmdResult) : State :=
  let s := { s with mgmt := { s.mgmt with lastResult := some r } }
  match s.mgmt.active with
  | none => s
  | some a =>
    match a.todo with
    | [] => s
    | next :: rest =>
      if a.source = src ∧ next.code = r.code ∧ next.body = body then
        let a := { a with todo := rest, results := a.results ++ [r] }
        if rest = [] then s.respondTo a
        else { s with mgmt := { s.mgmt with active := some a } }
      else s

/-! ### The shape of a command (R175, R176, R178, R179) -/

/-- What a write command's checks give: a refusal, or a status, an effect and a result body. -/
inductive Verdict where
  | refuse (st : Status)
  | take (st : Status) (effect : State → State) (result : List Byte)

/-- OK, or CLAMPED where a field was clamped (R176). -/
def okOr (clamped : Bool) : Status := if clamped then .clamped else .ok

/-- A write command of a code and a fixed body length: LENGTH on another length; otherwise its checks; a
refusal changes nothing; and a command that passes makes its source the controller before its effects are
taken (R175, R178). -/
def State.runWrite (s : State) (src : Mac) (code : Byte) (len : Nat) (body : List Byte)
    (check : State → Verdict) : State :=
  if body.length ≠ len then s.complete src body ⟨code, .length, []⟩
  else
    match check s with
    | .refuse st => s.complete src body ⟨code, st, []⟩
    | .take st effect result =>
      (effect { s with mgmt := { s.mgmt with controller := some src } }).complete src body
        ⟨code, st, result⟩

/-- A read command: LENGTH on a wrong body length, and otherwise its status and result body; no state changes
(R179). -/
def State.runRead (s : State) (src : Mac) (code : Byte) (len : Nat) (body : List Byte)
    (read : State → Status × List Byte) : State :=
  if body.length ≠ len then s.complete src body ⟨code, .length, []⟩
  else s.complete src body ⟨code, (read s).1, (read s).2⟩

end Sys2Proof.Machine
end

