-- ==== Sys2Proof/Machine/Release.lean ====
section
/-! DEFINITION. The frame event of the Packet Buffer and Release Scheduler: stamp, sweep, credit step,
passes and bursts (R128, R131 to R138). -/

namespace Sys2Proof.Machine

/-! ### Stamp and sweep (R128, R132) -/

/-- The arrival stamp set; at the first frame event the absent arrival frame numbers take its number
(R128). -/
def State.setStamp (s : State) (n : FrameNo) : State :=
  let s' := { s with buffer := { s.buffer with stamp := some n } }
  if s.buffer.stamp.isNone then
    { s' with flows := s'.flows.map fun _ r =>
        { r with queue := r.queue.map fun e => { e with arrival := some (e.arrival.getD n) } } }
  else s'

/-- The age of an entry at a frame number, modulo 65536 (R132). -/
def ageOf (n a : FrameNo) : Nat := (n - a).toNat

/-- Whether an entry's age exceeds a hold age (R132). -/
def QEntry.isStale (e : QEntry) (n : FrameNo) (holdAge : Nat) : Bool :=
  match e.arrival with
  | some a => decide (holdAge < ageOf n a)
  | none => false

/-- Whether a flow's head entry is stale at a frame number. -/
def Flow.headStale (r : Flow) (n : FrameNo) : Bool :=
  match r.queue with
  | [] => false
  | e :: _ => e.isStale n r.holdAge

/-- Discard a flow's stale head entries one at a time, up to a bound (R132). -/
def State.sweepHeads (n : FrameNo) (f : FlowIdx) : Nat → State → State
  | 0, s => s
  | k + 1, s =>
    if (s.flow f).headStale n then State.sweepHeads n f k (s.discardStale f) else s

/-- The sweep of one flow. -/
def State.sweepFlow (n : FrameNo) (s : State) (f : FlowIdx) : State :=
  State.sweepHeads n f (s.flow f).queue.length s

/-- The DOWN flows with a non-empty queue, in index order (R132). -/
def State.sweepable (s : State) : List FlowIdx :=
  s.flows.keys fun _ r => decide (r.dir = .down) && !r.queue.isEmpty

/-- The STALE summary of a flow with some discards (R142). -/
def State.summarize (s : State) (f : FlowIdx) (discards : Nat) : State :=
  if discards = 0 then s else s.raise (.stale f (s.flow f).bound (s.flow f).state discards)

/-- The stale sweep of a frame event, and then the STALE summaries in index order (R132, R142). -/
def State.sweep (s : State) (n : FrameNo) : State :=
  let swept := s.sweepable.foldl (State.sweepFlow n) s
  s.sweepable.foldl (fun s' f =>
    s'.summarize f ((s.flow f).queue.length - (s'.flow f).queue.length)) swept

/-! ### Credit (R133) -/

/-- Whether a flow is release-eligible: a DOWN flow, ADMITTED, its terminal RAMPING or IN_SERVICE. -/
def State.eligible (s : State) (r : Flow) : Bool :=
  decide (r.dir = .down) && r.state.isAdmitted &&
    match r.bound with
    | some i => (s.term i).state.active
    | none => false

/-- The credit step (R133). -/
def State.stepCredit (s : State) : State :=
  { s with flows := s.flows.map fun _ r =>
      { r with credit :=
          if s.eligible r then min (r.credit + r.cb) (r.cb + Config.packetMax) else 0 } }

/-! ### The passes (R134 to R136) -/

/-- A packet released in a frame event: its terminal, its flow, its bytes and the cost charged. -/
structure Released where
  terminal : Slot
  flow : FlowIdx
  bytes : Packet
  cost : Nat
  deriving DecidableEq, Repr

/-- The progress of the passes: the state, the budget remaining and the packets released so far, in the
order of their release. -/
structure Pass where
  state : State
  budget : Nat
  released : List Released
  deriving DecidableEq, Repr

/-- The bytes a flow has released this frame (R136). -/
def Pass.bytesOf (p : Pass) (f : FlowIdx) : Nat :=
  ((p.released.filter fun r => r.flow = f).map fun r => r.bytes.length).sum

/-- The cost of releasing a packet for a terminal: its symbol cost, plus the overhead if no packet of the
terminal has been released at this frame event (R134). -/
def Pass.cost (p : Pass) (i : Slot) (bytes : Nat) : Nat :=
  let e := p.state.pricing i
  symbolCost bytes e.density +
    if p.released.any (fun r => r.terminal = i) then 0 else e.overhead

/-- Release the head packet of a flow (R135). -/
def Pass.release (p : Pass) (i : Slot) (f : FlowIdx) (e : QEntry) (charge : Bool) : Pass where
  state :=
    let s := p.state.releaseHead f
    if charge then s.modFlow f fun r => { r with credit := r.credit - e.len } else s
  budget := p.budget - p.cost i e.len
  released := p.released ++ [⟨i, f, e.bytes, p.cost i e.len⟩]

/-- The committed releases of one flow, at most as many as its queue holds (R135). -/
def releaseCommitted (i : Slot) (f : FlowIdx) : Nat → Pass → Pass
  | 0, p => p
  | n + 1, p =>
    match (p.state.flow f).queue with
    | [] => p
    | e :: _ =>
      if e.len ≤ (p.state.flow f).credit ∧ p.cost i e.len ≤ p.budget then
        releaseCommitted i f n (p.release i f e true)
      else p

/-- The excess releases of one flow (R136). -/
def releaseExcess (i : Slot) (f : FlowIdx) : Nat → Pass → Pass
  | 0, p => p
  | n + 1, p =>
    match (p.state.flow f).queue with
    | [] => p
    | e :: _ =>
      if p.bytesOf f + e.len ≤ (p.state.flow f).pb ∧ p.cost i e.len ≤ p.budget then
        releaseExcess i f n (p.release i f e false)
      else p

/-- The release-eligible flows in class order and, within a class, index order (R135). -/
def State.releaseOrder (s : State) : List FlowIdx :=
  (List.finRange 8).flatMap fun c => s.flows.keys fun _ r => decide (r.cls = c) && s.eligible r

/-- One pass over the release-eligible flows. -/
def runPass (one : Slot → FlowIdx → Nat → Pass → Pass) (l : List FlowIdx) (p : Pass) : Pass :=
  l.foldl (fun p f =>
    match (p.state.flow f).bound with
    | some i => one i f (p.state.flow f).queue.length p
    | none => p) p

/-- The committed pass and then the excess pass, on one budget of D symbols (R134 to R136). -/
def State.passes (s : State) : Pass :=
  let order := s.releaseOrder
  runPass releaseExcess order (runPass releaseCommitted order ⟨s, s.setup.d, []⟩)

/-! ### Bursts (R137) -/

/-- The DOWNSTREAM_BURST record (R137, spec/11 11.5). -/
def burstRecord (i : Slot) (p : Option ProfIdx) (n : FrameNo) (rs : List Released) : LinkRecord :=
  mkRecord 0x82#8
    (num8 i.val :: profileByte p :: be16 n ++ num16 (rs.map Released.cost).sum ++ num16 rs.length ++
      rs.flatMap fun r => num16 r.bytes.length ++ r.bytes)

/-- The terminals with a packet released, in ascending slot order. -/
def burstSlots (rs : List Released) : List Slot :=
  (List.finRange 256).filter fun i => rs.any fun r => r.terminal = i

/-- One DOWNSTREAM_BURST per terminal with released packets, handed in ascending slot order (R137). -/
def State.sendBursts (s : State) (n : FrameNo) (rs : List Released) : State :=
  (burstSlots rs).foldl (fun s i =>
    s.send (burstRecord i (s.term i).current n (rs.filter fun r => r.terminal = i))) s

/-- The PBR takes the frame event numbered `n` (R131). -/
def State.releaseFrame (s : State) (n : FrameNo) : State :=
  let p := (((s.setStamp n).sweep n).stepCredit).passes
  p.state.sendBursts n p.released

end Sys2Proof.Machine
end

