-- ==== Sys2Proof/Machine/Operands.lean ====
section
/-! DEFINITION. The operand forms: the bodies of link records and of management commands, read at the
offsets of spec/11 under the conventions of R188. -/

namespace Sys2Proof.Machine

/-! ### Link records (spec/11, 11.5) -/

/-- The payload packets of a burst report: `n` packets, each a two-byte length and its bytes, and nothing
after them (R190). -/
def splitPayload : Nat → List Byte → Option (List Packet)
  | 0, l => if l = [] then some [] else none
  | n + 1, l =>
    if l.length < 2 + nat16At l 0 then none
    else (splitPayload n (l.drop (2 + nat16At l 0))).map fun ps =>
      (l.drop 2).take (nat16At l 0) :: ps

/-- The fields of a BURST_REPORT (R159). -/
structure BurstReport where
  frame : FrameNo
  slot : Slot
  crcGood : Bool
  proving : Bool
  snr : Nat
  payload : List Packet
  deriving DecidableEq, Repr

/-- A ten-bit SNR in two bytes (R188). -/
def snrAt (l : List Byte) (i : Nat) : Nat := nat16At l i % 1024

/-- The body of a BURST_REPORT. -/
def readBurst (b : List Byte) : BurstReport where
  frame := word16At b 0
  slot := slotAt b 2
  crcGood := byteAt b 3 == 0#8
  proving := bitAt b 4 0
  snr := snrAt b 6
  payload := (splitPayload (nat16At b 8) (b.drop 10)).getD []

/-- The fields of a MISS_REPORT (R159). -/
structure MissReport where
  frame : FrameNo
  slot : Slot
  proving : Bool
  deriving DecidableEq, Repr

/-- The body of a MISS_REPORT. -/
def readMiss (b : List Byte) : MissReport where
  frame := word16At b 0
  slot := slotAt b 2
  proving := bitAt b 3 0

/-- The body of a RANGING_REPORT: the timing offset in its low twelve bits, the power offset in its low
seven, both two's complement (R188). -/
def readRanging (b : List Byte) : RangingReport where
  slot := slotAt b 0
  crcGood := byteAt b 1 == 0#8
  identity := macAt b 2
  snr := snrAt b 8
  timing := ((word16At b 10).extractLsb' 0 12).toInt
  power := ((byteAt b 12).extractLsb' 0 7).toInt

/-! ### Management command bodies (spec/11, 11.2) -/

/-- The terminal body of PROVISION_TERMINAL and SET_TERMINAL. The policy is present where its code names
one. -/
structure TerminalBody where
  slot : Slot
  identity : Option Mac
  freeze : Bool
  cls : Nat
  policy : Option ResumePolicy
  ceiling : Nat
  deriving DecidableEq, Repr

/-- The policy a code names: 0 LAST, 1 DEFAULT. -/
def policyOf (b : Byte) : Option ResumePolicy :=
  if b = 0#8 then some .last else if b = 1#8 then some .sectorDefault else none

/-- The terminal body. -/
def readTerminalBody (b : List Byte) : TerminalBody where
  slot := slotAt b 0
  identity := if bitAt b 1 0 then some (macAt b 2) else none
  freeze := bitAt b 1 1
  cls := nat8At b 8
  policy := policyOf (byteAt b 9)
  ceiling := nat8At b 10

/-- A re-entry class above 3 is set to 3 (R6). -/
def clampClass (n : Nat) : Fin 4 := ⟨min n 3, by omega⟩

/-- A profile ceiling above 11 is set to 11 (R6). -/
def clampCeiling (n : Nat) : ProfIdx := ⟨min n 11, by omega⟩

/-- Whether a terminal body's class or ceiling is clamped (R6). -/
def TerminalBody.clamped (t : TerminalBody) : Bool := decide (3 < t.cls) || decide (11 < t.ceiling)

/-- The profile body of WRITE_PROFILE. -/
structure ProfileBody where
  index : Nat
  density : Nat
  dwell : Nat
  overhead : Nat
  entry : Nat
  exit : Nat
  deriving DecidableEq, Repr

/-- The profile body. -/
def readProfileBody (b : List Byte) : ProfileBody where
  index := nat8At b 0
  density := nat8At b 2
  dwell := nat8At b 3
  overhead := nat16At b 4
  entry := nat16At b 6
  exit := nat16At b 8

/-- The profile body with every field clamped to its range (R40, R41). -/
def ProfileBody.clamp (p : ProfileBody) : ProfileBody :=
  { p with
    density := Machine.clamp 4 80 p.density
    dwell := Machine.clamp 1 15 p.dwell
    overhead := Machine.clamp 8 1023 p.overhead
    entry := Machine.clamp 0 500 p.entry
    exit := Machine.clamp 0 500 p.exit }

/-- The flow body of SET_FLOW. -/
structure FlowBody where
  index : Nat
  terminal : Option Slot
  dir : Option Direction
  cls : Nat
  policy : Option FadePolicy
  cb : Nat
  pb : Nat
  limit : Nat
  holdAge : Nat
  deriving DecidableEq, Repr

/-- The direction a code names: 0 DOWN, 1 UP. -/
def directionOf (b : Byte) : Option Direction :=
  if b = 0#8 then some .down else if b = 1#8 then some .up else none

/-- The fade policy a code names: 0 HOLD, 1 SHED. -/
def fadePolicyOf (b : Byte) : Option FadePolicy :=
  if b = 0#8 then some .hold else if b = 1#8 then some .shed else none

/-- The flow body. -/
def readFlowBody (b : List Byte) : FlowBody where
  index := nat16At b 0
  terminal := if bitAt b 2 0 then some (slotAt b 3) else none
  dir := directionOf (byteAt b 4)
  cls := nat8At b 5
  policy := fadePolicyOf (byteAt b 6)
  cb := nat16At b 8
  pb := nat16At b 10
  limit := nat16At b 12
  holdAge := nat16At b 14

/-- The flow body with its numeric fields clamped, PB against the clamped CB (R87). -/
def FlowBody.clamp (f : FlowBody) : FlowBody :=
  let cb := Machine.clamp 0 16383 f.cb
  { f with
    cls := Machine.clamp 0 7 f.cls
    cb := cb
    pb := Machine.clamp cb 16383 f.pb
    limit := Machine.clamp 1 4096 f.limit
    holdAge := Machine.clamp 1 32767 f.holdAge }

/-- A flow class as the record holds it. -/
def flowClass (n : Nat) : Fin 8 := ⟨min n 7, by omega⟩

/-- The body of MAP_TAGS. The target is none where its presence flag is 0. -/
structure TagsBody where
  base : Nat
  k : Nat
  target : Option Nat
  deriving DecidableEq, Repr

/-- The MAP_TAGS body. -/
def readTagsBody (b : List Byte) : TagsBody where
  base := nat16At b 0
  k := nat8At b 2
  target := if bitAt b 3 0 then some (nat16At b 4) else none

/-- The enable set of a byte: bits 0 to 4 for TERMINAL, ATTEMPT, CAPACITY, BACKLOG, SECTOR. -/
def classSetOf (b : Byte) : ClassSet where
  terminal := b.getLsbD 0
  attempt := b.getLsbD 1
  capacity := b.getLsbD 2
  backlog := b.getLsbD 3
  sector := b.getLsbD 4

/-- The fields of a SET_SECTOR command, each present where its bit of the presence mask is set. -/
structure SetupBody where
  u : Option Nat
  d : Option Nat
  rs : Option Nat
  m : Option Nat
  a : Option Nat
  w : Option Nat
  eMax : Option Nat
  mf : Option Nat
  mo : Option Nat
  settle : Option Nat
  backoff : Option Nat
  pacer : Option Nat
  rMax : Option Nat
  tr : Option Nat
  timingWindow : Option Nat
  powerWindow : Option Nat
  defaultProfile : Option Nat
  enable : Option ClassSet
  address : Option Mac
  deriving DecidableEq, Repr

/-- A field given present where bit `bit` of the presence mask is set. -/
def presentAt {α : Type} (b : List Byte) (bit : Nat) (v : α) : Option α :=
  if (word32At b 0).getLsbD bit then some v else none

/-- The setup body. -/
def readSetupBody (b : List Byte) : SetupBody where
  u := presentAt b 0 (nat16At b 4)
  d := presentAt b 1 (nat16At b 6)
  rs := presentAt b 2 (nat16At b 8)
  m := presentAt b 3 (nat8At b 10)
  a := presentAt b 4 (nat8At b 11)
  w := presentAt b 5 (nat8At b 12)
  eMax := presentAt b 6 (nat8At b 13)
  mf := presentAt b 7 (nat8At b 14)
  mo := presentAt b 8 (nat8At b 15)
  settle := presentAt b 9 (nat16At b 16)
  backoff := presentAt b 10 (nat8At b 19)
  pacer := presentAt b 11 (nat16At b 20)
  rMax := presentAt b 12 (nat8At b 22)
  tr := presentAt b 13 (nat8At b 23)
  timingWindow := presentAt b 14 (nat8At b 24)
  powerWindow := presentAt b 15 (nat8At b 25)
  defaultProfile := presentAt b 16 (nat8At b 26)
  enable := presentAt b 17 (classSetOf (byteAt b 27))
  address := presentAt b 18 (macAt b 28)

end Sys2Proof.Machine
end

