-- ==== Sys2Proof/Machine/SectorLink.lean ====
section
/-! DEFINITION. The Sector Link Interface: the checks of an incoming record, frame numbering, sector state,
and the dispatch of reports (R159 to R169, R190). -/

namespace Sys2Proof.Machine

/-! ### Checks (R160, R190) -/

/-- The six incoming kinds (spec/11, 11.5). -/
def knownKind (k : Byte) : Bool :=
  k == 1#8 || k == 2#8 || k == 3#8 || k == 4#8 || k == 5#8 || k == 6#8

/-- Whether a body has the length its kind requires: a fixed one, or for a BURST_REPORT the one its payload
announces (R160 check 3, R190). -/
def lengthFits (kind : Byte) (b : List Byte) : Bool :=
  if kind = 1#8 then decide (b.length = 2)
  else if kind = 2#8 then
    decide (10 ≤ b.length) && (splitPayload (nat16At b 8) (b.drop 10)).isSome
  else if kind = 3#8 then decide (b.length = 4)
  else if kind = 4#8 then decide (b.length = 14)
  else decide (b.length = 1)

/-- Whether a code is 0 or 1. -/
def isZeroOrOne (b : Byte) : Bool := b == 0#8 || b == 1#8

/-- Whether every enumerated field holds a defined value: the CRC status and the sector state (R160
check 4). -/
def enumsDefined (kind : Byte) (b : List Byte) : Bool :=
  if kind = 2#8 then isZeroOrOne (byteAt b 3)
  else if kind = 4#8 then isZeroOrOne (byteAt b 1)
  else if kind = 6#8 then isZeroOrOne (byteAt b 0)
  else true

/-- The checks of R160, in their order. A record too short to hold its frame carries no CRC-16 that could match
(notes/assumptions/17.md). -/
def recordChecks (r : LinkRecord) : Bool :=
  (r.isFramed && recordCrc r.kind r.length r.body == r.crc) && knownKind r.kind &&
    (r.length.toNat == r.body.length && lengthFits r.kind r.body) &&
    enumsDefined r.kind r.body

/-! ### Frame numbering (R161, R162) -/

/-- The expected frame number: the current one plus 1, absent where it is absent (R161). -/
def Link.expected (l : Link) : Option FrameNo := l.frame.map (· + 1)

/-- A frame event announced to each of the six blocks (R162). -/
def FrameEvents.announce (e : FrameEvents) (n : FrameNo) : FrameEvents where
  qmon := e.qmon ++ [n]
  tmgr := e.tmgr ++ [n]
  reec := e.reec ++ [n]
  cled := e.cled ++ [n]
  pbr := e.pbr ++ [n]
  gbld := e.gbld ++ [n]

/-- The gap of a received number that differs from the expected one: counted, and a FRAME_GAP notice handed
before the number is adopted (R161). -/
def State.countGap (s : State) (n : FrameNo) : State :=
  match s.link.expected with
  | none => s
  | some e =>
    if n = e then s
    else
      (s.count fun k => { k with frameGaps := satAdd k.frameGaps (n - e).toNat }).raise
        (.frameGap e n (n - e))

/-- The SLI takes a FRAME_START (R161, R162). -/
def State.takeFrameStart (s : State) (n : FrameNo) : State :=
  let s := s.countGap n
  { s with link := { s.link with frame := some n, announced := s.link.announced.announce n } }

/-! ### Sector state (R163, R164, R20, R80, R119) -/

/-- The sector state set. -/
def State.setSectorUp (s : State) (up : Bool) : State :=
  { s with link := { s.link with sectorUp := up } }

/-- A terminal's part of the sector's loss (R20). -/
def State.loseTerminal (s : State) (i : Slot) : State :=
  match (s.term i).state with
  | .ramping | .inService | .fading => s.outage i false
  | .queued => (s.unqueue i).enterDown i s.setup.settle false
  | .ranging => s.loseAttempt i false
  | .absent | .parked | .down => s

/-- The terminals the sector's loss changes, in slot order: serviced, QUEUED and RANGING (R20). -/
def State.lossSlots (s : State) : List Slot :=
  s.terms.keys fun _ t =>
    t.state.serviced || decide (t.state = .queued) || decide (t.state = .ranging)

/-- The sector's loss, one event of every block (R163). -/
def State.loseSector (s : State) : State :=
  let s := (((s.setSectorUp false).count fun k =>
    { k with sectorLosses := satAdd k.sectorLosses 1 }).raise .sectorDown)
  (s.lossSlots.foldl State.loseTerminal s).clearReentry

/-- The SLI takes a SECTOR_STATE (R163, R164). One that repeats the current state has no effect. -/
def State.takeSectorState (s : State) (up : Bool) : State :=
  if up = s.link.sectorUp then s
  else if up then (s.setSectorUp true).raise .sectorUp
  else s.loseSector

/-! ### Dispatch of reports (R165 to R168) -/

/-- A stray report is dropped and counted (R168). -/
def State.stray (s : State) : State :=
  s.count fun k => { k with strayReports := satAdd k.strayReports 1 }

/-- The context in PROVE_WAIT that a report answers: its slot's terminal RANGING, the proving flag set and
the frame number equal to the slot frame (R165, R166). -/
def State.provingContext (s : State) (i : Slot) (proving : Bool) (frame : FrameNo) :
    Option (CtxNo × Attempt) :=
  match s.contextOf i with
  | some (c, a) =>
    if (s.term i).state = .ranging ∧ a.stage = .proveWait ∧ proving = true ∧
        a.slotFrame = some frame then some (c, a)
    else none
  | none => none

/-- The context in INVITE_WAIT that a ranging report or miss answers (R167). -/
def State.invitedContext (s : State) (i : Slot) : Option (CtxNo × Attempt) :=
  match s.contextOf i with
  | some (c, a) => if a.stage = .inviteWait then some (c, a) else none
  | none => none

/-- The TPC's part of a report for a serviced terminal: the payload forwarded where the proving flag is
clear and the CRC good, and otherwise dropped and counted (R99, R165). -/
def State.takePayload (s : State) (r : BurstReport) : State :=
  if r.proving = false ∧ r.crcGood = true then s.forwardPayload r.payload
  else s.dropPayload r.payload.length

/-- A BURST_REPORT is dispatched (R165). -/
def State.takeBurst (s : State) (r : BurstReport) : State :=
  if (s.term r.slot).state.serviced then (s.takeSample r.slot r.snr r.crcGood).takePayload r
  else
    match s.provingContext r.slot r.proving r.frame with
    | some (c, a) => (s.judgeProving c a r.snr r.crcGood).dropPayload r.payload.length
    | none => s.stray

/-- A MISS_REPORT is dispatched (R166). -/
def State.takeMissReport (s : State) (r : MissReport) : State :=
  if (s.term r.slot).state.serviced then s.takeMiss r.slot
  else
    match s.provingContext r.slot r.proving r.frame with
    | some (c, a) => s.judgeProvingMiss c a
    | none => s.stray

/-- A RANGING_REPORT is dispatched (R167). -/
def State.takeRanging (s : State) (r : RangingReport) : State :=
  match s.invitedContext r.slot with
  | some (c, a) => s.judgeRanging c a r
  | none => s.stray

/-- A RANGING_MISS is dispatched (R167). -/
def State.takeRangingMiss (s : State) (i : Slot) : State :=
  match s.invitedContext i with
  | some (c, a) => s.judgeRangingMiss c a
  | none => s.stray

/-! ### Intake -/

/-- A record that passes R160 is taken as the rule for the kind it carries. -/
def State.takeChecked (s : State) (r : LinkRecord) : State :=
  if r.kind = 1#8 then s.takeFrameStart (word16At r.body 0)
  else if r.kind = 2#8 then s.takeBurst (readBurst r.body)
  else if r.kind = 3#8 then s.takeMissReport (readMiss r.body)
  else if r.kind = 4#8 then s.takeRanging (readRanging r.body)
  else if r.kind = 5#8 then s.takeRangingMiss (slotAt r.body 0)
  else s.takeSectorState (byteAt r.body 0 == 1#8)

/-- A record arrives (R160): one that fails a check is dropped whole and counted on link errors. -/
def State.takeRecord (s : State) (r : LinkRecord) : State :=
  if recordChecks r then s.takeChecked r
  else s.count fun k => { k with linkErrors := satAdd k.linkErrors 1 }

end Sys2Proof.Machine
end

