-- ==== Sys2Proof/Machine/Events.lean ====
section
/-! DEFINITION. The records and packets that arrive, the reset input, the blocks' frame events and the events
inside the blocks: the rows of spec/opcode_table.json that are no management command. -/

namespace Sys2Proof.Machine

/-! ### Records of the Sector Record Link (R159, R160). The kind byte a record carries decides how it is taken
(notes/assumptions/17.md). -/

/-- FRAME_START (R161). -/
def execFrameStart (r : LinkRecord) (s : State) : Host.Outcome State Fault Refusal := .next (s.takeRecord r)

/-- BURST_REPORT (R165). -/
def execBurstReport (r : LinkRecord) (s : State) : Host.Outcome State Fault Refusal := .next (s.takeRecord r)

/-- MISS_REPORT (R166). -/
def execMissReport (r : LinkRecord) (s : State) : Host.Outcome State Fault Refusal := .next (s.takeRecord r)

/-- RANGING_REPORT (R167). -/
def execRangingReport (r : LinkRecord) (s : State) : Host.Outcome State Fault Refusal :=
  .next (s.takeRecord r)

/-- RANGING_MISS (R167). -/
def execRangingMiss (r : LinkRecord) (s : State) : Host.Outcome State Fault Refusal := .next (s.takeRecord r)

/-- SECTOR_STATE (R163, R164). -/
def execSectorState (r : LinkRecord) (s : State) : Host.Outcome State Fault Refusal := .next (s.takeRecord r)

/-! ### The trunk and the reset input -/

/-- TRUNK_PACKET_ARRIVAL (R96). -/
def execTrunkPacketArrival (p : Packet) (s : State) : Host.Outcome State Fault Refusal :=
  .next (s.takePacket p)

/-- DEVICE_RESET: every block at its reset state with the straps sampled (R23, R38, R56, R83, R100, R124,
R147, R172, R187). The commands still waiting outside are kept. -/
def execDeviceReset (straps : Byte) (s : State) : Host.Outcome State Fault Refusal :=
  .next { State.resetWith straps with pending := s.pending }

/-! ### Frame events (R162). A block takes the oldest frame event announced to it; with none announced there
is none to take (notes/assumptions/4.md). -/

/-- QMON_FRAME_EVENT (R26). -/
def execQmonFrameEvent (s : State) : Host.Outcome State Fault Refusal :=
  match s.link.announced.qmon with
  | [] => .next s
  | n :: rest =>
    .next { s with
      link := { s.link with announced := { s.link.announced with qmon := rest } }
      resultStamp := some n }

/-- The timer of a DOWN terminal lowered by one (R14 step 1). -/
def State.lowerTimer (s : State) (i : Slot) : State :=
  s.modTerm i fun t => { t with timer := t.timer.map fun k => k - 1 }

/-- A DOWN terminal whose timer stands at 0 with the sector UP becomes QUEUED (R14 step 2). -/
def State.expireTimer (s : State) (i : Slot) : State :=
  if (s.term i).state = .down ∧ (s.term i).timer = some 0 ∧ s.link.sectorUp = true then s.makeQueued i
  else s

/-- The DOWN terminals, in slot order. -/
def State.downSlots (s : State) : List Slot := s.terms.keys fun _ t => decide (t.state = .down)

/-- The TMGR's walk of the DOWN terminals in slot order (R14). -/
def State.walkDown (s : State) : State :=
  s.downSlots.foldl (fun s i => (s.lowerTimer i).expireTimer i) s

/-- TMGR_FRAME_EVENT (R14). -/
def execTmgrFrameEvent (s : State) : Host.Outcome State Fault Refusal :=
  match s.link.announced.tmgr with
  | [] => .next s
  | _ :: rest =>
    .next { s with link := { s.link with
      announced := { s.link.announced with tmgr := rest } } }.walkDown

/-- DOWN_TIMER_EXPIRY (R14). -/
def execDownTimerExpiry (slot : Slot) (s : State) : Host.Outcome State Fault Refusal :=
  .next (s.expireTimer slot)

/-- The REC's work at the frame event numbered `n`: response timers, then the credit step and the bindings
(R64). Contexts are taken in ascending order (notes/assumptions/13.md). -/
def State.reecFrame (s : State) (n : FrameNo) : State :=
  (allContexts.foldl (State.tickContext n) s).pace

/-- REC_FRAME_EVENT (R64). The grants handed and not yet taken are taken first (R66). -/
def execRecFrameEvent (s : State) : Host.Outcome State Fault Refusal :=
  match s.link.announced.reec with
  | [] => .next s
  | n :: rest =>
    .next (({ s with link := { s.link with
      announced := { s.link.announced with reec := rest } } }.takeGrants).reecFrame n)

/-- RESPONSE_TIMEOUT (R67). -/
def execResponseTimeout (ctx : CtxNo) (s : State) : Host.Outcome State Fault Refusal := .next (s.timeout ctx)

/-- READMISSION_SCAN: the CLED's frame event (R113). -/
def execReadmissionScan (s : State) : Host.Outcome State Fault Refusal :=
  match s.link.announced.cled with
  | [] => .next s
  | _ :: rest =>
    .next { s with link := { s.link with
      announced := { s.link.announced with cled := rest } } }.scan

/-- PBR_FRAME_EVENT (R131). -/
def execPbrFrameEvent (s : State) : Host.Outcome State Fault Refusal :=
  match s.link.announced.pbr with
  | [] => .next s
  | n :: rest =>
    .next ({ s with link := { s.link with
      announced := { s.link.announced with pbr := rest } } }.releaseFrame n)

/-- One stale discard of a DOWN flow's head entry at the PBR's stamp, with its summary (R132, R142,
notes/assumptions/5.md). -/
def State.staleOnce (s : State) (f : FlowIdx) : State :=
  match s.buffer.stamp with
  | some n =>
    if (s.flow f).dir = .down ∧ (s.flow f).headStale n = true then (s.discardStale f).summarize f 1
    else s
  | none => s

/-- STALE_DISCARD (R132). -/
def execStaleDiscard (flow : FlowIdx) (s : State) : Host.Outcome State Fault Refusal :=
  .next (s.staleOnce flow)

/-- GBLD_FRAME_EVENT (R148). -/
def execGbldFrameEvent (s : State) : Host.Outcome State Fault Refusal :=
  match s.link.announced.gbld with
  | [] => .next s
  | n :: rest =>
    .next ({ s with link := { s.link with
      announced := { s.link.announced with gbld := rest } } }.buildGrants n)

/-- GRANT_TAKE: the REC takes the oldest grant handed to it (R66). -/
def execGrantTake (s : State) : Host.Outcome State Fault Refusal :=
  match s.reentry.grants with
  | [] => .next s
  | g :: rest => .next ({ s with reentry := { s.reentry with grants := rest } }.takeGrant g)

/-- WINDOW_COMPLETE (R28): of a serviced terminal whose window has reached W samples. -/
def execWindowComplete (slot : Slot) (s : State) : Host.Outcome State Fault Refusal :=
  .next (if (s.term slot).state.serviced then s.completeIfFull slot else s)

/-! ### Requests, responses and notices -/

/-- REQUEST_TAKE (R174). -/
def execRequestTake (s : State) : Host.Outcome State Fault Refusal := .next s.takeRequest

/-- TRANSMIT_COMPLETE (R177). -/
def execTransmitComplete (s : State) : Host.Outcome State Fault Refusal := .next s.finishSending

/-- NOTICE_SEND (R185). -/
def execNoticeSend (s : State) : Host.Outcome State Fault Refusal := .next s.sendNotice

/-- UNKNOWN_COMMAND: the result is UNKNOWN and nothing is executed (R175). -/
def execUnknownCommand (src : Mac) (code : Byte) (body : List Byte) (s : State) :
    Host.Outcome State Fault Refusal :=
  .next (s.complete src body ⟨code, .unknown, []⟩)

end Sys2Proof.Machine
end

