-- ==== Sys2Proof/Machine/TerminalCommands.lean ====
section
/-! DEFINITION. The terminal commands: PROVISION_TERMINAL, SET_TERMINAL, PARK_TERMINAL, RELEASE_TERMINAL,
DEPROVISION_TERMINAL and FORCE_PROFILE (R6 to R11, R51, R52, R76, R77). -/

namespace Sys2Proof.Machine

/-- Every meaning of a command that always goes on. -/
abbrev Answer := Host.Outcome State Fault Refusal

/-! ### PROVISION_TERMINAL (R6) -/

/-- The record of a slot as provisioned (R6). -/
def provisionedRecord (b : TerminalBody) (p : ResumePolicy) (t : Terminal) : Terminal :=
  { t with
    state := .parked
    identity := b.identity
    freeze := b.freeze
    cls := clampClass b.cls
    policy := p
    ceiling := clampCeiling b.ceiling }

/-- The checks and effect of PROVISION_TERMINAL (R6). -/
def checkProvision (b : TerminalBody) (s : State) : Verdict :=
  if (s.term b.slot).state ≠ .absent then .refuse .busy
  else
    match b.policy with
    | none => .refuse .range
    | some p =>
      if b.freeze = true ∧ b.identity = none then .refuse .inconsistent
      else .take (okOr b.clamped) (fun s => s.modTerm b.slot (provisionedRecord b p)) []

/-- PROVISION_TERMINAL. -/
def execProvisionTerminal (src : Mac) (body : List Byte) (s : State) : Answer :=
  .next (s.runWrite src 0x01#8 12 body (checkProvision (readTerminalBody body)))

/-! ### SET_TERMINAL (R7, R52, R60) -/

/-- The five fields written by SET_TERMINAL (R7). -/
def rewrittenRecord (b : TerminalBody) (p : ResumePolicy) (t : Terminal) : Terminal :=
  { t with
    identity := b.identity
    freeze := b.freeze
    cls := clampClass b.cls
    policy := p
    ceiling := clampCeiling b.ceiling }

/-- A QUEUED terminal's entry taken out of the queue and placed again under the class now in its record (R7,
R60). -/
def State.requeue (s : State) (i : Slot) : State :=
  if (s.term i).state = .queued then (s.unqueue i).placeReentry i else s

/-- A ceiling below the current profile of a serviced terminal steps it down at once to the highest valid
profile not above the ceiling (R7, R52). -/
def State.ceilingStep (s : State) (i : Slot) : State :=
  match (s.term i).current with
  | some p =>
    if (s.term i).state.serviced = true ∧ (s.term i).ceiling < p then
      s.changeProfile i (s.validAtMost (s.term i).ceiling)
    else s
  | none => s

/-- A ceiling below the entry profile held by the terminal's context lowers that entry profile to the highest
valid profile not above the ceiling (R7, R52, R78). -/
def State.ceilingEntry (s : State) (i : Slot) : State :=
  match s.contextOf i with
  | some (c, a) =>
    match a.entryProfile with
    | some p =>
      if (s.term i).ceiling < p then
        s.setCtx c (some { a with entryProfile := some (s.validAtMost (s.term i).ceiling) })
      else s
    | none => s
  | none => s

/-- The checks and effect of SET_TERMINAL (R7). DESIGN CHOICE (notes/assumptions/29.md): an identity written over a
different one raises no IDENTITY notice, which R2 gives to a different identity that replaces a present one and R71
and R183 to one that is learned. Unsafe. -/
def checkSetTerminal (b : TerminalBody) (s : State) : Verdict :=
  if (s.term b.slot).state = .absent then .refuse .absent
  else
    match b.policy with
    | none => .refuse .range
    | some p =>
      if b.freeze = true ∧ b.identity = none then .refuse .inconsistent
      else
        .take (okOr b.clamped)
          (fun s => (((s.modTerm b.slot (rewrittenRecord b p)).requeue b.slot).ceilingStep
            b.slot).ceilingEntry b.slot) []

/-- SET_TERMINAL. -/
def execSetTerminal (src : Mac) (body : List Byte) (s : State) : Answer :=
  .next (s.runWrite src 0x02#8 12 body (checkSetTerminal (readTerminalBody body)))

/-! ### PARK_TERMINAL (R9, R10, R76, R77) -/

/-- Parking a RANGING terminal: at once in a pending stage, and by park pending in a waiting stage (R10, R76,
R77). -/
def State.parkRanging (s : State) (i : Slot) : State :=
  match s.contextOf i with
  | some (c, a) =>
    if a.stage.waits then s.setCtx c (some { a with parkPending := true })
    else s.endAttempt c a .parked false
  | none => s

/-- The effect of PARK_TERMINAL by the terminal's state (R9, R10). -/
def State.park (s : State) (i : Slot) : State :=
  match (s.term i).state with
  | .absent | .parked => s
  | .down => s.modTerm i fun t => { t with state := .parked, timer := none }
  | .queued => (s.unqueue i).modTerm i fun t => { t with state := .parked }
  | .ranging => s.parkRanging i
  | .ramping | .inService | .fading => s.parkServiced i

/-- The checks and effect of PARK_TERMINAL. -/
def checkPark (i : Slot) (s : State) : Verdict :=
  if (s.term i).state = .absent then .refuse .absent else .take .ok (fun s => s.park i) []

/-- PARK_TERMINAL. -/
def execParkTerminal (src : Mac) (body : List Byte) (s : State) : Answer :=
  .next (s.runWrite src 0x03#8 2 body (checkPark (slotAt body 0)))

/-! ### RELEASE_TERMINAL (R8) -/

/-- A PARKED terminal is handed back: QUEUED with the sector UP, DOWN with timer 0 while it is DOWN (R8). -/
def State.releaseTerminal (s : State) (i : Slot) : State :=
  if s.link.sectorUp then s.makeQueued i else s.enterDown i 0 false

/-- The checks and effect of RELEASE_TERMINAL. -/
def checkRelease (i : Slot) (s : State) : Verdict :=
  match (s.term i).state with
  | .absent => .refuse .absent
  | .parked => .take .ok (fun s => s.releaseTerminal i) []
  | .down | .queued | .ranging | .ramping | .inService | .fading => .refuse .busy

/-- RELEASE_TERMINAL. -/
def execReleaseTerminal (src : Mac) (body : List Byte) (s : State) : Answer :=
  .next (s.runWrite src 0x04#8 2 body (checkRelease (slotAt body 0)))

/-! ### DEPROVISION_TERMINAL (R11) -/

/-- The checks and effect of DEPROVISION_TERMINAL. -/
def checkDeprovision (i : Slot) (s : State) : Verdict :=
  if (s.term i).state = .absent then .refuse .absent
  else if (s.term i).state = .parked ∧ (s.term i).chainHead = none then
    .take .ok (fun s => s.modTerm i fun _ => Terminal.reset) []
  else .refuse .busy

/-- DEPROVISION_TERMINAL. -/
def execDeprovisionTerminal (src : Mac) (body : List Byte) (s : State) : Answer :=
  .next (s.runWrite src 0x05#8 2 body (checkDeprovision (slotAt body 0)))

/-! ### FORCE_PROFILE (R51) -/

/-- The forced profile: dwell 0 and the window restarted, the change handed on to the CLED where the profile
differs (R51). -/
def State.force (s : State) (i : Slot) (p : ProfIdx) : State :=
  if (s.term i).current = some p then
    s.modTerm i fun t => { t with dwell := 0, window := t.window.restart }
  else s.changeProfile i p

/-- The checks of FORCE_PROFILE in their order, and its effect (R51). -/
def checkForce (i : Slot) (n : Nat) (s : State) : Verdict :=
  if (s.term i).state = .absent then .refuse .absent
  else
    match profileOf n with
    | none => .refuse .range
    | some p =>
      if (s.term i).state.serviced = false then .refuse .busy
      else if (s.profile p).valid = false then .refuse .range
      else if (s.term i).ceiling < p then .refuse .busy
      else if (s.term i).state = .fading ∧ p ≠ 0 then .refuse .busy
      else .take .ok (fun s => s.force i p) []

/-- FORCE_PROFILE. -/
def execForceProfile (src : Mac) (body : List Byte) (s : State) : Answer :=
  .next (s.runWrite src 0x06#8 2 body (checkForce (slotAt body 0) (nat8At body 1)))

end Sys2Proof.Machine
end

