-- ==== Sys2Proof/Machine/FlowCommands.lean ====
section
/-! DEFINITION. The flow and tag map commands: SET_FLOW, UNBIND_FLOW, ENABLE_FLOW, DISABLE_FLOW and MAP_TAGS
(R84 to R95, R121). -/

namespace Sys2Proof.Machine

/-! ### SET_FLOW (R87 to R90) -/

/-- The flow of a SET_FLOW whose index and codes all name something (R87 steps 1 and 2), after the clamps of
step 3. -/
structure FlowWrite where
  flow : FlowIdx
  terminal : Option Slot
  dir : Direction
  cls : Fin 8
  policy : FadePolicy
  cb : Nat
  pb : Nat
  limit : Nat
  holdAge : Nat
  deriving DecidableEq, Repr

/-- A flow body read as a write: none where its index, direction or policy names nothing (R87). -/
def FlowBody.toWrite (b : FlowBody) : Option FlowWrite :=
  match flowOf b.index, b.dir, b.policy with
  | some f, some x, some p =>
    some ⟨f, b.terminal, x, flowClass b.clamp.cls, p, b.clamp.cb, b.clamp.pb, b.clamp.limit,
      b.clamp.holdAge⟩
  | _, _, _ => none

/-- Whether a SET_FLOW changes the flow's bound terminal: it is given present and differs, an unbound flow
included (R87 step 5). -/
def FlowWrite.rebinds (w : FlowWrite) (r : Flow) : Bool :=
  w.terminal.isSome && decide (w.terminal ≠ r.bound)

/-- The binding and linking of a SET_FLOW, with the class written (R88). -/
def State.bindFlow (s : State) (w : FlowWrite) : State :=
  let old := (s.flow w.flow).bound
  let dest := w.terminal.or old
  if dest = old ∧ (s.flow w.flow).cls = w.cls then s
  else
    let s := match old with
      | some i => s.unlinkFlow i w.flow
      | none => s
    let s := s.modFlow w.flow fun r => { r with bound := dest, cls := w.cls }
    match dest with
    | some i => s.linkFlow i w.flow
    | none => s

/-- An ADMITTED flow whose CB changes is withdrawn to WAITING with cause NEW, its terminal's need and load
reduced and its terminal's state adjusted (R89, R121, R19). -/
def State.withdrawForRate (s : State) (f : FlowIdx) : State :=
  if (s.flow f).state = .admitted then ((s.withdraw f .new).repriceFlow f).noteFlowWaiting f else s

/-- The configuration fields other than terminal, class and CB written (R87, R89). -/
def State.writeFlow (s : State) (w : FlowWrite) : State :=
  s.modFlow w.flow fun r =>
    { r with dir := w.dir, policy := w.policy, cb := w.cb, pb := w.pb, limit := w.limit, holdAge := w.holdAge }

/-- The effect of a SET_FLOW (R88 to R90). The CLED reports RAMPING terminals after a binding, a move within
a chain or a CB change (R19, R115, notes/assumptions/15.md). DESIGN CHOICE: the CB change of a flow that is unbound
and stays so makes no report, since the CLED does not hold it. Unsafe. -/
def State.setFlow (s : State) (w : FlowWrite) : State :=
  let r := s.flow w.flow
  let cbChanged := decide (w.cb ≠ r.cb)
  let flowChange := w.rebinds r || (r.bound.isSome && (decide (w.cls ≠ r.cls) || cbChanged))
  let s := s.bindFlow w
  let s := if cbChanged then (s.writeFlow w).withdrawForRate w.flow else s.writeFlow w
  let s := if w.limit < r.limit then s.trimToLimit w.flow else s
  if flowChange then s.reportRamping else s

/-- The checks of SET_FLOW in their order, and its effect (R87). -/
def checkSetFlow (b : FlowBody) (s : State) : Verdict :=
  match b.toWrite with
  | none => .refuse .range
  | some w =>
    let r := s.flow w.flow
    if (w.terminal.map fun i => (s.term i).state) = some .absent then .refuse .absent
    else if r.state ≠ .disabled ∧ (w.rebinds r = true ∨ w.dir ≠ r.dir ∨ w.cls ≠ r.cls) then
      .refuse .busy
    else if w.rebinds r = true ∧
        (w.terminal.map fun i => decide (Config.chainMax ≤ (s.chain i).length)) = some true then
      .refuse .chainFull
    else .take (okOr (decide (b.clamp ≠ b))) (fun s => s.setFlow w) []

/-- SET_FLOW. -/
def execSetFlow (src : Mac) (body : List Byte) (s : State) : Answer :=
  .next (s.runWrite src 0x20#8 16 body (checkSetFlow (readFlowBody body)))

/-! ### UNBIND_FLOW (R91) -/

/-- A bound flow is unlinked from its terminal's chain and unbound (R91). -/
def State.unbind (s : State) (f : FlowIdx) : State :=
  match (s.flow f).bound with
  | none => s
  | some i => ((s.unlinkFlow i f).modFlow f fun r => { r with bound := none }).reportRamping

/-- The checks and effect of UNBIND_FLOW (R91). -/
def checkUnbind (n : Nat) (s : State) : Verdict :=
  match flowOf n with
  | none => .refuse .range
  | some f =>
    if (s.flow f).state ≠ .disabled then .refuse .busy else .take .ok (fun s => s.unbind f) []

/-- UNBIND_FLOW. -/
def execUnbindFlow (src : Mac) (body : List Byte) (s : State) : Answer :=
  .next (s.runWrite src 0x21#8 2 body (checkUnbind (nat16At body 0)))

/-! ### ENABLE_FLOW (R92) -/

/-- A DISABLED flow becomes WAITING with cause NEW and its terminal's state is adjusted; another flow is
unchanged (R92, R121). -/
def State.enable (s : State) (f : FlowIdx) : State :=
  if (s.flow f).state = .disabled then ((s.makeWaiting f .new).noteFlowWaiting f).reportRamping else s

/-- The checks and effect of ENABLE_FLOW (R92). -/
def checkEnable (n : Nat) (s : State) : Verdict :=
  match flowOf n with
  | none => .refuse .range
  | some f =>
    if (s.flow f).bound = none then .refuse .absent else .take .ok (fun s => s.enable f) []

/-- ENABLE_FLOW. -/
def execEnableFlow (src : Mac) (body : List Byte) (s : State) : Answer :=
  .next (s.runWrite src 0x22#8 2 body (checkEnable (nat16At body 0)))

/-! ### DISABLE_FLOW (R93) -/

/-- A flow becomes DISABLED, its credit 0 and its marker absent. -/
def State.makeDisabled (s : State) (f : FlowIdx) : State :=
  (s.modFlow f fun r => { r with state := .disabled }).dropCredit f

/-- The effect of DISABLE_FLOW by the flow's state (R93, R121). -/
def State.disable (s : State) (f : FlowIdx) : State :=
  match (s.flow f).state with
  | .disabled => s
  | .admitted => (((s.makeDisabled f).repriceFlow f).flushQueue f).reportRamping
  | .waiting _ => (((s.makeDisabled f).unlist f).flushQueue f).reportRamping

/-- The checks and effect of DISABLE_FLOW (R93). -/
def checkDisable (n : Nat) (_s : State) : Verdict :=
  match flowOf n with
  | none => .refuse .range
  | some f => .take .ok (fun s => s.disable f) []

/-- DISABLE_FLOW. -/
def execDisableFlow (src : Mac) (body : List Byte) (s : State) : Answer :=
  .next (s.runWrite src 0x23#8 2 body (checkDisable (nat16At body 0)))

/-! ### MAP_TAGS (R95) -/

/-- The base of a block: the base less its remainder on division by 2^k (R95). -/
def alignedBase (base k : Nat) : Nat := base - base % 2 ^ k

/-- The tags of a block, tags 0 and 4095 skipped (R95). -/
def blockTags (base k : Nat) : List Tag :=
  (List.range (2 ^ k)).filterMap fun j =>
    if h : alignedBase base k + j < 4096 then
      if alignedBase base k + j = 0 ∨ alignedBase base k + j = 4095 then none
      else some ⟨alignedBase base k + j, h⟩
    else none

/-- Write a target into the entries of some tags. -/
def State.writeTags (s : State) (l : List Tag) (target : Option FlowIdx) : State :=
  { s with tags := l.foldl (fun t v => t.put v target) s.tags }

/-- The target of MAP_TAGS: refused where the flow index names nothing (RANGE) or the flow is not bound
(ABSENT) (R95). -/
def State.tagTarget (s : State) : Option Nat → Except Status (Option FlowIdx)
  | none => .ok none
  | some n =>
    match flowOf n with
    | none => .error .range
    | some f => if (s.flow f).bound = none then .error .absent else .ok (some f)

/-- The checks of MAP_TAGS in their order, its effect and its result body (R95). -/
def checkMapTags (b : TagsBody) (s : State) : Verdict :=
  if 4095 < b.base then .refuse .range
  else
    match s.tagTarget b.target with
    | .error st => .refuse st
    | .ok target =>
      let k := min b.k 8
      .take (okOr (decide (8 < b.k))) (fun s => s.writeTags (blockTags b.base k) target)
        (num16 (alignedBase b.base k) ++ num16 (blockTags b.base k).length)

/-- MAP_TAGS. -/
def execMapTags (src : Mac) (body : List Byte) (s : State) : Answer :=
  .next (s.runWrite src 0x24#8 6 body (checkMapTags (readTagsBody body)))

end Sys2Proof.Machine
end

