-- ==== Sys2Proof/Machine/ProfileCommands.lean ====
section
/-! DEFINITION. The profile table commands: WRITE_PROFILE and INVALIDATE_PROFILE (R41, R42). -/

namespace Sys2Proof.Machine

/-- Whether a profile is the current profile of a terminal or the entry profile held by a context (R41). -/
def State.profileInUse (s : State) (p : ProfIdx) : Bool :=
  s.terms.entries.any (fun e => decide (e.2.current = some p)) ||
    allContexts.any fun c =>
      match s.ctx c with
      | some a => decide (a.entryProfile = some p)
      | none => false

/-- The entry a profile body writes (R41). -/
def ProfileBody.toProfile (b : ProfileBody) : Profile where
  valid := true
  density := b.density
  overhead := b.overhead
  entry := b.entry
  exit := b.exit
  dwell := b.dwell

/-- A profile table entry written. -/
def State.setProfile (s : State) (p : ProfIdx) (e : Profile) : State :=
  { s with profiles := s.profiles.put p e }

/-- The checks of WRITE_PROFILE in their order, and its effect (R41). -/
def checkWriteProfile (b : ProfileBody) (s : State) : Verdict :=
  match profileOf b.index with
  | none => .refuse .range
  | some p =>
    if s.profileInUse p then .refuse .inUse
    else if b.clamp.entry ≤ b.clamp.exit then .refuse .inconsistent
    else .take (okOr (decide (b.clamp ≠ b))) (fun s => s.setProfile p b.clamp.toProfile) []

/-- WRITE_PROFILE. -/
def execWriteProfile (src : Mac) (body : List Byte) (s : State) : Answer :=
  .next (s.runWrite src 0x10#8 10 body (checkWriteProfile (readProfileBody body)))

/-- The checks of INVALIDATE_PROFILE in their order, and its effect (R42). -/
def checkInvalidate (n : Nat) (s : State) : Verdict :=
  match profileOf n with
  | none => .refuse .range
  | some p =>
    if p = 0 ∨ p = s.setup.defaultProfile then .refuse .busy
    else if s.profileInUse p then .refuse .inUse
    else .take .ok (fun s => s.setProfile p { s.profile p with valid := false }) []

/-- INVALIDATE_PROFILE. -/
def execInvalidateProfile (src : Mac) (body : List Byte) (s : State) : Answer :=
  .next (s.runWrite src 0x11#8 2 body (checkInvalidate (nat8At body 0)))

end Sys2Proof.Machine
end

