-- ==== Sys2Proof/Machine/SectorCommands.lean ====
section
/-! DEFINITION. The sector commands: SET_SECTOR, RESTART_SECTOR, CLEAR_COUNTERS and CLEAR_FLAGS (R181 to
R183, R186). -/

namespace Sys2Proof.Machine

/-! ### SET_SECTOR (R181) -/

/-- A field as the command would leave it: clamped where given present, and held otherwise. -/
def takeField (lo hi : Nat) (given : Option Nat) (held : Nat) : Nat :=
  match given with
  | some v => clamp lo hi v
  | none => held

/-- Whether a field given present lies outside its range. -/
def fieldClamped (lo hi : Nat) (given : Option Nat) : Bool :=
  match given with
  | some v => decide (clamp lo hi v ≠ v)
  | none => false

/-- The M_o given or held (R181 step 2). -/
def SetupBody.rawMo (b : SetupBody) (c : Setup) : Nat := b.mo.getD c.mo

/-- The M_f that the command would leave. -/
def SetupBody.newMf (b : SetupBody) (c : Setup) : Nat := takeField 1 15 b.mf c.mf

/-- Whether M_o, given or held, is raised to M_f + 1: M_o or M_f is given and M_o is not above M_f (R181
step 2). -/
def SetupBody.moRaised (b : SetupBody) (c : Setup) : Bool :=
  (b.mo.isSome || b.mf.isSome) && decide (b.rawMo c ≤ b.newMf c)

/-- The setup record that the command would leave (R181 steps 2 and 4). -/
def SetupBody.apply (b : SetupBody) (c : Setup) : Setup where
  u := takeField 1024 65535 b.u c.u
  d := takeField 1024 65535 b.d c.d
  rs := takeField 64 1024 b.rs c.rs
  m := takeField 8 64 b.m c.m
  a := takeField 50 100 b.a c.a
  w := takeField 2 5 b.w c.w
  eMax := takeField 0 32 b.eMax c.eMax
  mf := b.newMf c
  mo := if b.moRaised c then b.newMf c + 1 else b.rawMo c
  settle := takeField 0 4095 b.settle c.settle
  backoff := takeField 1 255 b.backoff c.backoff
  pacer := takeField 1 256 b.pacer c.pacer
  rMax := takeField 1 16 b.rMax c.rMax
  tr := takeField 1 63 b.tr c.tr
  timingWindow := takeField 1 255 b.timingWindow c.timingWindow
  powerWindow := takeField 1 63 b.powerWindow c.powerWindow
  defaultProfile := (b.defaultProfile.bind profileOf).getD c.defaultProfile
  enable := b.enable.getD c.enable
  address := b.address.getD c.address

/-- Whether step 2 of R181 changes any value. -/
def SetupBody.clamped (b : SetupBody) (c : Setup) : Bool :=
  fieldClamped 1024 65535 b.u || fieldClamped 1024 65535 b.d || fieldClamped 64 1024 b.rs ||
  fieldClamped 8 64 b.m || fieldClamped 50 100 b.a || fieldClamped 2 5 b.w ||
  fieldClamped 0 32 b.eMax || fieldClamped 1 15 b.mf || b.moRaised c ||
  fieldClamped 0 4095 b.settle || fieldClamped 1 255 b.backoff || fieldClamped 1 256 b.pacer ||
  fieldClamped 1 16 b.rMax || fieldClamped 1 63 b.tr || fieldClamped 1 255 b.timingWindow ||
  fieldClamped 1 63 b.powerWindow

/-- Step 1 of R181: a present default profile above 11, or a present part address with the group bit set. -/
def SetupBody.namesNothing (b : SetupBody) : Bool :=
  b.defaultProfile.any (fun n => decide (11 < n)) || b.address.any isGroup

/-- Step 3 of R181: U − 4 × R_s < 256 × M (R106). -/
def Setup.tooSmall (c : Setup) : Bool := decide (c.u < 256 * c.m + 4 * c.rs)

/-- Step 4 of R181: a present default profile whose entry is invalid (R43). -/
def State.defaultInvalid (s : State) (b : SetupBody) : Bool :=
  match b.defaultProfile.bind profileOf with
  | some p => !(s.profile p).valid
  | none => false

/-- The written setup taken by the blocks: windows restarted where w changes, needs recomputed where M
changes, and shedding where a capacity figure or M changes (R35, R122, R181). -/
def State.writeSetup (s : State) (new : Setup) : State :=
  let old := s.setup
  let s := { s with setup := new }
  let s := if new.w ≠ old.w then s.restartWindows else s
  let s := if new.m ≠ old.m then s.repriceAll else s
  if new.u ≠ old.u ∨ new.rs ≠ old.rs ∨ new.m ≠ old.m ∨ new.d ≠ old.d then s.shedToFit else s

/-- The checks of SET_SECTOR in their order, and its effect (R181). -/
def checkSetSector (b : SetupBody) (s : State) : Verdict :=
  if b.namesNothing then .refuse .range
  else if (b.apply s.setup).tooSmall then .refuse .range
  else if s.defaultInvalid b then .refuse .range
  else .take (okOr (b.clamped s.setup)) (fun s => s.writeSetup (b.apply s.setup)) []

/-- SET_SECTOR. -/
def execSetSector (src : Mac) (body : List Byte) (s : State) : Host.Outcome State Fault Refusal :=
  .next (s.runWrite src 0x30#8 34 body (checkSetSector (readSetupBody body)))

/-! ### RESTART_SECTOR (R182, R22, R37, R56, R82, R123, R146) -/

/-- A terminal's part of a restart (R22). -/
def State.restartTerminal (s : State) (i : Slot) : State :=
  match (s.term i).state with
  | .ramping | .inService | .fading => s.outage i true
  | .queued => (s.unqueue i).enterDown i s.setup.settle true
  | .ranging => s.loseAttempt i true
  | .down => s.enterDown i s.setup.settle true
  | .absent | .parked => s

/-- The terminals a restart places: every one neither ABSENT nor PARKED, in slot order (R22). -/
def State.restartSlots (s : State) : List Slot :=
  s.terms.keys fun _ t => decide (t.state ≠ .absent) && decide (t.state ≠ .parked)

/-- The effect of RESTART_SECTOR (R182). -/
def State.restart (s : State) : State :=
  let s := s.raise .restart
  let s := (s.restartSlots.foldl State.restartTerminal s).clearReentry
  (s.clearWindows.rebuildLedger).flushAll

/-- RESTART_SECTOR. -/
def execRestartSector (src : Mac) (body : List Byte) (s : State) : Host.Outcome State Fault Refusal :=
  .next (s.runWrite src 0x31#8 0 body fun _ => .take .ok State.restart [])

/-! ### CLEAR_COUNTERS (R186) -/

/-- The counters of one terminal set to 0. -/
def State.clearTerminal (s : State) (i : Slot) : State := s.modTerm i fun t => { t with counters := {} }

/-- The counters of one flow set to 0. -/
def State.clearFlow (s : State) (f : FlowIdx) : State := s.modFlow f fun r => { r with counters := {} }

/-- The counters of every terminal and flow and the sector counters set to 0. -/
def State.clearAllCounters (s : State) : State :=
  { s with
    terms := s.terms.map fun _ t => { t with counters := {} }
    flows := s.flows.map fun _ r => { r with counters := {} }
    counters := {} }

/-- The checks and effect of CLEAR_COUNTERS for a scope and an index (R186). -/
def checkClearCounters (scope : Byte) (i : Slot) (n : Nat) (s : State) : Verdict :=
  if scope = 0#8 then
    if (s.term i).state = .absent then .refuse .absent
    else .take .ok (fun s => s.clearTerminal i) []
  else if scope = 1#8 then
    match flowOf n with
    | none => .refuse .range
    | some f => .take .ok (fun s => s.clearFlow f) []
  else if scope = 2#8 then .take .ok State.clearAllCounters []
  else .refuse .range

/-- CLEAR_COUNTERS. -/
def execClearCounters (src : Mac) (body : List Byte) (s : State) : Host.Outcome State Fault Refusal :=
  .next (s.runWrite src 0x50#8 4 body
    (checkClearCounters (byteAt body 0) (slotAt body 3) (nat16At body 2)))

/-! ### CLEAR_FLAGS (R4, R183) -/

/-- The six sticky flags cleared, and every terminal's outage-seen flag (R4, R183). -/
def State.clearFlags (s : State) : State :=
  { s with
    mgmt := { s.mgmt with flags := {}, overflow := false }
    terms := s.terms.map fun _ t => { t with outageSeen := false } }

/-- CLEAR_FLAGS. -/
def execClearFlags (src : Mac) (body : List Byte) (s : State) : Host.Outcome State Fault Refusal :=
  .next (s.runWrite src 0x51#8 0 body fun _ => .take .ok State.clearFlags [])

end Sys2Proof.Machine
end

