-- ==== Sys2Proof/Machine/Reads.lean ====
section
/-! DEFINITION. The nine reads and their result bodies (R179, R180, spec/11 11.3). -/

namespace Sys2Proof.Machine

/-- A byte of a number that may be absent, zero where it is. -/
def optByte (n : Option Nat) : Byte := num8 (n.getD 0)

/-! ### READ_TERMINAL -/

/-- The state codes of a terminal. -/
def TermState.code : TermState → Byte
  | .absent => 0#8
  | .parked => 1#8
  | .down => 2#8
  | .queued => 3#8
  | .ranging => 4#8
  | .ramping => 5#8
  | .inService => 6#8
  | .fading => 7#8

/-- The counters of a terminal, four bytes each. -/
def TermCounters.bytes (c : TermCounters) : List Byte :=
  num32 c.bursts ++ num32 c.crcBad ++ num32 c.misses ++ num32 c.attempts ++ num32 c.failed ++
    num32 c.outages

/-- The READ_TERMINAL result body: 62 bytes. DESIGN CHOICE (notes/assumptions/33.md): a last window result stored while
the QMON's stamp was absent is read with its presence bit set and frame number 0. Unsafe. -/
def terminalBytes (i : Slot) (t : Terminal) : List Byte :=
  [num8 i.val, t.state.code,
    flagByte [t.identity.isSome, t.current.isSome, t.resume.isSome, t.beforeFade.isSome,
      t.timer.isSome, t.lastOutcome.isSome, t.lastResult.isSome, t.chainHead.isSome],
    flagByte [t.freeze, t.outageSeen, t.window.settling, t.lastResult.any WindowResult.impaired,
      decide (t.policy = .sectorDefault), decide (t.beforeFade = some .inService)]] ++
  be48 (t.identity.getD 0) ++
  [num8 t.cls.val, num8 t.ceiling.val, profileByte t.current, profileByte t.resume,
    num8 t.dwell, num8 t.failedAttempts] ++
  num16 (t.timer.getD 0) ++
  [(t.lastOutcome.map AttemptOutcome.code).getD 0#8, num8 t.window.misses] ++
  num16 ((t.lastResult.map WindowResult.q).getD 0) ++
  frameWord (t.lastResult.bind WindowResult.frame) ++
  flowWord t.chainHead ++
  [num8 t.window.samples, num8 t.window.crcBad] ++
  num16 t.window.sum ++ num32 t.needUp ++ num32 t.needDown ++ t.counters.bytes

/-- READ_TERMINAL. -/
def execReadTerminal (src : Mac) (body : List Byte) (s : State) : Host.Outcome State Fault Refusal :=
  .next (s.runRead src 0x40#8 2 body fun s =>
    (.ok, terminalBytes (slotAt body 0) (s.term (slotAt body 0))))

/-! ### READ_FLOW -/

/-- The cause codes. -/
def Cause.code : Cause → Byte
  | .new => 0#8
  | .outage => 1#8
  | .shed => 2#8
  | .parked => 3#8

/-- The cause byte of a flow state, zero where there is no cause. -/
def FlowState.causeByte (st : FlowState) : Byte := (st.cause?.map Cause.code).getD 0#8

/-- The counters of a flow, four bytes each. -/
def FlowCounters.bytes (c : FlowCounters) : List Byte :=
  num32 c.enqueued ++ num32 c.released ++ num32 c.full ++ num32 c.shed ++ num32 c.stale ++
    num32 c.disabled ++ num32 c.noBuf ++ num32 c.flush

/-- A backlog marker in six bytes, zero where it is absent. -/
def markerBytes (m : Option Marker) : List Byte :=
  num16 ((m.map Marker.remaining).getD 0) ++ num16 ((m.map Marker.released).getD 0) ++
    num16 ((m.map Marker.discarded).getD 0)

/-- The READ_FLOW result body: 62 bytes. -/
def flowBytes (f : FlowIdx) (r : Flow) : List Byte :=
  num16 f.val ++
  [flagByte [r.bound.isSome, decide (r.dir = .up), decide (r.policy = .shed), r.chainNext.isSome,
      r.marker.isSome, r.state.isWaiting],
    slotByte r.bound, num8 r.cls.val, r.state.code, r.state.causeByte, 0#8] ++
  num16 r.cb ++ num16 r.pb ++ num16 r.limit ++ num16 r.holdAge ++ flowWord r.chainNext ++
  num16 r.queue.length ++ num16 r.cellsHeld ++ num16 r.credit ++ markerBytes r.marker ++
  r.counters.bytes

/-- READ_FLOW. -/
def execReadFlow (src : Mac) (body : List Byte) (s : State) : Host.Outcome State Fault Refusal :=
  .next (s.runRead src 0x41#8 2 body fun s =>
    match flowOf (nat16At body 0) with
    | none => (.range, [])
    | some f => (.ok, flowBytes f (s.flow f)))

/-! ### READ_PROFILE -/

/-- The READ_PROFILE result body: the profile body with the valid flag. -/
def profileBytes (p : ProfIdx) (e : Profile) : List Byte :=
  [num8 p.val, flagByte [e.valid], num8 e.density, num8 e.dwell] ++
    num16 e.overhead ++ num16 e.entry ++ num16 e.exit

/-- READ_PROFILE. -/
def execReadProfile (src : Mac) (body : List Byte) (s : State) : Host.Outcome State Fault Refusal :=
  .next (s.runRead src 0x42#8 2 body fun s =>
    match profileOf (nat8At body 0) with
    | none => (.range, [])
    | some p => (.ok, profileBytes p (s.profile p)))

/-! ### READ_SECTOR (R180) -/

/-- The bits of a class set, TERMINAL first. -/
def ClassSet.bits (c : ClassSet) : List Bool := [c.terminal, c.attempt, c.capacity, c.backlog, c.sector]

/-- The setup fields in setup-body order: bytes 4 to 33 of that body. -/
def setupBytes (c : Setup) : List Byte :=
  num16 c.u ++ num16 c.d ++ num16 c.rs ++
  [num8 c.m, num8 c.a, num8 c.w, num8 c.eMax, num8 c.mf, num8 c.mo] ++
  num16 c.settle ++ [0#8, num8 c.backoff] ++ num16 c.pacer ++
  [num8 c.rMax, num8 c.tr, num8 c.timingWindow, num8 c.powerWindow, num8 c.defaultProfile.val,
    flagByte c.enable.bits] ++
  be48 c.address

/-- The ten sector counters in the order of R186's table. -/
def SectorCounters.bytes (c : SectorCounters) : List Byte :=
  num32 c.trunkErrors ++ num32 c.unclassified ++ num32 c.misdirected ++ num32 c.upForwarded ++
    num32 c.upDropped ++ num32 c.noBuffer ++ num32 c.linkErrors ++ num32 c.frameGaps ++
    num32 c.sectorLosses ++ num32 c.strayReports

/-- The READ_SECTOR result body: 88 bytes. -/
def sectorBytes (s : State) : List Byte :=
  [if s.link.sectorUp then 1#8 else 0#8,
    flagByte [s.link.frame.isSome, s.mgmt.controller.isSome],
    flagByte (s.mgmt.flags.bits ++ [s.mgmt.overflow]), 0#8] ++
  frameWord s.link.frame ++ frameWord s.link.expected ++ setupBytes s.setup ++ s.counters.bytes ++
  be48 (s.mgmt.controller.getD 0) ++ [num8 s.mgmt.notices.length, 0#8] ++ be16 s.mgmt.seq

/-- READ_SECTOR. -/
def execReadSector (src : Mac) (body : List Byte) (s : State) : Host.Outcome State Fault Refusal :=
  .next (s.runRead src 0x43#8 0 body fun s => (.ok, sectorBytes s))

/-! ### Reads of lists: a start, a count and its limit -/

/-- The status of a read whose count is bounded (R179). DESIGN CHOICE (notes/assumptions/30.md): a count above the
limit gives CLAMPED wherever the read starts, beyond the length of the list too (R61, R105). Unsafe. -/
def countStatus (count limit : Nat) : Status := okOr (decide (limit < count))

/-- READ_TAGS entries: tag and flow, 0xFFFF for none (R94). -/
def tagBytes (s : State) (v : Tag) : List Byte :=
  num16 v.val ++
    match s.tags.get v with
    | some f => num16 f.val
    | none => [0xFF#8, 0xFF#8]

/-- The tags a READ_TAGS returns: from the start tag onward up to the count, none above 4095 (R94). -/
def tagsRead (start count : Nat) : List Tag :=
  (List.range (min count 64)).filterMap fun j =>
    if h : start + j < 4096 then some ⟨start + j, h⟩ else none

/-- READ_TAGS. -/
def execReadTags (src : Mac) (body : List Byte) (s : State) : Host.Outcome State Fault Refusal :=
  .next (s.runRead src 0x44#8 4 body fun s =>
    if 4095 < nat16At body 0 then (.range, [])
    else
      let l := tagsRead (nat16At body 0) (nat8At body 2)
      (countStatus (nat8At body 2) 64, num8 l.length :: 0#8 :: l.flatMap (tagBytes s)))

/-- The entries of a list from a start position up to a count, each with its position. -/
def entriesFrom {α : Type} (l : List α) (start count : Nat) : List (Nat × α) :=
  ((l.drop start).take count).zipIdx.map fun e => (start + e.2, e.1)

/-- A READ_REENTRY_QUEUE entry: position, slot and class (R61). -/
def reentryBytes (s : State) (e : Nat × Slot) : List Byte :=
  num16 e.1 ++ [num8 e.2.val, num8 (s.term e.2).cls.val]

/-- READ_REENTRY_QUEUE (R61). -/
def execReadReentryQueue (src : Mac) (body : List Byte) (s : State) : Host.Outcome State Fault Refusal :=
  .next (s.runRead src 0x45#8 4 body fun s =>
    let l := entriesFrom s.reentry.queue (nat16At body 0) (min (nat8At body 2) 32)
    (countStatus (nat8At body 2) 32,
      num16 s.reentry.queue.length ++ num8 l.length :: 0#8 :: l.flatMap (reentryBytes s)))

/-- Whether a listed flow's terminal is RAMPING or IN_SERVICE: the eligible flag (R105). -/
def State.listEligible (s : State) (f : FlowIdx) : Bool :=
  match (s.flow f).bound with
  | some i => (s.term i).state.active
  | none => false

/-- A READ_READMISSION_LIST entry: position, flow, terminal, flags, class and cause (R105). -/
def readmissionBytes (s : State) (e : Nat × FlowIdx) : List Byte :=
  num16 e.1 ++ num16 e.2.val ++
    [slotByte (s.flow e.2).bound, flagByte [decide ((s.flow e.2).dir = .up), s.listEligible e.2],
      num8 (s.flow e.2).cls.val, (s.flow e.2).state.causeByte]

/-- READ_READMISSION_LIST (R105). A start beyond the length with a count above 64 is CLAMPED
(notes/assumptions/30.md). -/
def execReadReadmissionList (src : Mac) (body : List Byte) (s : State) :
    Host.Outcome State Fault Refusal :=
  .next (s.runRead src 0x46#8 4 body fun s =>
    let l := entriesFrom s.ledger.list (nat16At body 0) (min (nat8At body 2) 64)
    (countStatus (nat8At body 2) 64,
      num16 s.ledger.list.length ++ num8 l.length :: 0#8 :: l.flatMap (readmissionBytes s)))

/-! ### READ_CONTEXTS and READ_LEDGER -/

/-- The stage codes. -/
def Stage.code : Stage → Byte
  | .invitePending => 0#8
  | .inviteWait => 1#8
  | .provePending => 2#8
  | .proveWait => 3#8

/-- A context in twelve bytes; a free context shows every field absent (R65). -/
def contextBytes : Option Attempt → List Byte
  | none => List.replicate 12 0#8
  | some a =>
    [flagByte [true, a.timer.isSome, a.entryProfile.isSome, a.sample.isSome, a.parkPending],
      num8 a.terminal.val, a.stage.code, num8 a.failures, num8 a.adjusts, optByte a.timer] ++
    frameWord a.slotFrame ++ [profileByte a.entryProfile] ++ num16 (a.sample.getD 0) ++ [0#8]

/-- READ_CONTEXTS. -/
def execReadContexts (src : Mac) (body : List Byte) (s : State) : Host.Outcome State Fault Refusal :=
  .next (s.runRead src 0x47#8 0 body fun s => (.ok, allContexts.flatMap fun c => contextBytes (s.ctx c)))

/-- The READ_LEDGER result body: 18 bytes. -/
def ledgerBytes (s : State) : List Byte :=
  num32 s.ledger.loadUp ++ num32 s.ledger.loadDown ++ num16 s.setup.usableUp ++
    num16 s.setup.ceilingUp ++ num16 s.setup.ceilingDown ++ num16 s.buffer.freeCells ++
    num16 s.reentry.credit

/-- READ_LEDGER. -/
def execReadLedger (src : Mac) (body : List Byte) (s : State) : Host.Outcome State Fault Refusal :=
  .next (s.runRead src 0x48#8 0 body fun s => (.ok, ledgerBytes s))

end Sys2Proof.Machine
end

