-- ==== Sys2Proof/Machine/Dispatch.lean ====
section
/-! DEFINITION. The dispatch of a command to its meaning, one arm per row of spec/opcode_table.json. -/

namespace Sys2Proof.Machine

-- The effect of a command on everything but the queue of waiting commands.
def exec (i : Instr) (s : State) : Host.Outcome State Fault Refusal :=
  match i with
  | .frameStart r => Sys2Proof.Machine.execFrameStart r s
  | .burstReport r => Sys2Proof.Machine.execBurstReport r s
  | .missReport r => Sys2Proof.Machine.execMissReport r s
  | .rangingReport r => Sys2Proof.Machine.execRangingReport r s
  | .rangingMiss r => Sys2Proof.Machine.execRangingMiss r s
  | .sectorState r => Sys2Proof.Machine.execSectorState r s
  | .trunkPacketArrival p => Sys2Proof.Machine.execTrunkPacketArrival p s
  | .deviceReset straps => Sys2Proof.Machine.execDeviceReset straps s
  | .qmonFrameEvent => Sys2Proof.Machine.execQmonFrameEvent s
  | .tmgrFrameEvent => Sys2Proof.Machine.execTmgrFrameEvent s
  | .downTimerExpiry slot => Sys2Proof.Machine.execDownTimerExpiry slot s
  | .recFrameEvent => Sys2Proof.Machine.execRecFrameEvent s
  | .responseTimeout ctx => Sys2Proof.Machine.execResponseTimeout ctx s
  | .readmissionScan => Sys2Proof.Machine.execReadmissionScan s
  | .pbrFrameEvent => Sys2Proof.Machine.execPbrFrameEvent s
  | .staleDiscard flow => Sys2Proof.Machine.execStaleDiscard flow s
  | .gbldFrameEvent => Sys2Proof.Machine.execGbldFrameEvent s
  | .grantTake => Sys2Proof.Machine.execGrantTake s
  | .windowComplete slot => Sys2Proof.Machine.execWindowComplete slot s
  | .requestTake => Sys2Proof.Machine.execRequestTake s
  | .transmitComplete => Sys2Proof.Machine.execTransmitComplete s
  | .noticeSend => Sys2Proof.Machine.execNoticeSend s
  | .unknownCommand src code body => Sys2Proof.Machine.execUnknownCommand src code body s
  | .provisionTerminal src body => Sys2Proof.Machine.execProvisionTerminal src body s
  | .setTerminal src body => Sys2Proof.Machine.execSetTerminal src body s
  | .parkTerminal src body => Sys2Proof.Machine.execParkTerminal src body s
  | .releaseTerminal src body => Sys2Proof.Machine.execReleaseTerminal src body s
  | .deprovisionTerminal src body => Sys2Proof.Machine.execDeprovisionTerminal src body s
  | .forceProfile src body => Sys2Proof.Machine.execForceProfile src body s
  | .writeProfile src body => Sys2Proof.Machine.execWriteProfile src body s
  | .invalidateProfile src body => Sys2Proof.Machine.execInvalidateProfile src body s
  | .setFlow src body => Sys2Proof.Machine.execSetFlow src body s
  | .unbindFlow src body => Sys2Proof.Machine.execUnbindFlow src body s
  | .enableFlow src body => Sys2Proof.Machine.execEnableFlow src body s
  | .disableFlow src body => Sys2Proof.Machine.execDisableFlow src body s
  | .mapTags src body => Sys2Proof.Machine.execMapTags src body s
  | .setSector src body => Sys2Proof.Machine.execSetSector src body s
  | .restartSector src body => Sys2Proof.Machine.execRestartSector src body s
  | .readTerminal src body => Sys2Proof.Machine.execReadTerminal src body s
  | .readFlow src body => Sys2Proof.Machine.execReadFlow src body s
  | .readProfile src body => Sys2Proof.Machine.execReadProfile src body s
  | .readSector src body => Sys2Proof.Machine.execReadSector src body s
  | .readTags src body => Sys2Proof.Machine.execReadTags src body s
  | .readReentryQueue src body => Sys2Proof.Machine.execReadReentryQueue src body s
  | .readReadmissionList src body => Sys2Proof.Machine.execReadReadmissionList src body s
  | .readContexts src body => Sys2Proof.Machine.execReadContexts src body s
  | .readLedger src body => Sys2Proof.Machine.execReadLedger src body s
  | .clearCounters src body => Sys2Proof.Machine.execClearCounters src body s
  | .clearFlags src body => Sys2Proof.Machine.execClearFlags src body s

end Sys2Proof.Machine
end

