-- ==== Sys2Proof/Machine/Internal.lean ====
section
/-! DEFINITION. The events inside the blocks that are due when no command waits: what the part does of
itself at an idle step (notes/assumptions/2.md). -/

namespace Sys2Proof.Machine

/-- The next command of the request whose commands are being taken (R174). -/
def Management.nextCommand (m : Management) : Option Instr :=
  match m.active with
  | some a => a.todo.head?.map fun r => commandOf a.source r.code r.body
  | none => none

/-- The first of some conditions that holds gives its command. -/
def firstDue : List (Bool × Instr) → Option Instr
  | [] => none
  | d :: rest => if d.1 then some d.2 else firstDue rest

/-- The event that is due of itself: the next command of the active request, a grant handed to the REC, an
announced frame event of one of the six blocks, the head request, or the head notice at a transmission
opportunity. DESIGN CHOICE (notes/assumptions/2.md): the order among them. Unsafe. -/
def State.nextDue (s : State) : Option Instr :=
  s.mgmt.nextCommand.or
    (firstDue
      [(!s.reentry.grants.isEmpty, .grantTake),
        (!s.link.announced.qmon.isEmpty, .qmonFrameEvent),
        (!s.link.announced.tmgr.isEmpty, .tmgrFrameEvent),
        (!s.link.announced.reec.isEmpty, .recFrameEvent),
        (!s.link.announced.pbr.isEmpty, .pbrFrameEvent),
        (!s.link.announced.cled.isEmpty, .readmissionScan),
        (!s.link.announced.gbld.isEmpty, .gbldFrameEvent),
        (!s.mgmt.requests.isEmpty && s.mgmt.ready, .requestTake),
        (!s.mgmt.notices.isEmpty && s.mgmt.controller.isSome && s.tx.opportunity, .noticeSend)])

end Sys2Proof.Machine
end

