-- ==== Sys2Proof/Machine/Step.lean ====
section
/-! DEFINITION. One step of the LK-6240: the command at the front of the queue of waiting commands, or, with
none waiting, the event that is due of itself. -/

namespace Sys2Proof.Machine

/-- One step. With a command waiting, the first one is taken out of the queue and carried out. With none
waiting, an event due inside the part is carried out (R162, R66, R174, R185; notes/assumptions/2.md), and
with none due the part idles. -/
def step (s : State) : Host.Outcome State Fault Refusal :=
  match s.pending with
  | c :: rest => exec c { s with pending := rest }
  | [] =>
    match s.nextDue with
    | some c => exec c s
    | none => .next s

/-- The state with the command a word spells put at the front of the queue; unchanged where the word spells
none. -/
def State.withFetchWord (s : State) (nbits w : Nat) : State :=
  match decodeTableWord nbits w with
  | some c => { s with pending := c :: s.pending }
  | none => s

end Sys2Proof.Machine
end

