-- ==== Sys2Proof/Safety.lean ====
section
/-! DEFINITION. What a step may change, what every step keeps, and the words the statements use: the parts of
the state, the invariants the spec states of the part, and the forms of requests and payloads. -/

namespace Sys2Proof.Machine

/-! ### The parts of the state -/

/-- The parts of the state, one per field of `State`. -/
inductive Part where
  | pending | straps | setup | profiles | terms | flows | tags | link | reentry | ledger | buffer
  | resultStamp | mgmt | tx | counters
  deriving DecidableEq, Repr

/-- Whether two states agree in a part. -/
def Part.same (s t : State) : Part → Prop
  | .pending => t.pending = s.pending
  | .straps => t.straps = s.straps
  | .setup => t.setup = s.setup
  | .profiles => t.profiles = s.profiles
  | .terms => t.terms = s.terms
  | .flows => t.flows = s.flows
  | .tags => t.tags = s.tags
  | .link => t.link = s.link
  | .reentry => t.reentry = s.reentry
  | .ledger => t.ledger = s.ledger
  | .buffer => t.buffer = s.buffer
  | .resultStamp => t.resultStamp = s.resultStamp
  | .mgmt => t.mgmt = s.mgmt
  | .tx => t.tx = s.tx
  | .counters => t.counters = s.counters

/-- The second state agrees with the first in every part but those listed. -/
def SameBut (ps : List Part) (s t : State) : Prop := ∀ p, p ∉ ps → p.same s t

/-- The second state's terminal records agree with the first's but at one slot. -/
def OtherTerms (i : Slot) (s t : State) : Prop := ∀ j, j ≠ i → t.term j = s.term j

/-- The second state's flow records agree with the first's but at one flow. -/
def OtherFlows (f : FlowIdx) (s t : State) : Prop := ∀ g, g ≠ f → t.flow g = s.flow g

/-- The second state's contexts agree with the first's but at one number. -/
def OtherContexts (c : CtxNo) (s t : State) : Prop := ∀ d, d ≠ c → t.ctx d = s.ctx d

/-- The Management Agent's state with its controller address set (R178). -/
def Management.controlledBy (m : Management) (src : Mac) : Management := { m with controller := some src }

/-! ### Invariants -/

/-- The queues of the part hold no more than their rules allow (R173, R177, R184). -/
def QueuesBounded (s : State) : Prop :=
  s.mgmt.requests.length ≤ 4 ∧ s.mgmt.notices.length ≤ 32 ∧ s.tx.queue.length ≤ 64

/-- The pacer credit lies within 0..1024 and is 0 while the sector is DOWN (R62). -/
def CreditBounded (s : State) : Prop :=
  s.reentry.credit ≤ 1024 ∧ (s.link.sectorUp = false → s.reentry.credit = 0)

/-- Profile 0 and the default profile are valid, and in every valid entry the entry threshold exceeds the exit
threshold (R40, R43). -/
def ProfilesSound (s : State) : Prop :=
  (s.profile 0).valid = true ∧ (s.profile s.setup.defaultProfile).valid = true ∧
    ∀ p, (s.profile p).valid = true → (s.profile p).exit < (s.profile p).entry

/-- Tags 0 and 4095 are mapped to no flow (R94). -/
def TagsReserved (s : State) : Prop := s.tags.get 0 = none ∧ s.tags.get 4095 = none

/-- Every buffer cell is free or held by one entry of one flow queue (R126). -/
def CellsBalanced (s : State) : Prop := s.buffer.freeCells + s.flows.total Flow.cellsHeld = 32768

/-- A terminal stands in the Re-entry Queue, once, exactly when it is QUEUED (R58); it is RANGING exactly when
a context is bound to it, and no two contexts are bound to one terminal (R65). -/
def ReentrySound (s : State) : Prop :=
  s.reentry.queue.Nodup ∧
  (∀ i, i ∈ s.reentry.queue ↔ (s.term i).state = .queued) ∧
  (∀ i, (s.term i).state = .ranging ↔ ∃ c a, s.ctx c = some a ∧ a.terminal = i) ∧
  ∀ c d a b, s.ctx c = some a → s.ctx d = some b → a.terminal = b.terminal → c = d

/-- A flow stands in the Readmission List, once, exactly when it is WAITING (R102). -/
def ReadmissionSound (s : State) : Prop :=
  s.ledger.list.Nodup ∧ ∀ f, f ∈ s.ledger.list ↔ (s.flow f).state.isWaiting = true

/-- Every number of the setup record lies in its range (R181), and U leaves room for the contexts' grants and 256
maintenance grants (R106). -/
def SetupSound (s : State) : Prop :=
  let c := s.setup
  (1024 ≤ c.u ∧ c.u ≤ 65535) ∧ (1024 ≤ c.d ∧ c.d ≤ 65535) ∧ (64 ≤ c.rs ∧ c.rs ≤ 1024) ∧ (8 ≤ c.m ∧ c.m ≤ 64) ∧
  (50 ≤ c.a ∧ c.a ≤ 100) ∧ (2 ≤ c.w ∧ c.w ≤ 5) ∧ c.eMax ≤ 32 ∧ (1 ≤ c.mf ∧ c.mf ≤ 15) ∧
  (c.mf < c.mo ∧ c.mo ≤ 255) ∧ c.settle ≤ 4095 ∧ (1 ≤ c.backoff ∧ c.backoff ≤ 255) ∧
  (1 ≤ c.pacer ∧ c.pacer ≤ 256) ∧ (1 ≤ c.rMax ∧ c.rMax ≤ 16) ∧ (1 ≤ c.tr ∧ c.tr ≤ 63) ∧
  (1 ≤ c.timingWindow ∧ c.timingWindow ≤ 255) ∧ (1 ≤ c.powerWindow ∧ c.powerWindow ≤ 63) ∧
  256 * c.m + 4 * c.rs ≤ c.u

/-- One flow stands before another in a chain: by class ascending, then by index ascending (R86). -/
def ChainOrder (s : State) (f g : FlowIdx) : Prop :=
  (s.flow f).cls < (s.flow g).cls ∨ (s.flow f).cls = (s.flow g).cls ∧ f < g

/-- Every bound flow stands in exactly the chain of its terminal; a chain holds at most 16 flows, by class and then
by index; the chain next of its last flow and of every unbound flow is absent (R86). -/
def ChainsSound (s : State) : Prop :=
  (∀ i f, f ∈ s.chain i ↔ (s.flow f).bound = some i) ∧
  (∀ i, (s.chain i).length ≤ 16 ∧ (s.chain i).Pairwise (ChainOrder s)) ∧
  (∀ i f, (s.chain i).getLast? = some f → (s.flow f).chainNext = none) ∧
  ∀ f, (s.flow f).bound = none → (s.flow f).chainNext = none

/-- Every terminal holds the needs of R107. -/
def NeedsSound (s : State) : Prop := ∀ i x, (s.term i).need x = s.needWith i x []

/-- The loads are the sums of the needs over all slots (R108). -/
def LoadsSound (s : State) : Prop :=
  s.ledger.loadUp = s.terms.total Terminal.needUp ∧ s.ledger.loadDown = s.terms.total Terminal.needDown

/-- Every ADMITTED flow is bound to a serviced terminal (R107); the needs are those of R107; the loads are the sums of
the needs over all slots (R108) and lie within U_d = U - 4 x R_s and D (R106, R110). -/
def LedgerSound (s : State) : Prop :=
  (∀ f, (s.flow f).state = .admitted →
    ∃ i, (s.flow f).bound = some i ∧ (s.term i).state.serviced = true) ∧
  NeedsSound s ∧
  s.ledger.loadUp = s.terms.total Terminal.needUp ∧ s.ledger.loadDown = s.terms.total Terminal.needDown ∧
  s.ledger.loadUp ≤ s.setup.u - 4 * s.setup.rs ∧ s.ledger.loadDown ≤ s.setup.d

/-- A step is safe when it answers a next state: the part stops at nothing. -/
def SafeStep (s : State) : Prop := ∃ t, step s = .next t

/-! ### The words of the statements -/

/-- A profile is the highest valid one that meets a condition, or is 0 where none does (R46, R52, R53). -/
def HighestValid (s : State) (ok : ProfIdx → Prop) (q : ProfIdx) : Prop :=
  ((s.profile q).valid = true ∧ ok q ∧ ∀ p, q < p → (s.profile p).valid = true → ¬ ok p) ∨
    (q = 0 ∧ ∀ p, (s.profile p).valid = true → ¬ ok p)

/-- A profile is the next valid one above another (R47). -/
def NextAbove (s : State) (p n : ProfIdx) : Prop :=
  p < n ∧ (s.profile n).valid = true ∧ ∀ x, p < x → x < n → (s.profile x).valid = false

/-- The body length fixed for a command's code (spec/11, 11.2). -/
def fixedLength (code : Byte) : Option Nat :=
  ([(0x01#8, 12), (0x02#8, 12), (0x03#8, 2), (0x04#8, 2), (0x05#8, 2), (0x06#8, 2), (0x10#8, 10),
    (0x11#8, 2), (0x20#8, 16), (0x21#8, 2), (0x22#8, 2), (0x23#8, 2), (0x24#8, 6), (0x30#8, 34),
    (0x31#8, 0), (0x40#8, 2), (0x41#8, 2), (0x42#8, 2), (0x43#8, 0), (0x44#8, 4), (0x45#8, 4),
    (0x46#8, 4), (0x47#8, 0), (0x48#8, 0), (0x50#8, 4), (0x51#8, 0)] : List (Byte × Nat)).lookup code

/-- A command record as a request carries it: code, reserved byte, body length, body (spec/11, 11.1). -/
def CmdRecord.bytes (r : CmdRecord) : List Byte := r.code :: 0#8 :: num16 r.body.length ++ r.body

/-- A request packet: version 1, kind REQUEST, tag, command count, reserved byte and the records (spec/11,
11.1). -/
def requestPacket (dest src : Mac) (tag : Word16) (rs : List CmdRecord) : Packet :=
  managementPacket dest src
    (1#8 :: 1#8 :: be16 tag ++ [num8 rs.length, 0#8] ++ rs.flatMap CmdRecord.bytes)

/-- The payload packets of a burst report as its body carries them: each a length and its bytes (spec/11,
11.5). -/
def payloadBytes (ps : List Packet) : List Byte := ps.flatMap fun p => num16 p.length ++ p

/-- The checks of R160 and R190 on a record: its CRC-16, its kind, its length and its enumerated fields. -/
def RecordSound (r : LinkRecord) : Prop :=
  (7 ≤ r.bytes.length ∧ recordCrc r.kind r.length r.body = r.crc) ∧
  (1 ≤ r.kind.toNat ∧ r.kind.toNat ≤ 6) ∧
  r.length.toNat = r.body.length ∧
  (r.kind = 1#8 → r.body.length = 2) ∧
  (r.kind = 2#8 → 10 ≤ r.body.length ∧ ∃ ps : List Packet, ps.length = nat16At r.body 8 ∧
    r.body.drop 10 = payloadBytes ps ∧ ∀ p ∈ ps, p.length < 65536) ∧
  (r.kind = 3#8 → r.body.length = 4) ∧
  (r.kind = 4#8 → r.body.length = 14) ∧
  (r.kind = 5#8 → r.body.length = 1) ∧
  (r.kind = 6#8 → r.body.length = 1) ∧
  (r.kind = 2#8 → byteAt r.body 3 = 0#8 ∨ byteAt r.body 3 = 1#8) ∧
  (r.kind = 4#8 → byteAt r.body 1 = 0#8 ∨ byteAt r.body 1 = 1#8) ∧
  (r.kind = 6#8 → byteAt r.body 0 = 0#8 ∨ byteAt r.body 0 = 1#8)

/-- The packets of the trunk transmitter in the order in which they leave: the one being sent and those that
wait (R177). -/
def Transmitter.line (t : Transmitter) : List Packet := t.sending.toList ++ t.queue

/-- A setup field as a SET_SECTOR leaves it: clamped to its range where it is given present, and as held where it
is not (R181). -/
def setupField (present : Bool) (lo hi given held : Nat) : Nat :=
  if present then min hi (max lo given) else held

/-- Whether a setup field given present lies outside its range (R181). -/
def OutOfRange (present : Bool) (lo hi given : Nat) : Prop :=
  present = true ∧ (given < lo ∨ hi < given)

/-- Entries laid end to end from a start symbol (R152). -/
def EndToEnd : Nat → List GrantEntry → Prop
  | _, [] => True
  | start, e :: rest => e.start = start ∧ EndToEnd (start + e.length) rest

/-- A list with one item more, which stands after the entries of its own and of better classes and ahead of the
entries of worse classes (R59, R104). -/
def PlacedByClass {α : Type} (cls : α → Nat) (x : α) (l m : List α) : Prop :=
  ∃ a b, l = a ++ b ∧ m = a ++ x :: b ∧ (∀ y ∈ a, cls y ≤ cls x) ∧
    ∀ y, b.head? = some y → cls x < cls y

/-- A list with some items added one after another, each behind the entries of its own and of better classes and ahead
of those of worse classes (R14, R59, R104, R119). -/
def PlacedInTurn {α : Type} (cls : α → Nat) : List α → List α → List α → Prop
  | [], l, m => m = l
  | x :: xs, l, m => ∃ n, PlacedByClass cls x l n ∧ PlacedInTurn cls xs n m

/-- A context holds an attempt of a terminal, and no other context holds one of it (R65). -/
def OnlyContext (s : State) (i : Slot) (c : CtxNo) (a : Attempt) : Prop :=
  s.ctx c = some a ∧ a.terminal = i ∧ ∀ d b, s.ctx d = some b → b.terminal = i → d = c

/-- At the REC's frame event n the response timer of a context stands at `k` and is lowered: the context waits, and
its slot frame is not two above n (R67). -/
abbrev Lowers (n : FrameNo) (a : Attempt) (k : Nat) : Prop :=
  (a.stage = .inviteWait ∨ a.stage = .proveWait) ∧ a.slotFrame ≠ some (n + 2) ∧ a.timer = some k

/-- At the REC's frame event n a context times out: its timer is lowered to 0 (R67). -/
abbrev TimesOut (n : FrameNo) (a : Attempt) : Prop := Lowers n a 0 ∨ Lowers n a 1

/-- The Re-entry Controller's state but for its contexts (R58, R62, R66). -/
def SameReentryBut (s t : State) : Prop :=
  t.reentry.queue = s.reentry.queue ∧ t.reentry.credit = s.reentry.credit ∧
    t.reentry.grants = s.reentry.grants

/-- The Management Agent's state after it has taken a notice raised in a state (R184). -/
def State.notified (s : State) (b : NoticeBody) : Management := s.mgmt.take s.setup.enable s.link.frame b

/-- A terminal's window has reached its W = 2^w samples (R25, R28). -/
def State.windowFull (s : State) (i : Slot) : Prop := (s.term i).window.samples = 2 ^ s.setup.w

/-- The mean of a terminal's window to the nearest integer, a half rounded up (R28). -/
def State.resultQ (s : State) (i : Slot) : Nat :=
  (2 * (s.term i).window.sum + 2 ^ s.setup.w) / (2 * 2 ^ s.setup.w)

/-- Whether a terminal's window is impaired: its CRC-bad count has reached the lesser of E_max and W, which is
not 0 (R25, R29). -/
def State.resultImpaired (s : State) (i : Slot) : Bool :=
  decide (0 < min s.setup.eMax (2 ^ s.setup.w)) &&
    decide (min s.setup.eMax (2 ^ s.setup.w) ≤ (s.term i).window.crcBad)

/-- A terminal record with the result of its window stored and the window emptied (R28). -/
def State.resulted (s : State) (i : Slot) : Terminal :=
  { s.term i with
    lastResult := some ⟨s.resultQ i, s.resultImpaired i, s.resultStamp⟩
    window := { samples := 0, sum := 0, crcBad := 0, settling := false, misses := (s.term i).window.misses } }

/-- An attempt has ended with a failure outcome (R13, R16, R75): its context is free; its terminal is DOWN with the
backoff of its raised failed attempts field; the notices DOWN and ATTEMPT are raised in that order. The last
argument is the terminal's counters before the failure is counted. -/
def AttemptFailed (s t : State) (c : CtxNo) (i : Slot) (o : AttemptOutcome) (k : TermCounters) : Prop :=
  let n := min ((s.term i).failedAttempts + 1) 255
  t.ctx c = none ∧ OtherContexts c s t ∧ SameReentryBut s t ∧
  t.term i = { s.term i with
    state := .down
    timer := some (s.setup.backoff * 2 ^ min (n - 1) 6)
    failedAttempts := n
    lastOutcome := some o
    outageSeen := true
    counters := { k with failed := min (k.failed + 1) 4294967295 } } ∧
  OtherTerms i s t ∧
  t.mgmt = (s.notified (.down i)).take s.setup.enable s.link.frame (.attempt i c o n)

/-- An attempt has ended PARKED (R10, R77): its context is free and its terminal is PARKED, no failure counted and
no notice raised. The last argument is the terminal's counters. -/
def AttemptParked (s t : State) (c : CtxNo) (i : Slot) (k : TermCounters) : Prop :=
  t.ctx c = none ∧ OtherContexts c s t ∧ SameReentryBut s t ∧
  t.term i = { s.term i with state := .parked, lastOutcome := some .parked, counters := k } ∧
  OtherTerms i s t ∧ t.mgmt = s.mgmt

/-- A terminal is DOWN or, where the timer is 0 and the sector UP, has passed on to the tail of its class of the
Re-entry Queue (R13). -/
def EnteredDown (s t : State) (i : Slot) (timer : Nat) : Prop :=
  (t.term i).outageSeen = true ∧
  (0 < timer ∨ s.link.sectorUp = false →
    (t.term i).state = .down ∧ (t.term i).timer = some timer ∧ t.reentry.queue = s.reentry.queue) ∧
  (timer = 0 → s.link.sectorUp = true →
    (t.term i).state = .queued ∧ (t.term i).timer = none ∧
    PlacedByClass (fun j => (s.term j).cls.val) i s.reentry.queue t.reentry.queue)

/-- The CLED's report has been made (R19, R115): of the terminals, whose states before it are given, every RAMPING one
without a WAITING flow in its chain has become IN_SERVICE, no other state has changed, and the IN_SERVICE notices of
these terminals have been taken in slot order (notes/assumptions/12.md) by the Management Agent's state given. -/
def Reported (s t : State) (before : Slot → TermState) (m : Management) : Prop :=
  (∀ i, (t.term i).state = if before i = .ramping ∧ t.hasWaiting i = false then .inService else before i) ∧
  t.mgmt = ((List.finRange 256).filter fun i => decide (before i = .ramping) && !t.hasWaiting i).foldl
    (fun m i => m.take s.setup.enable s.link.frame (.inService i)) m

/-- The CLED has recomputed the needs of the terminal that a flow is bound to, and the loads with them; every other need
stands as it was, and so do the loads where the flow is not bound (R107, R108). -/
def Repriced (s t : State) (bound : Option Slot) : Prop :=
  (∀ i x, (t.term i).need x = if bound = some i then t.needWith i x [] else (s.term i).need x) ∧
  (bound = none → t.ledger.loadUp = s.ledger.loadUp ∧ t.ledger.loadDown = s.ledger.loadDown) ∧
  (bound ≠ none →
    t.ledger.loadUp = t.terms.total Terminal.needUp ∧ t.ledger.loadDown = t.terms.total Terminal.needDown)

/-- A flow of a terminal that leaves service (R118, R143): an ADMITTED one is WAITING with the cause given, its credit 0
and its marker absent, and the queue of a SHED-policy DOWN one is discarded into its SHED counter. -/
def Flow.departed (x : Flow) (c : Cause) : Flow :=
  let y : Flow := if x.state = .admitted then { x with state := .waiting c, credit := 0, marker := none } else x
  if x.dir = .down ∧ x.policy = .shed then { y with
    queue := []
    counters := { x.counters with shed := min (x.counters.shed + x.queue.length) 4294967295 } }
  else y

/-- The flows of a terminal's chain are withdrawn (R118, R143): each is as after a departure with the cause given, and no
flow outside the chain has changed; those that were ADMITTED have joined the Readmission List in chain order, in a
chain that holds no flow twice; the cells of the discarded packets are free; and the terminal's needs and the loads are
recomputed. -/
def ChainWithdrawn (s t : State) (i : Slot) (c : Cause) : Prop :=
  (∀ f ∈ s.chain i, t.flow f = (s.flow f).departed c) ∧ (∀ f, f ∉ s.chain i → t.flow f = s.flow f) ∧
  ((s.chain i).Nodup → PlacedInTurn (fun g => (s.flow g).cls.val)
    ((s.chain i).filter fun f => decide ((s.flow f).state = .admitted)) s.ledger.list t.ledger.list) ∧
  t.buffer.freeCells + t.flows.total Flow.cellsHeld = s.buffer.freeCells + s.flows.total Flow.cellsHeld ∧
  t.buffer.stamp = s.buffer.stamp ∧ Repriced s t (some i)

/-- Flow `f` is shed before flow `g`: greatest class, then lowest current profile of its terminal, then highest
index (R111). The profiles are those of state `t`. -/
def ShedOrder (t : State) (f g : FlowIdx) : Prop :=
  let profile (h : FlowIdx) : Nat := (((t.flow h).bound.bind fun j => (t.term j).current).map Fin.val).getD 0
  (t.flow g).cls < (t.flow f).cls ∨ (t.flow f).cls = (t.flow g).cls ∧
    (profile f < profile g ∨ profile f = profile g ∧ g < f)

/-- Flow `f` has been shed between two states (R111). -/
def WasShed (s t : State) (f : FlowIdx) : Prop := (s.flow f).state = .admitted ∧ (t.flow f).state ≠ .admitted

/-- Flows have been shed until the loads fit (R110, R111): each load is within its capacity or no flow of its direction
is ADMITTED; a flow is unchanged, or has been shed to WAITING with cause SHED, credit 0 and no marker; and a flow that
has been shed goes before every flow of its direction that stayed ADMITTED. -/
def ShedToFit (s t : State) : Prop :=
  (t.ledger.loadUp ≤ t.setup.u - 4 * t.setup.rs ∨
    ∀ f, (s.flow f).dir = .up → (t.flow f).state ≠ .admitted) ∧
  (t.ledger.loadDown ≤ t.setup.d ∨ ∀ f, (s.flow f).dir = .down → (t.flow f).state ≠ .admitted) ∧
  (∀ f, t.flow f = s.flow f ∨ (s.flow f).state = .admitted ∧
    t.flow f = { s.flow f with state := .waiting .shed, credit := 0, marker := none }) ∧
  ∀ f g, WasShed s t f → (t.flow g).state = .admitted → (s.flow f).dir = (s.flow g).dir → ShedOrder t f g

/-- No flow was shed once the load fitted (R110): with the last flow shed of a direction counted as ADMITTED again,
that direction's load exceeds its capacity. -/
def ShedNoMore (s t : State) : Prop :=
  ∀ f i, WasShed s t f → (s.flow f).bound = some i →
    (∀ g, WasShed s t g → (s.flow g).dir = (s.flow f).dir → g = f ∨ ShedOrder t g f) →
    t.setup.capacity (s.flow f).dir + (t.term i).need (s.flow f).dir <
      t.load (s.flow f).dir + t.needWith i (s.flow f).dir [f]

/-- The notices of the flows shed, in the order of shedding (R19, R111, R125): of each flow its CAPACITY notice, with the
flow's terminal, direction and class, the terminal's current profile and a load, and then RAMPING of the terminal, where
it was IN_SERVICE and no flow shed before is one of its own. That the next flow's notices come after these is the
model's choice (notes/assumptions/25.md). The flows shed before are the first argument. -/
def shedNotices (s t : State) (load : FlowIdx → Nat) : List FlowIdx → List FlowIdx → List NoticeBody
  | _, [] => []
  | earlier, f :: rest =>
    NoticeBody.shed f (s.flow f).bound (s.flow f).dir (s.flow f).cls
        ((s.flow f).bound.bind fun j => (t.term j).current) (load f) ::
      (((s.flow f).bound.toList.filter fun i => decide ((s.term i).state = .inService) &&
          earlier.all fun g => decide ((s.flow g).bound ≠ some i)).map NoticeBody.ramping ++
        shedNotices s t load (f :: earlier) rest)

/-- The flows shed have been listed and told (R111, R125). In the order of shedding, upstream and then downstream, each
has joined the Readmission List, and the Management Agent, from the state given first to the one given last, has taken
the notices of each; with no flow shed these are the same. The load a CAPACITY notice carries is the one after the shed:
with the chains, the needs and the loads sound, the sum of all needs with the flows of the direction shed after it still
counted. -/
def ShedTold (s t : State) (m m' : Management) : Prop :=
  ∃ (up down : List FlowIdx) (load : FlowIdx → Nat),
    (∀ f, f ∈ up ↔ WasShed s t f ∧ (s.flow f).dir = .up) ∧ up.Pairwise (ShedOrder t) ∧
    (∀ f, f ∈ down ↔ WasShed s t f ∧ (s.flow f).dir = .down) ∧ down.Pairwise (ShedOrder t) ∧
    PlacedInTurn (fun g => (s.flow g).cls.val) (up ++ down) s.ledger.list t.ledger.list ∧
    m' = (shedNotices s t load [] (up ++ down)).foldl (fun m b => m.take t.setup.enable s.link.frame b) m ∧
    (ChainsSound s → NeedsSound s → LoadsSound s →
      ∀ (x : Direction) (f : FlowIdx) (earlier later : List FlowIdx),
      (if x = .up then up else down) = earlier ++ f :: later →
      load f = ((List.finRange 256).map fun i => t.needWith i x later).sum)

/-- Two states of the Management Agent agree in the class flags, NOTICE_OVERFLOW, the notice queue, the sequence number
and the controller address. -/
def SameNotices (m n : Management) : Prop :=
  n.flags = m.flags ∧ n.overflow = m.overflow ∧ n.notices = m.notices ∧ n.seq = m.seq ∧ n.controller = m.controller

/-- Flows have been shed between two states (R19, R111). A flow is unchanged, or has been shed to WAITING with cause SHED,
credit 0 and no marker. Every terminal's record is the one given, but for what these bring: an IN_SERVICE terminal with a
flow shed is RAMPING, a FADING one's state before fade is RAMPING, and the needs of the terminals to be repriced and of
those with a flow shed are recomputed, in sound chains to R107's. The flows shed are listed and told. -/
def Shedding (s t : State) (record : Slot → Terminal) (repriced : Slot → Prop) (m m' : Management) : Prop :=
  let shedFrom (j : Slot) : Prop := ∃ f, WasShed s t f ∧ (s.flow f).bound = some j
  (∀ f, t.flow f = s.flow f ∨ (s.flow f).state = .admitted ∧
    t.flow f = { s.flow f with state := .waiting .shed, credit := 0, marker := none }) ∧
  (∀ j,
    (¬ repriced j → ¬ shedFrom j → t.term j = record j) ∧
    t.term j = { record j with
      state := (t.term j).state, beforeFade := (t.term j).beforeFade
      needUp := (t.term j).needUp, needDown := (t.term j).needDown } ∧
    (¬ shedFrom j → (t.term j).state = (record j).state ∧ (t.term j).beforeFade = (record j).beforeFade) ∧
    (shedFrom j →
      (t.term j).state = (if (record j).state = .inService then .ramping else (record j).state) ∧
      (t.term j).beforeFade = if (record j).state = .fading then some .ramping else (record j).beforeFade) ∧
    (ChainsSound s → repriced j ∨ shedFrom j → ∀ d, (t.term j).need d = t.needWith j d [])) ∧
  ShedTold s t m m'

/-- A terminal's change of profile or entry to service has been handed on (R19, R50, R111, R112, R117): its record is the
one given and every other terminal's the one it had, but for what the flows shed bring; its needs are recomputed, and
the loads are the sums of all needs. -/
def ProfileChanged (s t : State) (i : Slot) (x : Terminal) (m m' : Management) : Prop :=
  Shedding s t (fun j => if j = i then x else s.term j) (fun j => j = i) m m' ∧ LoadsSound t

/-! ### Notices as packets -/

/-- The class code, kind code, subject and detail of a notice (spec/11, 11.3 and 11.4), an absent terminal or profile as
a zero byte. -/
def NoticeBody.laid : NoticeBody → Byte × Byte × Option Nat × List Byte
  | .down i => (0#8, 0#8, some i.val, [])
  | .ramping i => (0#8, 1#8, some i.val, [])
  | .inService i => (0#8, 2#8, some i.val, [])
  | .fading i => (0#8, 3#8, some i.val, [])
  | .identity i id => (0#8, 4#8, some i.val, be48 id)
  | .attempt i c o n =>
    (1#8, num8 (([.admitted, .noResponse, .corrupt, .weak, .proveFailed, .identityMismatch, .adjustLimit, .sectorLost,
      .parked] : List AttemptOutcome).idxOf o), some i.val, [num8 c.val, num8 n])
  | .shed f i x k p load =>
    (2#8, 0#8, some f.val, [num8 ((i.map Fin.val).getD 0), if x = .up then 1#8 else 0#8, num8 k.val,
      num8 ((p.map Fin.val).getD 0)] ++ num32 load)
  | .admitted fs => (2#8, 1#8, fs.head?.map Fin.val, num8 fs.length :: 0#8 :: fs.flatMap fun f => num16 f.val)
  | .drained f i r d => (3#8, 0#8, some f.val, [num8 ((i.map Fin.val).getD 0), 0#8] ++ num16 r ++ num16 d)
  | .stale f i st n =>
    (3#8, 1#8, some f.val, [num8 ((i.map Fin.val).getD 0),
      if st = .disabled then 0#8 else if st = .admitted then 2#8 else 1#8] ++ num16 n)
  | .sectorDown => (4#8, 0#8, none, [])
  | .sectorUp => (4#8, 1#8, none, [])
  | .frameGap e r g => (4#8, 2#8, none, be16 e ++ be16 r ++ be16 g)
  | .restart => (4#8, 3#8, none, [])

/-! ### Requests as packets -/

/-- A request packet that carries a VLAN tag (R96, R174): the tag's type and control field stand before the
management type. -/
def taggedRequestPacket (dest src : Mac) (tci tag : Word16) (rs : List CmdRecord) : Packet :=
  sealPacket (be48 dest ++ be48 src ++ be16 0x8100#16 ++ be16 tci ++ be16 managementType ++
    (1#8 :: 1#8 :: be16 tag ++ [num8 rs.length, 0#8] ++ rs.flatMap CmdRecord.bytes))

/-- A number of command records, walked by their lengths, ends within some bytes (R174). -/
def RecordsFit : Nat → List Byte → Prop
  | 0, _ => True
  | n + 1, l => 4 + nat16At l 2 ≤ l.length ∧ RecordsFit n (l.drop (4 + nat16At l 2))

end Sys2Proof.Machine
end

