-- ==== Sys2Proof/WellFormed.lean ====
section
/-! DEFINITION. Which commands can arise: a record row carries a record of its kind, or a damaged one of no
incoming kind; a command row's body fits the two-byte body length; and UNKNOWN_COMMAND carries a code that
names no command. The index operands are in range by their types. -/

namespace Sys2Proof

/-- Whether a record's kind is the one a row names, or is none of the six incoming kinds. -/
def LinkRecord.fitsRow (r : LinkRecord) (kind : Byte) : Bool :=
  r.kind == kind || decide (r.kind = 0#8) || decide (6 < r.kind.toNat)

/-- Whether a body's length can stand in the two-byte body length of a command record. -/
def bodyFits (body : List Byte) : Bool := decide (body.length < 65536)

/-- Whether a command can arise. -/
def Instr.wellFormed : Instr → Bool
  | .frameStart r => r.fitsRow 1#8
  | .burstReport r => r.fitsRow 2#8
  | .missReport r => r.fitsRow 3#8
  | .rangingReport r => r.fitsRow 4#8
  | .rangingMiss r => r.fitsRow 5#8
  | .sectorState r => r.fitsRow 6#8
  | .trunkPacketArrival _ | .deviceReset _ | .qmonFrameEvent | .tmgrFrameEvent
  | .downTimerExpiry _ | .recFrameEvent | .responseTimeout _ | .readmissionScan | .pbrFrameEvent
  | .staleDiscard _ | .gbldFrameEvent | .grantTake | .windowComplete _ | .requestTake
  | .transmitComplete | .noticeSend => true
  | .unknownCommand _ code body => !namesCommand code && bodyFits body
  | .provisionTerminal _ body | .setTerminal _ body | .parkTerminal _ body
  | .releaseTerminal _ body | .deprovisionTerminal _ body | .forceProfile _ body
  | .writeProfile _ body | .invalidateProfile _ body | .setFlow _ body | .unbindFlow _ body
  | .enableFlow _ body | .disableFlow _ body | .mapTags _ body | .setSector _ body
  | .restartSector _ body | .readTerminal _ body | .readFlow _ body | .readProfile _ body
  | .readSector _ body | .readTags _ body | .readReentryQueue _ body
  | .readReadmissionList _ body | .readContexts _ body | .readLedger _ body
  | .clearCounters _ body | .clearFlags _ body => bodyFits body

end Sys2Proof
end

