-- ==== Sys2Proof/Certificates/Slice0/Obligations.lean ====
section
/-! DEFINITION. The statements for the provers: what the commands and events of the LK-6240 do, what every step keeps,
and that what is sent can be read back. Each is stated from the numbered rules of spec/, as OBLIGATIONS.json cites
them. -/

open Sys2Proof Sys2Proof.Machine

/-- For every command c and state s, a step of s with c put in front of its waiting commands is exec of c on s with
the queue's rest. Each row of the table is one event taken whole. That the commands from outside wait in one queue
is the model's choice (notes/assumptions/3.md). -/
def Obligations.StepTakesFrontCommand : Prop :=
  ∀ (c : Instr) (s : State), step { s with pending := c :: s.pending } = exec c s

/-- With no command waiting, a step takes the next command of the request being carried out; with none, the first
that is due of: a grant handed to the REC, the frame event announced to the QMON, TMGR, REC, PBR, CLED and GBLD, the
head request where the MAGT can take one, and the head notice at a transmission opportunity; with none due the state
stays as it is. That an empty queue takes them, and in this order, is the model's choice (notes/assumptions/2.md).
-/
def Obligations.IdleStepTakesWhatIsDue : Prop :=
  ∀ s : State, s.pending = [] →
    (∀ a r rest, s.mgmt.active = some a → a.todo = r :: rest →
      step s = exec (commandOf a.source r.code r.body) s) ∧
    (s.mgmt.active = none ∨ (∃ a, s.mgmt.active = some a ∧ a.todo = []) →
      step s =
        if s.reentry.grants ≠ [] then exec .grantTake s
        else if s.link.announced.qmon ≠ [] then exec .qmonFrameEvent s
        else if s.link.announced.tmgr ≠ [] then exec .tmgrFrameEvent s
        else if s.link.announced.reec ≠ [] then exec .recFrameEvent s
        else if s.link.announced.pbr ≠ [] then exec .pbrFrameEvent s
        else if s.link.announced.cled ≠ [] then exec .readmissionScan s
        else if s.link.announced.gbld ≠ [] then exec .gbldFrameEvent s
        else if s.mgmt.requests ≠ [] ∧ s.mgmt.active = none ∧ s.mgmt.held = none then exec .requestTake s
        else if s.mgmt.notices ≠ [] ∧ s.mgmt.controller ≠ none ∧ s.tx.sending = none ∧ s.tx.queue = [] then
          exec .noticeSend s
        else .next s)

/-- The part stops at nothing: from every state, whatever command waits, a step answers a next state. The spec gives
every command an effect or a result, and every damaged record or packet a count. -/
def Obligations.EveryStepIsSafe : Prop :=
  ∀ s : State, SafeStep s

/-- A DEVICE_RESET that samples the straps at some levels leaves: every terminal ABSENT with every field at its
reset value, its window record, dwell count and needs 0; profile 0 valid at density 8, overhead 48, thresholds 30
and 20, dwell 1, and profiles 1 to 11 invalid with every field 0; every flow unbound, DOWN, class 7, CB and PB 0,
HOLD, limit 64, hold age 1000, DISABLED, its queue empty; every tag mapped to none; the Re-entry Queue empty, every
context free, the credit 0 and no grant handed; the Readmission List empty and the loads 0; every cell free; the
stamps and the frame number absent, the sector DOWN, nothing announced or handed for the modem; the requests,
notices and transmit queue empty, the controller absent, the flags clear, the sequence number 0; the counters 0; and
the setup record of R181 with the part address 02-00-5A-4C-00 and the straps. That the commands still waiting
outside are kept (notes/assumptions/24.md), and that the frame events announced and not yet taken
(notes/assumptions/31.md) and a payload packet or response being sent (notes/assumptions/32.md) are lost, is the
model's choice. -/
def Obligations.DeviceResetLeaves : Prop :=
  ∀ (straps : Byte) (s : State), ∃ t, exec (.deviceReset straps) s = .next t ∧
    t.pending = s.pending ∧ t.straps = straps ∧
    (∀ i, t.term i =
      { state := .absent, identity := none, freeze := false, cls := 0, policy := .sectorDefault, ceiling := 0
        current := none, resume := none, beforeFade := none, timer := none, failedAttempts := 0
        lastOutcome := none, lastResult := none, outageSeen := false, chainHead := none
        counters := { bursts := 0, crcBad := 0, misses := 0, attempts := 0, failed := 0, outages := 0 }
        window := { samples := 0, sum := 0, crcBad := 0, settling := false, misses := 0 }
        dwell := 0, needUp := 0, needDown := 0 }) ∧
    t.profile 0 = { valid := true, density := 8, overhead := 48, entry := 30, exit := 20, dwell := 1 } ∧
    (∀ p, p ≠ 0 →
      t.profile p = { valid := false, density := 0, overhead := 0, entry := 0, exit := 0, dwell := 0 }) ∧
    (∀ f, t.flow f =
      { bound := none, dir := .down, cls := 7, cb := 0, pb := 0, policy := .hold, limit := 64, holdAge := 1000
        state := .disabled, chainNext := none
        counters :=
          { enqueued := 0, released := 0, full := 0, shed := 0, stale := 0, disabled := 0, noBuf := 0, flush := 0 }
        queue := [], credit := 0, marker := none }) ∧
    (∀ v, t.tags.get v = none) ∧
    t.reentry.queue = [] ∧ (∀ c, t.ctx c = none) ∧ t.reentry.credit = 0 ∧ t.reentry.grants = [] ∧
    t.ledger = { list := [], loadUp := 0, loadDown := 0 } ∧
    t.buffer = { freeCells := 32768, stamp := none } ∧ t.resultStamp = none ∧
    t.link =
      { frame := none, sectorUp := false
        announced := { qmon := [], tmgr := [], reec := [], cled := [], pbr := [], gbld := [] }, outgoing := [] } ∧
    t.mgmt.requests = [] ∧ t.mgmt.active = none ∧ t.mgmt.held = none ∧ t.mgmt.notices = [] ∧ t.mgmt.seq = 0 ∧
    t.mgmt.controller = none ∧ t.mgmt.overflow = false ∧
    t.mgmt.flags = { terminal := false, attempt := false, capacity := false, backlog := false, sector := false } ∧
    t.tx = { sending := none, queue := [] } ∧
    t.counters =
      { trunkErrors := 0, unclassified := 0, misdirected := 0, upForwarded := 0, upDropped := 0, noBuffer := 0
        linkErrors := 0, frameGaps := 0, sectorLosses := 0, strayReports := 0 } ∧
    t.setup =
      { u := 6000, d := 8000, rs := 160, m := 12, a := 90, w := 3, eMax := 2, mf := 3, mo := 40, settle := 200
        backoff := 50, pacer := 64, rMax := 4, tr := 4, timingWindow := 8, powerWindow := 6, defaultProfile := 0
        enable := { terminal := false, attempt := false, capacity := false, backlog := false, sector := false }
        address := 0x02005A4C00#40 ++ straps }

/-- After a device reset, whatever the levels of the straps, and so in the model's reset state, every invariant that
the statements below keep holds: the bounds of the queues and of the pacer credit, the profile table and the
reserved tags, the balance of buffer cells, the Re-entry Queue with the ranging contexts, the Readmission List, the
ranges of the setup record (R181), the flow chains (R86) and the ledger's needs and loads (R108, R110). The straps'
levels in the model's reset state are its choice (notes/assumptions/1.md). -/
def Obligations.ResetMeetsInvariants : Prop :=
  (∀ straps : Byte,
    let s := State.resetWith straps
    QueuesBounded s ∧ CreditBounded s ∧ ProfilesSound s ∧ TagsReserved s ∧ CellsBalanced s ∧ ReentrySound s ∧
      ReadmissionSound s ∧ SetupSound s ∧ ChainsSound s ∧ LedgerSound s) ∧
    State.reset = State.resetWith Config.powerOnStraps

/-- From every state in which the request queue holds at most 4 requests, the notice queue at most 32 notices and
the transmit queue at most 64 packets, every step gives a state in which they do. From every state in which the
pacer credit lies within 0..1024 and is 0 while the sector is DOWN, every step gives such a state. From every state
in which every number of the setup record lies in its range and U - 4 x R_s is at least 256 x M, every step gives
such a state. -/
def Obligations.QueueAndCreditBoundsAreKept : Prop :=
  ∀ s t : State, step s = .next t →
    (QueuesBounded s → QueuesBounded t) ∧ (CreditBounded s → CreditBounded t) ∧ (SetupSound s → SetupSound t)

/-- From every state in which profile 0 and the sector default profile are valid and every valid entry's entry
threshold exceeds its exit threshold, every step gives such a state. From every state in which tags 0 and 4095 are
mapped to no flow, every step gives such a state. From every state in which every bound flow stands in exactly the
chain of its terminal, each chain holds at most 16 flows by class and then by index, and the chain next of its last
flow and of every unbound flow is absent, every step gives such a state. -/
def Obligations.ProfilesAndReservedTagsAreKept : Prop :=
  ∀ s t : State, step s = .next t →
    (ProfilesSound s → ProfilesSound t) ∧ (TagsReserved s → TagsReserved t) ∧ (ChainsSound s → ChainsSound t)

/-- From every state in which the free cell count and the cells held by all flow queues sum to 32768, every step
gives a state in which they do: an enqueue, a release, a stale discard, a limit discard, a shed discard and a flush
each move as many cells as the entries they place or remove occupy. -/
def Obligations.CellsStayBalanced : Prop :=
  ∀ s t : State, CellsBalanced s → step s = .next t → CellsBalanced t

/-- From every state in which a terminal stands in the Re-entry Queue, once, exactly when it is QUEUED, in which a
terminal is RANGING exactly when a context is bound to it, and in which no two contexts are bound to one terminal,
every step gives such a state. -/
def Obligations.ReentryStaysSound : Prop :=
  ∀ s t : State, ReentrySound s → step s = .next t → ReentrySound t

/-- From every state in which a flow stands in the Readmission List, once, exactly when it is WAITING, every step
gives such a state. From every state with the contexts, the chains and the setup record sound in which every
ADMITTED flow is bound to a serviced terminal, every terminal holds the needs of R107, and the loads are the sums of
the needs over all slots and lie within U - 4 x R_s and D, every step gives a state of these last four properties.
-/
def Obligations.ReadmissionStaysSound : Prop :=
  ∀ s t : State, step s = .next t →
    (ReadmissionSound s → ReadmissionSound t) ∧
      (ReentrySound s → ChainsSound s → SetupSound s → LedgerSound s → LedgerSound t)

/-- The body of a BURST_REPORT laid out from a frame number, a slot, a CRC status, a proving flag, an SNR below 1024
and a list of payload packets is read back as exactly these, and the payload of any body is split in one way at
most: what a split gives, laid out again, is the body. A record built for a kind and a body that its four-byte
length can hold is the kind, the length, the body and two bytes of CRC-16 over all that stands before them, high
byte first, and reads back as these; and a record whose length and CRC-16 agree with its body is the one built from
its kind and body. -/
def Obligations.BurstBodiesReadBack : Prop :=
  (∀ (n : FrameNo) (i : Slot) (bad proving : Bool) (snr : Nat) (ps : List Packet),
    snr < 1024 → ps.length < 65536 → (∀ p ∈ ps, p.length < 65536) →
    readBurst (be16 n ++ [num8 i.val, if bad then 1#8 else 0#8, if proving then 1#8 else 0#8, 0#8] ++ num16 snr ++
        num16 ps.length ++ payloadBytes ps) =
      { frame := n, slot := i, crcGood := !bad, proving := proving, snr := snr, payload := ps }) ∧
  (∀ (n : Nat) (l : List Byte) (ps : List Packet),
    splitPayload n l = some ps ↔ ps.length = n ∧ payloadBytes ps = l ∧ ∀ p ∈ ps, p.length < 65536) ∧
  (∀ (k : Byte) (b : List Byte), b.length < 4294967296 →
    let r := mkRecord k b
    let check := crc16 (r.bytes.take (5 + b.length))
    r.bytes.length = 7 + b.length ∧ r.bytes.drop (5 + b.length) = [check.extractLsb' 8 8, check.extractLsb' 0 8] ∧
      r.kind = k ∧ r.length.toNat = b.length ∧ r.body = b ∧ r.crc = check) ∧
  ∀ r : LinkRecord, 7 ≤ r.bytes.length → r.length.toNat = r.body.length →
    r.crc = recordCrc r.kind r.length r.body → mkRecord r.kind r.body = r

/-- A request packet laid out from a destination, a source that is no group address, a tag and 1 to 16 command
records, each with a body that its two-byte length can hold, passes the FCS check, is a management packet, and is
found well formed with exactly those records, source and tag. Its length is that of its fields, and at least 64
bytes. -/
def Obligations.RequestsReadBack : Prop :=
  ∀ (dest src : Mac) (tag : Word16) (rs : List CmdRecord),
    isGroup src = false → 1 ≤ rs.length → rs.length ≤ 16 → (∀ r ∈ rs, r.body.length < 65536) →
    let p := requestPacket dest src tag rs
    requestForm p = .good rs ∧ destOf p = dest ∧ sourceOf p = src ∧ word16At (payloadOf p) 2 = tag ∧
      fcsChecks p = true ∧ (∀ s : State, s.setup.address = dest → s.isManagement p = true) ∧
      p.length = max 64 (24 + (rs.map fun r => 4 + r.body.length).sum)

/-- A management command that can arise is the one its record's code and body name, and the command that a code and
a body name stands for exactly that code, body and source: no two rows share a code, and a code that is in none of
the rows of spec/11's table is UNKNOWN_COMMAND. -/
def Obligations.CommandRecordsReadBack : Prop :=
  (∀ (c : Instr) (src : Mac) (code : Byte) (body : List Byte), c.wellFormed = true →
    commandRecord c = some (src, code, body) → commandOf src code body = c) ∧
  (∀ (src : Mac) (code : Byte) (body : List Byte),
    commandRecord (commandOf src code body) = some (src, code, body) ∧
      (fixedLength code = none ↔ commandOf src code body = .unknownCommand src code body))

/-- A record that fails one of the checks of R160 (a whole frame whose CRC-16 matches its kind, length and body; one
of the six incoming kinds; a length equal to its body's and the one its kind requires, which for a BURST_REPORT
agrees with the payload it announces; CRC status and sector state of a defined value) changes nothing but the link
errors counter, which increases by one, saturating. That a record of fewer than the seven bytes of its frame fails
the first check, and that a damaged record is counted under whichever row it arrives as, is read from these rules by
the model (DEDUCED, notes/assumptions/17.md). -/
def Obligations.DamagedRecordsAreDropped : Prop :=
  ∀ (r : LinkRecord) (s : State), ¬ RecordSound r →
    let t : State :=
      { s with counters := { s.counters with linkErrors := min (s.counters.linkErrors + 1) 4294967295 } }
    exec (.frameStart r) s = .next t ∧ exec (.burstReport r) s = .next t ∧ exec (.missReport r) s = .next t ∧
      exec (.rangingReport r) s = .next t ∧ exec (.rangingMiss r) s = .next t ∧ exec (.sectorState r) s = .next t

/-- A FRAME_START is taken whether the sector is UP or DOWN. Its number becomes the current frame number and one
frame event of that number is announced to each of the QMON, TMGR, REC, CLED, PBR and GBLD behind those already
announced. With a current number present whose successor differs, the gap g = (received - expected) modulo 65536 is
added to frame gaps, saturating, and a FRAME_GAP notice with the expected number, the received number and g is
handed before the number is adopted; the notice carries the number that was current then (notes/assumptions/28.md).
Otherwise no gap is counted. Nothing else changes. -/
def Obligations.FrameStartIsAdopted : Prop :=
  ∀ (r : LinkRecord) (s : State), RecordSound r → r.kind = 1#8 →
    let n := word16At r.body 0
    ∃ t, exec (.frameStart r) s = .next t ∧
      t.link = { s.link with
        frame := some n
        announced :=
          { qmon := s.link.announced.qmon ++ [n], tmgr := s.link.announced.tmgr ++ [n]
            reec := s.link.announced.reec ++ [n], cled := s.link.announced.cled ++ [n]
            pbr := s.link.announced.pbr ++ [n], gbld := s.link.announced.gbld ++ [n] } } ∧
      ((∀ m, s.link.frame = some m → n = m + 1) → t.counters = s.counters ∧ t.mgmt = s.mgmt) ∧
      (∀ m, s.link.frame = some m → n ≠ m + 1 →
        t.counters = { s.counters with
          frameGaps := min (s.counters.frameGaps + (n - (m + 1)).toNat) 4294967295 } ∧
        t.mgmt = s.mgmt.take s.setup.enable (some m) (.frameGap (m + 1) n (n - (m + 1)))) ∧
      SameBut [.link, .mgmt, .counters] s t

/-- For a serviced terminal, a BURST_REPORT adds min(SNR, 500) to the window's sum, one to its samples and, with a
bad CRC, one to its CRC-bad count; consecutive misses become 0; the bursts counter, and with a bad CRC the CRC-bad
bursts counter, increase by one. The payload is handed to the trunk transmitter in order where the proving flag is
clear and the CRC good, and is otherwise dropped and counted on upstream dropped. Where the samples do not reach W
nothing else changes; where they do, what follows is the completion of the window, as WINDOW_COMPLETE takes it from
the state with the sample. -/
def Obligations.BurstIsOneSample : Prop :=
  ∀ (r : LinkRecord) (s : State), RecordSound r → r.kind = 2#8 →
    let b := readBurst r.body
    let i := b.slot
    (s.term i).state.serviced = true →
    let w := (s.term i).window
    let k := (s.term i).counters
    let x : Terminal := { s.term i with
      window := { w with
        samples := w.samples + 1, sum := w.sum + min b.snr 500
        crcBad := if b.crcGood then w.crcBad else w.crcBad + 1
        misses := 0 }
      counters := { k with
        bursts := min (k.bursts + 1) 4294967295
        crcBad := if b.crcGood then k.crcBad else min (k.crcBad + 1) 4294967295 } }
    ∃ t v, exec (.burstReport r) s = .next t ∧
      (w.samples + 1 ≠ 2 ^ s.setup.w → v.term i = x ∧ OtherTerms i s v ∧ SameBut [.terms] s v) ∧
      (w.samples + 1 = 2 ^ s.setup.w → ∃ u : State, u.term i = x ∧ OtherTerms i s u ∧ SameBut [.terms] s u ∧
        exec (.windowComplete i) u = .next v) ∧
      (b.proving = false → b.crcGood = true → t = v.forwardPayload b.payload) ∧
      (b.proving = true ∨ b.crcGood = false →
        t = { v with counters := { v.counters with
          upDropped := min (v.counters.upDropped + b.payload.length) 4294967295 } })

/-- When a RAMPING or IN_SERVICE terminal's window holds W samples, the result (Q the mean rounded half up; impaired
where the CRC-bad count has reached min(E_max, W) above 0; the QMON's stamp) is stored and the window emptied and no
longer settling. Where it is impaired or Q is below the exit threshold of the current profile p, the resume profile
is unchanged, the dwell count is 0, and: from p above 0 the profile becomes the highest valid one below p whose exit
threshold Q meets, or 0, the terminal staying RAMPING or IN_SERVICE, the needs recomputed and flows shed where a
load no longer fits; at p = 0 the terminal becomes FADING with its notice, the state it left recorded. The rest of
the record is kept, and a shed flow makes an IN_SERVICE terminal RAMPING. Each flow shed raises its CAPACITY notice
and then its terminal's RAMPING one (notes/assumptions/25.md), and there are no other notices. -/
def Obligations.WindowResultStepsDown : Prop :=
  ∀ (i : Slot) (s : State) (p : ProfIdx), (s.term i).state.active = true → (s.term i).current = some p →
    s.windowFull i → (s.resultImpaired i = true ∨ s.resultQ i < (s.profile p).exit) →
    (p ≠ 0 → ∃ t x, exec (.windowComplete i) s = .next t ∧
      HighestValid s (fun y => y < p ∧ (s.profile y).exit ≤ s.resultQ i) x ∧
      ProfileChanged s t i { s.resulted i with current := some x, dwell := 0 } s.mgmt t.mgmt ∧
      SameBut [.terms, .flows, .ledger, .mgmt] s t) ∧
    (p = 0 → ∃ t o, exec (.windowComplete i) s = .next t ∧
      ((s.term i).state = .ramping ∧ o = FadeOrigin.ramping ∨
        (s.term i).state = .inService ∧ o = FadeOrigin.inService) ∧
      t.term i = { s.resulted i with state := .fading, beforeFade := some o, dwell := 0 } ∧
      OtherTerms i s t ∧ t.mgmt = s.notified (.fading i) ∧ SameBut [.terms, .mgmt] s t)

/-- Where the result of a RAMPING or IN_SERVICE terminal at profile p is not impaired and Q meets the exit threshold
of p, an IN_SERVICE terminal's resume profile becomes p. With n the next valid profile above p, a result that is not
settling, with n not above the ceiling and Q at or above the entry threshold of n, qualifies: the dwell count
increases by one, and where it reaches dwell(n) the current profile becomes n and the dwell count 0. Any other such
result holds: the profile stays and the dwell count is 0. The rest of the record is kept, and nothing else changes,
but that a step up recomputes the needs and sheds flows where a load no longer fits: an IN_SERVICE terminal with a
flow shed becomes RAMPING, its notice behind the flow's CAPACITY notice (notes/assumptions/25.md). -/
def Obligations.WindowResultStepsUpOrHolds : Prop :=
  ∀ (i : Slot) (s : State) (p : ProfIdx), (s.term i).state.active = true → (s.term i).current = some p →
    s.windowFull i → s.resultImpaired i = false → (s.profile p).exit ≤ s.resultQ i →
    let shadow := if (s.term i).state = .inService then some p else (s.term i).resume
    let qualifies (n : ProfIdx) : Prop :=
      NextAbove s p n ∧ (s.term i).window.settling = false ∧ n ≤ (s.term i).ceiling ∧
        (s.profile n).entry ≤ s.resultQ i
    (∀ n, qualifies n → (s.profile n).dwell ≤ (s.term i).dwell + 1 →
      ∃ t, exec (.windowComplete i) s = .next t ∧
        ProfileChanged s t i { s.resulted i with current := some n, resume := shadow, dwell := 0 } s.mgmt t.mgmt ∧
        SameBut [.terms, .flows, .ledger, .mgmt] s t) ∧
    (∀ n, qualifies n → (s.term i).dwell + 1 < (s.profile n).dwell →
      ∃ t, exec (.windowComplete i) s = .next t ∧
        t.term i = { s.resulted i with resume := shadow, dwell := (s.term i).dwell + 1 } ∧
        OtherTerms i s t ∧ SameBut [.terms] s t) ∧
    ((∀ n, ¬ qualifies n) →
      ∃ t, exec (.windowComplete i) s = .next t ∧
        t.term i = { s.resulted i with resume := shadow, dwell := 0 } ∧
        OtherTerms i s t ∧ SameBut [.terms] s t)

/-- When a FADING terminal's window holds W samples, the result is stored and the window emptied. Not impaired and
with Q at or above the entry threshold of profile 0, it returns the terminal to its state before fade, which becomes
absent, with the notice of that state; any other result leaves the terminal FADING. The dwell count is 0 and the
resume profile unchanged either way, the settling flag plays no part, and nothing else changes. A WINDOW_COMPLETE
for a terminal that is not serviced or whose window does not hold W samples finds no window to complete
(notes/assumptions/5.md). -/
def Obligations.FadeEndsOrGoesOn : Prop :=
  (∀ (i : Slot) (s : State) (p : ProfIdx) (o : FadeOrigin), (s.term i).state = .fading →
    (s.term i).current = some p → (s.term i).beforeFade = some o → s.windowFull i →
    (s.resultImpaired i = false → (s.profile 0).entry ≤ s.resultQ i →
      ∃ t st b, exec (.windowComplete i) s = .next t ∧
        (o = .ramping → st = TermState.ramping ∧ b = NoticeBody.ramping i) ∧
        (o = .inService → st = TermState.inService ∧ b = NoticeBody.inService i) ∧
        t.term i = { s.resulted i with state := st, beforeFade := none, dwell := 0 } ∧
        OtherTerms i s t ∧ t.mgmt = s.notified b ∧ SameBut [.terms, .mgmt] s t) ∧
    (s.resultImpaired i = true ∨ s.resultQ i < (s.profile 0).entry →
      ∃ t, exec (.windowComplete i) s = .next t ∧
        t.term i = { s.resulted i with dwell := 0 } ∧ OtherTerms i s t ∧ SameBut [.terms] s t)) ∧
  ∀ (i : Slot) (s : State), (s.term i).state.serviced = false ∨ ¬ s.windowFull i →
    exec (.windowComplete i) s = .next s

/-- For a serviced terminal, a MISS_REPORT increases consecutive misses by one, saturating at 255, and the misses
counter by one, whatever its proving flag. Below M_f and M_o nothing further happens. From M_f up and below M_o, a
terminal above profile 0 goes to profile 0 with its window restarted and its dwell count 0; one that is RAMPING or
IN_SERVICE at profile 0 becomes FADING with its notice, its window restarted and its dwell count 0; a FADING one at
profile 0 is unchanged but for the counts. Resume profile, settling flag and the rest of the record keep their
values, but that a drop to profile 0 recomputes the needs and sheds flows where a load no longer fits: with a flow
shed an IN_SERVICE terminal becomes RAMPING, its notice behind the flow's CAPACITY notice (notes/assumptions/25.md),
and a FADING one's state before fade RAMPING. -/
def Obligations.MissIsCountedAndFades : Prop :=
  ∀ (r : LinkRecord) (s : State), RecordSound r → r.kind = 3#8 →
    let i := (readMiss r.body).slot
    (s.term i).state.serviced = true →
    let w := (s.term i).window
    let m := min (w.misses + 1) 255
    let k := { (s.term i).counters with misses := min ((s.term i).counters.misses + 1) 4294967295 }
    m < s.setup.mo →
    (m < s.setup.mf ∨ (s.term i).state = .fading ∧ (s.term i).current = some 0 →
      ∃ t, exec (.missReport r) s = .next t ∧
        t.term i = { s.term i with window := { w with misses := m }, counters := k } ∧
        OtherTerms i s t ∧ SameBut [.terms] s t) ∧
    (∀ p, s.setup.mf ≤ m → (s.term i).current = some p → p ≠ 0 →
      ∃ t, exec (.missReport r) s = .next t ∧
        ProfileChanged s t i { s.term i with
          current := some 0, dwell := 0, counters := k
          window := { samples := 0, sum := 0, crcBad := 0, settling := w.settling, misses := m } } s.mgmt t.mgmt ∧
        SameBut [.terms, .flows, .ledger, .mgmt] s t) ∧
    (∀ o, s.setup.mf ≤ m → (s.term i).current = some 0 →
      (s.term i).state = .ramping ∧ o = FadeOrigin.ramping ∨
        (s.term i).state = .inService ∧ o = FadeOrigin.inService →
      ∃ t, exec (.missReport r) s = .next t ∧
        t.term i = { s.term i with
          state := .fading, beforeFade := some o, dwell := 0, counters := k
          window := { samples := 0, sum := 0, crcBad := 0, settling := w.settling, misses := m } } ∧
        OtherTerms i s t ∧ t.mgmt = s.notified (.fading i) ∧ SameBut [.terms, .mgmt] s t)

/-- The MISS_REPORT that brings a serviced terminal's consecutive misses to M_o takes it out of service: current
profile and state before fade absent, dwell count 0, window cleared, needs 0, outages and misses counters up by one,
outage-seen set, a notice for DOWN, DOWN with timer settle (or, settle being 0 and the sector UP, on to QUEUED).
Each ADMITTED flow of its chain becomes WAITING with cause OUTAGE, credit 0 and no marker, and joins the Readmission
List in chain order behind its own and better classes; the queues of its SHED-policy DOWN flows are discarded into
their SHED counters and the free cells; the loads are recomputed. Resume profile, last window result and failed
attempts keep their values, and no other terminal, no other flow, no context, credit or handed grant changes. -/
def Obligations.OutageTakesTheTerminalDown : Prop :=
  ∀ (r : LinkRecord) (s : State), RecordSound r → r.kind = 3#8 →
    let i := (readMiss r.body).slot
    (s.term i).state.serviced = true → s.setup.mo ≤ min ((s.term i).window.misses + 1) 255 →
    ∃ t st timer, exec (.missReport r) s = .next t ∧
      t.term i = { s.term i with
        state := st, timer := timer, current := none, beforeFade := none, outageSeen := true
        dwell := 0, needUp := 0, needDown := 0
        window := { samples := 0, sum := 0, crcBad := 0, settling := false, misses := 0 }
        counters := { (s.term i).counters with
          misses := min ((s.term i).counters.misses + 1) 4294967295
          outages := min ((s.term i).counters.outages + 1) 4294967295 } } ∧
      EnteredDown s t i s.setup.settle ∧ ChainWithdrawn s t i .outage ∧
      t.reentry = { s.reentry with queue := t.reentry.queue } ∧
      t.mgmt = s.notified (.down i) ∧ OtherTerms i s t ∧
      SameBut [.terms, .flows, .reentry, .ledger, .buffer, .mgmt] s t

/-- A BURST_REPORT or MISS_REPORT is stray where its slot's terminal is not serviced and no context of it stands in
PROVE_WAIT with the terminal RANGING, the proving flag set and the report's frame number equal to the slot frame. A
RANGING_REPORT or RANGING_MISS is stray where no context of its slot's terminal stands in INVITE_WAIT. A stray
report changes nothing but the stray reports counter, which increases by one, saturating. -/
def Obligations.StrayReportsAreCounted : Prop :=
  ∀ (r : LinkRecord) (s : State), RecordSound r →
    let t : State :=
      { s with counters := { s.counters with strayReports := min (s.counters.strayReports + 1) 4294967295 } }
    (r.kind = 2#8 → (s.term (readBurst r.body).slot).state.serviced = false →
      (∀ c a, s.ctx c = some a → a.terminal = (readBurst r.body).slot →
        (s.term (readBurst r.body).slot).state ≠ .ranging ∨ a.stage ≠ .proveWait ∨
          (readBurst r.body).proving = false ∨ a.slotFrame ≠ some (readBurst r.body).frame) →
      exec (.burstReport r) s = .next t) ∧
    (r.kind = 3#8 → (s.term (readMiss r.body).slot).state.serviced = false →
      (∀ c a, s.ctx c = some a → a.terminal = (readMiss r.body).slot →
        (s.term (readMiss r.body).slot).state ≠ .ranging ∨ a.stage ≠ .proveWait ∨
          (readMiss r.body).proving = false ∨ a.slotFrame ≠ some (readMiss r.body).frame) →
      exec (.missReport r) s = .next t) ∧
    (r.kind = 4#8 →
      (∀ c a, s.ctx c = some a → a.terminal = (readRanging r.body).slot → a.stage ≠ .inviteWait) →
      exec (.rangingReport r) s = .next t) ∧
    (r.kind = 5#8 →
      (∀ c a, s.ctx c = some a → a.terminal = slotAt r.body 0 → a.stage ≠ .inviteWait) →
      exec (.rangingMiss r) s = .next t)

/-- A RANGING_REPORT answering a context in INVITE_WAIT with park pending no, its CRC good, its identity equal to
the stored one where freeze is yes, its sample min(SNR, 500) at or above entry(0) and both offsets within their
windows, is accepted. The context moves to PROVE_PENDING, timer and slot frame absent, failures 0, with the sample
and the entry profile: the highest valid profile not above the bound (the lesser of ceiling and target; the target
the resume profile under LAST where present, else the default profile) whose entry threshold the sample meets, or 0.
With freeze no the identity is learned, with its notice where it replaces a different one; with freeze yes no
terminal record changes. -/
def Obligations.RangingReportIsAccepted : Prop :=
  ∀ (r : LinkRecord) (s : State) (c : CtxNo) (a : Attempt), RecordSound r → r.kind = 4#8 →
    let b := readRanging r.body
    let x := s.term b.slot
    OnlyContext s b.slot c a → a.stage = .inviteWait → a.parkPending = false →
    b.crcGood = true → (x.freeze = true → x.identity = some b.identity) →
    (s.profile 0).entry ≤ min b.snr 500 →
    b.timing.natAbs ≤ s.setup.timingWindow → b.power.natAbs ≤ s.setup.powerWindow →
    ∃ t e, exec (.rangingReport r) s = .next t ∧
      HighestValid s (fun p =>
        p ≤ min (if x.policy = .last then x.resume.getD s.setup.defaultProfile else s.setup.defaultProfile)
          x.ceiling ∧ (s.profile p).entry ≤ min b.snr 500) e ∧
      t.ctx c = some { a with
        stage := .provePending, timer := none, slotFrame := none, failures := 0
        sample := some (min b.snr 500), entryProfile := some e } ∧
      OtherContexts c s t ∧ SameReentryBut s t ∧
      (x.freeze = true → t.terms = s.terms ∧ t.mgmt = s.mgmt) ∧
      (x.freeze = false →
        t.term b.slot = { x with identity := some b.identity } ∧ OtherTerms b.slot s t ∧
        (x.identity = none ∨ x.identity = some b.identity → t.mgmt = s.mgmt) ∧
        (x.identity ≠ none → x.identity ≠ some b.identity →
          t.mgmt = s.notified (.identity b.slot b.identity))) ∧
      SameBut [.terms, .reentry, .mgmt] s t

/-- A RANGING_REPORT answering a context in INVITE_WAIT with park pending no that passes the CRC, identity and
weakness checks and whose timing or power offset exceeds its window is, with fewer than four adjust rounds, answered
by one ADJUST record behind the records handed for the modem: the slot, the negated timing offset (2047 for -2048)
and the negated power offset (63 for -64). The context returns to INVITE_PENDING, timer and slot frame absent, with
one adjust round more and its failures kept. Nothing else changes. That a correction fills its whole bytes in two's
complement is the model's choice (notes/assumptions/26.md). -/
def Obligations.RangingReportIsAdjusted : Prop :=
  ∀ (r : LinkRecord) (s : State) (c : CtxNo) (a : Attempt), RecordSound r → r.kind = 4#8 →
    let b := readRanging r.body
    let x := s.term b.slot
    OnlyContext s b.slot c a → a.stage = .inviteWait → a.parkPending = false →
    b.crcGood = true → (x.freeze = true → x.identity = some b.identity) →
    (s.profile 0).entry ≤ min b.snr 500 →
    (s.setup.timingWindow < b.timing.natAbs ∨ s.setup.powerWindow < b.power.natAbs) → a.adjusts < 4 →
    ∃ t q, exec (.rangingReport r) s = .next t ∧
      t.link = { s.link with outgoing := s.link.outgoing ++ [q] } ∧
      q.kind = 0x83#8 ∧ q.length = 4#32 ∧ q.crc = recordCrc q.kind q.length q.body ∧
      q.body.length = 4 ∧ slotAt q.body 0 = b.slot ∧
      (word16At q.body 1).toInt = (if b.timing = -2048 then 2047 else -b.timing) ∧
      (byteAt q.body 3).toInt = (if b.power = -64 then 63 else -b.power) ∧
      t.ctx c = some { a with
        stage := .invitePending, timer := none, slotFrame := none, adjusts := a.adjusts + 1 } ∧
      OtherContexts c s t ∧ SameReentryBut s t ∧ SameBut [.link, .reentry] s t

/-- While a context's failures stand below 2 and its park pending is no: a ranging report with bad CRC (CORRUPT),
one with good CRC, no identity mismatch under freeze and a sample below entry(0) (WEAK), a RANGING_MISS, and a
response timer at 0 in INVITE_WAIT (NO_RESPONSE) each return it to INVITE_PENDING; a proving burst with bad CRC or
an SNR below the exit threshold of the entry profile held, a proving miss, and a response timer at 0 in PROVE_WAIT
(PROVE_FAILED) each return it to PROVE_PENDING with entry profile 0. Timer and slot frame are absent and the
failures one more. A proving report counts on the terminal's bursts, CRC-bad bursts or misses, and its payload on
upstream dropped. Nothing else changes. -/
def Obligations.FailureBelowThreeGoesOn : Prop :=
  ∀ (s : State) (i : Slot) (c : CtxNo) (a : Attempt), OnlyContext s i c a → a.parkPending = false → a.failures < 2 →
    let invite := some { a with
      stage := .invitePending, timer := none, slotFrame := none, failures := a.failures + 1 }
    let prove := some { a with
      stage := .provePending, timer := none, slotFrame := none, failures := a.failures + 1, entryProfile := some 0 }
    (∀ r : LinkRecord, RecordSound r → r.kind = 4#8 → (readRanging r.body).slot = i → a.stage = .inviteWait →
      (readRanging r.body).crcGood = false ∨
        ((s.term i).freeze = true → (s.term i).identity = some (readRanging r.body).identity) ∧
          min (readRanging r.body).snr 500 < (s.profile 0).entry →
      exec (.rangingReport r) s = .next (s.setCtx c invite)) ∧
    (∀ r : LinkRecord, RecordSound r → r.kind = 5#8 → slotAt r.body 0 = i → a.stage = .inviteWait →
      exec (.rangingMiss r) s = .next (s.setCtx c invite)) ∧
    (a.timer = some 0 → a.stage = .inviteWait → exec (.responseTimeout c) s = .next (s.setCtx c invite)) ∧
    (a.timer = some 0 → a.stage = .proveWait → exec (.responseTimeout c) s = .next (s.setCtx c prove)) ∧
    (∀ r : LinkRecord, RecordSound r → r.kind = 2#8 → (readBurst r.body).slot = i → (s.term i).state = .ranging →
      a.stage = .proveWait → (readBurst r.body).proving = true → a.slotFrame = some (readBurst r.body).frame →
      (readBurst r.body).crcGood = false ∨ (readBurst r.body).snr < (s.profile (a.entryProfile.getD 0)).exit →
      ∃ t, exec (.burstReport r) s = .next t ∧ t.ctx c = prove ∧ OtherContexts c s t ∧ SameReentryBut s t ∧
        t.term i = { s.term i with counters := (s.term i).counters.burst (readBurst r.body).crcGood } ∧
        OtherTerms i s t ∧
        t.counters = { s.counters with
          upDropped := min (s.counters.upDropped + (readBurst r.body).payload.length) 4294967295 } ∧
        SameBut [.terms, .reentry, .counters] s t) ∧
    (∀ r : LinkRecord, RecordSound r → r.kind = 3#8 → (readMiss r.body).slot = i → (s.term i).state = .ranging →
      a.stage = .proveWait → (readMiss r.body).proving = true → a.slotFrame = some (readMiss r.body).frame →
      ∃ t, exec (.missReport r) s = .next t ∧ t.ctx c = prove ∧ OtherContexts c s t ∧ SameReentryBut s t ∧
        t.term i = { s.term i with counters := (s.term i).counters.miss } ∧
        OtherTerms i s t ∧ SameBut [.terms, .reentry] s t)

/-- With park pending no and backoff base above 0: at two failures, a third (CORRUPT, WEAK, a RANGING_MISS or
timeout in INVITE_WAIT as NO_RESPONSE, or PROVE_FAILED by a proving burst, a proving miss or a timeout) ends the
attempt with its code; a ranging report of another identity under freeze ends it with IDENTITY_MISMATCH, and an out-
of-window one after four adjust rounds with ADJUST_LIMIT, whatever the failures. The context is free, the failed
attempts field and counter rise by one, the terminal is DOWN with timer base x 2^min(n-1, 6) for the raised field n,
outage-seen set, the outcome recorded, and the notices DOWN and ATTEMPT are raised in that order. -/
def Obligations.FailureOutcomesEndTheAttempt : Prop :=
  ∀ (s : State) (i : Slot) (c : CtxNo) (a : Attempt), OnlyContext s i c a → a.parkPending = false →
    0 < s.setup.backoff →
    (∀ (r : LinkRecord) (o : AttemptOutcome), RecordSound r → r.kind = 4#8 → (readRanging r.body).slot = i →
      a.stage = .inviteWait →
      (2 ≤ a.failures ∧ o = .corrupt ∧ (readRanging r.body).crcGood = false ∨
        o = .identityMismatch ∧ (readRanging r.body).crcGood = true ∧ (s.term i).freeze = true ∧
          (s.term i).identity ≠ some (readRanging r.body).identity ∨
        ((readRanging r.body).crcGood = true ∧
          ((s.term i).freeze = true → (s.term i).identity = some (readRanging r.body).identity) ∧
          (2 ≤ a.failures ∧ o = .weak ∧ min (readRanging r.body).snr 500 < (s.profile 0).entry ∨
            4 ≤ a.adjusts ∧ o = .adjustLimit ∧ (s.profile 0).entry ≤ min (readRanging r.body).snr 500 ∧
              (s.setup.timingWindow < (readRanging r.body).timing.natAbs ∨
                s.setup.powerWindow < (readRanging r.body).power.natAbs)))) →
      ∃ t, exec (.rangingReport r) s = .next t ∧ AttemptFailed s t c i o (s.term i).counters ∧
        SameBut [.terms, .reentry, .mgmt] s t) ∧
    (∀ r : LinkRecord, 2 ≤ a.failures → RecordSound r → r.kind = 5#8 → slotAt r.body 0 = i →
      a.stage = .inviteWait →
      ∃ t, exec (.rangingMiss r) s = .next t ∧ AttemptFailed s t c i .noResponse (s.term i).counters ∧
        SameBut [.terms, .reentry, .mgmt] s t) ∧
    (∀ o, 2 ≤ a.failures → a.timer = some 0 →
      a.stage = .inviteWait ∧ o = .noResponse ∨ a.stage = .proveWait ∧ o = .proveFailed →
      ∃ t, exec (.responseTimeout c) s = .next t ∧ AttemptFailed s t c i o (s.term i).counters ∧
        SameBut [.terms, .reentry, .mgmt] s t) ∧
    (∀ r : LinkRecord, 2 ≤ a.failures → RecordSound r → r.kind = 2#8 → (readBurst r.body).slot = i →
      (s.term i).state = .ranging → a.stage = .proveWait → (readBurst r.body).proving = true →
      a.slotFrame = some (readBurst r.body).frame →
      (readBurst r.body).crcGood = false ∨ (readBurst r.body).snr < (s.profile (a.entryProfile.getD 0)).exit →
      ∃ t, exec (.burstReport r) s = .next t ∧
        AttemptFailed s t c i .proveFailed ((s.term i).counters.burst (readBurst r.body).crcGood) ∧
        t.counters = { s.counters with
          upDropped := min (s.counters.upDropped + (readBurst r.body).payload.length) 4294967295 } ∧
        SameBut [.terms, .reentry, .mgmt, .counters] s t) ∧
    (∀ r : LinkRecord, 2 ≤ a.failures → RecordSound r → r.kind = 3#8 → (readMiss r.body).slot = i →
      (s.term i).state = .ranging → a.stage = .proveWait → (readMiss r.body).proving = true →
      a.slotFrame = some (readMiss r.body).frame →
      ∃ t, exec (.missReport r) s = .next t ∧
        AttemptFailed s t c i .proveFailed (s.term i).counters.miss ∧ SameBut [.terms, .reentry, .mgmt] s t)

/-- A BURST_REPORT with the proving flag set for a RANGING terminal whose context stands in PROVE_WAIT with that
slot frame and park pending no, with good CRC and an SNR at or above the exit threshold of the entry profile held,
ends the attempt ADMITTED: the context is free; the terminal's current profile is the entry profile, its failed
attempts field and dwell count 0, its window empty and settling, its bursts counter up by one, and the rest of its
record is kept; its upstream need is M and its downstream need 0 where none of its flows is ADMITTED; the loads are
the sums of the needs, and flows are shed where one no longer fits. It is RAMPING where a flow of its chain is
WAITING then, as where one was before, and else IN_SERVICE, as where none of its chain's flows is enabled. The
notice for RAMPING is raised first, then for each flow shed its CAPACITY notice and the RAMPING one of its terminal
(notes/assumptions/25.md), and that for IN_SERVICE last. The payload is dropped and counted, and nothing else
changes. -/
def Obligations.ProvingAdmitsTheTerminal : Prop :=
  ∀ (r : LinkRecord) (s : State) (c : CtxNo) (a : Attempt), RecordSound r → r.kind = 2#8 →
    let b := readBurst r.body
    let i := b.slot
    OnlyContext s i c a → (s.term i).state = .ranging → a.stage = .proveWait → a.parkPending = false →
    b.proving = true → a.slotFrame = some b.frame → b.crcGood = true →
    (s.profile (a.entryProfile.getD 0)).exit ≤ b.snr →
    ∃ v t, exec (.burstReport r) s = .next t ∧
      v.ctx c = none ∧ OtherContexts c s v ∧ SameReentryBut s v ∧
      ProfileChanged s v i { s.term i with
          state := .ramping, current := some (a.entryProfile.getD 0), lastOutcome := some .admitted
          failedAttempts := 0, dwell := 0
          window := { samples := 0, sum := 0, crcBad := 0, settling := true, misses := 0 }
          counters := { (s.term i).counters with
            bursts := min ((s.term i).counters.bursts + 1) 4294967295 } }
        (s.notified (.ramping i)) v.mgmt ∧
      ((∀ f ∈ s.chain i, (s.flow f).state ≠ .admitted) →
        (v.term i).needUp = s.setup.m ∧ (v.term i).needDown = 0) ∧
      v.counters = { s.counters with
        upDropped := min (s.counters.upDropped + b.payload.length) 4294967295 } ∧
      SameBut [.terms, .flows, .reentry, .ledger, .mgmt, .counters] s v ∧
      (v.hasWaiting i = true → t = v) ∧
      (v.hasWaiting i = false → t.term i = { v.term i with state := .inService } ∧ OtherTerms i v t ∧
        t.mgmt = v.mgmt.take s.setup.enable s.link.frame (.inService i) ∧ SameBut [.terms, .mgmt] v t) ∧
      ((∃ f ∈ s.chain i, (s.flow f).state.isWaiting = true) → (t.term i).state = .ramping) ∧
      ((∀ f ∈ s.chain i, (s.flow f).state = .disabled) → (t.term i).state = .inService)

/-- While a context's park pending is yes, a RANGING_REPORT or RANGING_MISS in INVITE_WAIT, a proving BURST_REPORT
or MISS_REPORT for its slot frame in PROVE_WAIT, and the timeout of either stage each end the attempt with PARKED:
the context is free, the terminal PARKED with PARKED as its last outcome, no failure counted, no identity learned,
nothing sent and no notice raised. A proving report still counts on the terminal's bursts, CRC-bad bursts or misses,
and its payload on upstream dropped. -/
def Obligations.ParkedStageIsResolved : Prop :=
  ∀ (s : State) (i : Slot) (c : CtxNo) (a : Attempt), OnlyContext s i c a → a.parkPending = true →
    (∀ r : LinkRecord, RecordSound r → r.kind = 4#8 → (readRanging r.body).slot = i → a.stage = .inviteWait →
      ∃ t, exec (.rangingReport r) s = .next t ∧ AttemptParked s t c i (s.term i).counters ∧
        SameBut [.terms, .reentry] s t) ∧
    (∀ r : LinkRecord, RecordSound r → r.kind = 5#8 → slotAt r.body 0 = i → a.stage = .inviteWait →
      ∃ t, exec (.rangingMiss r) s = .next t ∧ AttemptParked s t c i (s.term i).counters ∧
        SameBut [.terms, .reentry] s t) ∧
    (a.timer = some 0 → a.stage = .inviteWait ∨ a.stage = .proveWait →
      ∃ t, exec (.responseTimeout c) s = .next t ∧ AttemptParked s t c i (s.term i).counters ∧
        SameBut [.terms, .reentry] s t) ∧
    (∀ r : LinkRecord, RecordSound r → r.kind = 2#8 → (readBurst r.body).slot = i → (s.term i).state = .ranging →
      a.stage = .proveWait → (readBurst r.body).proving = true → a.slotFrame = some (readBurst r.body).frame →
      ∃ t, exec (.burstReport r) s = .next t ∧
        AttemptParked s t c i ((s.term i).counters.burst (readBurst r.body).crcGood) ∧
        t.counters = { s.counters with
          upDropped := min (s.counters.upDropped + (readBurst r.body).payload.length) 4294967295 } ∧
        SameBut [.terms, .reentry, .counters] s t) ∧
    (∀ r : LinkRecord, RecordSound r → r.kind = 3#8 → (readMiss r.body).slot = i → (s.term i).state = .ranging →
      a.stage = .proveWait → (readMiss r.body).proving = true → a.slotFrame = some (readMiss r.body).frame →
      ∃ t, exec (.missReport r) s = .next t ∧ AttemptParked s t c i (s.term i).counters.miss ∧
        SameBut [.terms, .reentry] s t)

/-- A SECTOR_STATE UP taken while the sector is DOWN sets the state to UP and hands a SECTOR notice of kind UP, and
changes nothing else. A SECTOR_STATE UP taken while the sector is UP has no effect. -/
def Obligations.SectorReturnsOrRepeats : Prop :=
  ∀ (r : LinkRecord) (s : State), RecordSound r → r.kind = 6#8 →
    (byteAt r.body 0 = 1#8 → s.link.sectorUp = false →
      exec (.sectorState r) s =
        .next { s with link := { s.link with sectorUp := true }, mgmt := s.notified .sectorUp }) ∧
    (byteAt r.body 0 = 1#8 → s.link.sectorUp = true → exec (.sectorState r) s = .next s)

/-- A SECTOR_STATE DOWN taken while the sector is UP sets it DOWN and counts one sector loss. Every serviced
terminal leaves service to DOWN with timer settle, outages up by one, current profile and state before fade absent,
window cleared, dwell count and needs 0. Of the flows of its chain, the ADMITTED become WAITING with cause OUTAGE,
credit 0 and no marker, and the SHED-policy DOWN ones have their queues discarded into their SHED counters and the
free cells; no other flow changes. With the chains sound, the flows withdrawn join the Readmission List in slot and
chain order, each behind its own and better classes; with the ledger sound as well, no flow is ADMITTED then and
both loads are 0. Every QUEUED terminal becomes DOWN with timer settle. A RANGING terminal with park pending becomes
PARKED, and any other DOWN with timer settle and outcome SECTOR_LOST. ABSENT, PARKED and DOWN terminals are
unchanged. The queue is empty, every context free and the credit 0. The notices are the sector's, then DOWN of each
terminal placed there, in slot order. A SECTOR_STATE DOWN taken while the sector is DOWN has no effect. -/
def Obligations.SectorLossIsOneEvent : Prop :=
  (∀ (r : LinkRecord) (s : State), RecordSound r → r.kind = 6#8 → byteAt r.body 0 = 0#8 → s.link.sectorUp = false →
    exec (.sectorState r) s = .next s) ∧
  ∀ (r : LinkRecord) (s : State), RecordSound r → r.kind = 6#8 → byteAt r.body 0 = 0#8 → s.link.sectorUp = true →
    ∃ t, exec (.sectorState r) s = .next t ∧
      t.link = { s.link with sectorUp := false } ∧
      t.counters = { s.counters with sectorLosses := min (s.counters.sectorLosses + 1) 4294967295 } ∧
      (∀ i, (s.term i).state.serviced = true →
        t.term i = { s.term i with
          state := .down, timer := some s.setup.settle, current := none, beforeFade := none, outageSeen := true
          dwell := 0, needUp := 0, needDown := 0
          window := { samples := 0, sum := 0, crcBad := 0, settling := false, misses := 0 }
          counters := { (s.term i).counters with
            outages := min ((s.term i).counters.outages + 1) 4294967295 } } ∧
        ∀ f ∈ s.chain i,
          let x := s.flow f
          let y : Flow := if x.state = .admitted then
            { x with state := .waiting .outage, credit := 0, marker := none } else x
          t.flow f = if x.dir = .down ∧ x.policy = .shed then { y with
            queue := [], counters := { x.counters with
              shed := min (x.counters.shed + x.queue.length) 4294967295 } } else y) ∧
      (∀ f, (∀ i, (s.term i).state.serviced = true → f ∉ s.chain i) → t.flow f = s.flow f) ∧
      t.buffer.freeCells + t.flows.total Flow.cellsHeld = s.buffer.freeCells + s.flows.total Flow.cellsHeld ∧
      t.buffer.stamp = s.buffer.stamp ∧
      (ChainsSound s →
        PlacedInTurn (fun g => (s.flow g).cls.val)
          (((List.finRange 256).filter fun i => (s.term i).state.serviced).flatMap fun i =>
            (s.chain i).filter fun f => decide ((s.flow f).state = .admitted))
          s.ledger.list t.ledger.list) ∧
      (ChainsSound s → LedgerSound s →
        t.ledger.loadUp = 0 ∧ t.ledger.loadDown = 0 ∧ ∀ f, (t.flow f).state ≠ .admitted) ∧
      (∀ i, (s.term i).state = .queued →
        t.term i = { s.term i with state := .down, timer := some s.setup.settle, outageSeen := true }) ∧
      (∀ i c a, (s.term i).state = .ranging → OnlyContext s i c a →
        t.term i =
          if a.parkPending then { s.term i with state := .parked, lastOutcome := some .parked }
          else { s.term i with
            state := .down, timer := some s.setup.settle, outageSeen := true, lastOutcome := some .sectorLost }) ∧
      (∀ i, (s.term i).state = .absent ∨ (s.term i).state = .parked ∨ (s.term i).state = .down →
        t.term i = s.term i) ∧
      t.reentry.queue = [] ∧ (∀ c, t.ctx c = none) ∧ t.reentry.credit = 0 ∧ t.reentry.grants = s.reentry.grants ∧
      t.mgmt =
        (((List.finRange 256).filter fun i => decide ((s.term i).state ≠ .down ∧ (t.term i).state = .down)).foldl
          (fun m i => m.take s.setup.enable s.link.frame (.down i)) (s.notified .sectorDown)) ∧
      SameBut [.terms, .flows, .link, .reentry, .ledger, .buffer, .mgmt, .counters] s t

/-- A packet arriving on the trunk whose length lies outside 64..9216 bytes or whose FCS does not check changes
nothing but the trunk errors counter, which increases by one, saturating. A packet that passes, whose type (after a
VLAN tag of type 0x8100, or after the source address without one) is 0x7A6C and whose destination is the part's
address or the broadcast address, joins the tail of the request queue, or is discarded with no effect where the
queue holds 4 requests. -/
def Obligations.TrunkPacketIsChecked : Prop :=
  ∀ (p : Packet) (s : State),
    let good := 64 ≤ p.length ∧ p.length ≤ 9216 ∧ fcsChecks p = true
    let forPart := (word16At p 12 ≠ 0x8100#16 ∧ word16At p 12 = 0x7A6C#16 ∨
        word16At p 12 = 0x8100#16 ∧ word16At p 16 = 0x7A6C#16) ∧
      (macAt p 0 = s.setup.address ∨ macAt p 0 = 0xFFFFFFFFFFFF#48)
    (¬ good → exec (.trunkPacketArrival p) s =
      .next { s with counters := { s.counters with
        trunkErrors := min (s.counters.trunkErrors + 1) 4294967295 } }) ∧
    (good → forPart → s.mgmt.requests.length < 4 → exec (.trunkPacketArrival p) s =
      .next { s with mgmt := { s.mgmt with requests := s.mgmt.requests ++ [p] } }) ∧
    (good → forPart → 4 ≤ s.mgmt.requests.length → exec (.trunkPacketArrival p) s = .next s)

/-- A packet that passes the checks and is no management packet for the part is discarded on unclassified where it
is untagged, carries identifier 0 or 4095, or its tag is mapped to none; on misdirected where its flow is UP; on the
flow's discarded DISABLED where the flow is DISABLED; on the flow's discarded SHED where it is WAITING under SHED;
and is handed for enqueue where it is ADMITTED or WAITING under HOLD. A discard changes nothing but its counter. -/
def Obligations.DownstreamPacketIsClassified : Prop :=
  ∀ (p : Packet) (s : State), 64 ≤ p.length → p.length ≤ 9216 → fcsChecks p = true → s.isManagement p = false →
    let v : Tag := ⟨(word16At p 14).toNat % 4096, Nat.mod_lt _ (by decide)⟩
    ((word16At p 12 ≠ 0x8100#16 ∨ v = 0 ∨ v = 4095 ∨ s.tags.get v = none) →
      exec (.trunkPacketArrival p) s = .next { s with counters := { s.counters with
        unclassified := min (s.counters.unclassified + 1) 4294967295 } }) ∧
    ∀ f, word16At p 12 = 0x8100#16 → v ≠ 0 → v ≠ 4095 → s.tags.get v = some f →
      ((s.flow f).dir = .up → exec (.trunkPacketArrival p) s = .next { s with counters := { s.counters with
        misdirected := min (s.counters.misdirected + 1) 4294967295 } }) ∧
      ((s.flow f).dir = .down → (s.flow f).state = .disabled →
        exec (.trunkPacketArrival p) s = .next (s.modFlow f fun x => { x with
          counters := { x.counters with disabled := min (x.counters.disabled + 1) 4294967295 } })) ∧
      ((s.flow f).dir = .down → (s.flow f).state.isWaiting = true → (s.flow f).policy = .shed →
        exec (.trunkPacketArrival p) s = .next (s.modFlow f fun x => { x with
          counters := { x.counters with shed := min (x.counters.shed + 1) 4294967295 } })) ∧
      ((s.flow f).dir = .down →
        (s.flow f).state = .admitted ∨ (s.flow f).state.isWaiting = true ∧ (s.flow f).policy = .hold →
        exec (.trunkPacketArrival p) s = .next (s.enqueue f p))

/-- A packet handed for enqueue occupies ceil(B / 256) cells. Where the flow's cells held plus these exceed its
queue limit, only its discarded FULL counter increases. Else, where they exceed the free cells, only its discarded
NOBUF counter and the sector's no buffer counter increase. Else the packet joins the tail of the queue with the
arrival stamp, the free cells fall by its cells and the enqueued counter increases. -/
def Obligations.EnqueueTestsLimitThenCells : Prop :=
  ∀ (s : State) (f : FlowIdx) (p : Packet),
    let cells := (p.length + 255) / 256
    let held := ((s.flow f).queue.map fun e => (e.bytes.length + 255) / 256).sum
    let t := s.enqueue f p
    ((s.flow f).limit < held + cells →
      t.flow f = { s.flow f with counters := { (s.flow f).counters with
        full := min ((s.flow f).counters.full + 1) 4294967295 } } ∧ SameBut [.flows] s t) ∧
    (held + cells ≤ (s.flow f).limit → s.buffer.freeCells < cells →
      t.flow f = { s.flow f with counters := { (s.flow f).counters with
        noBuf := min ((s.flow f).counters.noBuf + 1) 4294967295 } } ∧
      t.counters = { s.counters with noBuffer := min (s.counters.noBuffer + 1) 4294967295 } ∧
      SameBut [.flows, .counters] s t) ∧
    (held + cells ≤ (s.flow f).limit → cells ≤ s.buffer.freeCells →
      t.flow f = { s.flow f with
        queue := (s.flow f).queue ++ [{ bytes := p, arrival := s.buffer.stamp }]
        counters := { (s.flow f).counters with
          enqueued := min ((s.flow f).counters.enqueued + 1) 4294967295 } } ∧
      t.buffer = { s.buffer with freeCells := s.buffer.freeCells - cells } ∧ SameBut [.flows, .buffer] s t) ∧
    OtherFlows f s t

/-- The QMON takes the oldest frame event announced to it and records its number as the result stamp. The TMGR takes
the oldest announced to it: the timer of each DOWN terminal falls by one where above 0, and one whose timer is then
0 with the sector UP becomes QUEUED, its timer absent; with the sector DOWN it stays DOWN at 0. The terminals that
become QUEUED are placed in the Re-entry Queue in ascending slot order, each behind its own and better classes and
ahead of worse ones. No other terminal changes. A DOWN_TIMER_EXPIRY takes one such terminal: DOWN at 0 with the
sector UP it is placed behind its class and better ones and is otherwise unchanged (notes/assumptions/5.md). With
none announced a frame event has no effect (notes/assumptions/4.md). -/
def Obligations.QmonAndTmgrFrameEvents : Prop :=
  (∀ (s : State) (n : FrameNo) (rest : List FrameNo), s.link.announced.qmon = n :: rest →
    exec .qmonFrameEvent s = .next { s with
      link := { s.link with announced := { s.link.announced with qmon := rest } }, resultStamp := some n }) ∧
  (∀ (s : State) (n : FrameNo) (rest : List FrameNo), s.link.announced.tmgr = n :: rest →
    ∃ t, exec .tmgrFrameEvent s = .next t ∧
      t.link = { s.link with announced := { s.link.announced with tmgr := rest } } ∧
      (∀ i, (s.term i).state ≠ .down → t.term i = s.term i) ∧
      (∀ i k, (s.term i).state = .down → (s.term i).timer = some k →
        t.term i = if k ≤ 1 ∧ s.link.sectorUp = true then { s.term i with state := .queued, timer := none }
          else { s.term i with timer := some (k - 1) }) ∧
      (∀ i, i ∈ t.reentry.queue ↔ i ∈ s.reentry.queue ∨
        (s.term i).state = .down ∧ s.link.sectorUp = true ∧ ∃ k, (s.term i).timer = some k ∧ k ≤ 1) ∧
      PlacedInTurn (fun j => (s.term j).cls.val)
        ((List.finRange 256).filter fun i => decide ((s.term i).state = .down ∧ s.link.sectorUp = true ∧
          ((s.term i).timer = some 0 ∨ (s.term i).timer = some 1)))
        s.reentry.queue t.reentry.queue ∧
      s.reentry.queue.Sublist t.reentry.queue ∧ t.reentry.contexts = s.reentry.contexts ∧
      t.reentry.credit = s.reentry.credit ∧ t.reentry.grants = s.reentry.grants ∧
      SameBut [.terms, .link, .reentry] s t) ∧
  (∀ (s : State) (i : Slot),
    ((s.term i).state = .down → (s.term i).timer = some 0 → s.link.sectorUp = true →
      ∃ t, exec (.downTimerExpiry i) s = .next t ∧
        t.term i = { s.term i with state := .queued, timer := none } ∧ OtherTerms i s t ∧
        PlacedByClass (fun j => (s.term j).cls.val) i s.reentry.queue t.reentry.queue ∧
        t.reentry.contexts = s.reentry.contexts ∧ t.reentry.credit = s.reentry.credit ∧
        t.reentry.grants = s.reentry.grants ∧ SameBut [.terms, .reentry] s t) ∧
    ((s.term i).state ≠ .down ∨ (s.term i).timer ≠ some 0 ∨ s.link.sectorUp = false →
      exec (.downTimerExpiry i) s = .next s)) ∧
  ∀ s : State, (s.link.announced.qmon = [] → exec .qmonFrameEvent s = .next s) ∧
    (s.link.announced.tmgr = [] → exec .tmgrFrameEvent s = .next s)

/-- The REC takes the oldest frame event n announced to it, after every grant handed and not yet taken, each as
GRANT_TAKE takes it (notes/assumptions/6.md). A waiting context whose slot frame is not n + 2 has its response timer
lowered; at 0 it times out: with park pending the attempt ends PARKED; at a first or second failure it returns to
its pending stage, entry profile 0 in proving; at a third the attempt ends NO_RESPONSE or PROVE_FAILED with its
backoff and notices, contexts in ascending order (notes/assumptions/13.md). Every other context is unchanged. Then,
with the sector UP, the credit becomes min(c + r, 1024) and as many terminals as the credit has multiples of 256,
free contexts, those just freed included, and queue entries allow are taken from the head of the queue and bound in
order to the free contexts in ascending number, each RANGING with its attempts counter up by one and its context at
INVITE_PENDING with nothing else present, each costing 256; with the sector DOWN nothing is earned or bound. The
contexts are those of RANGING terminals and the backoff base is above 0. With none announced nothing changes
(notes/assumptions/4.md). -/
def Obligations.ReentryFrameEventPaces : Prop :=
  (∀ s : State, s.reentry.grants = [] → s.takeGrants = s) ∧
  (∀ (s : State) (x : Grant) (rest : List Grant), s.reentry.grants = x :: rest →
    ∃ t, exec .grantTake s = .next t ∧ s.takeGrants = t.takeGrants) ∧
  (∀ (s : State) (n : FrameNo) (rest : List FrameNo), s.link.announced.reec = n :: rest → ReentrySound s →
    0 < s.setup.backoff →
    let g : State :=
      { s with link := { s.link with announced := { s.link.announced with reec := rest } } }.takeGrants
    let numbers : List CtxNo := [0, 1, 2, 3]
    ∃ v t, exec .recFrameEvent s = .next t ∧
      (∀ c, g.ctx c = none → v.ctx c = none) ∧
      (∀ c a, g.ctx c = some a → (∀ k, ¬ Lowers n a k) →
        v.ctx c = some a ∧ v.term a.terminal = g.term a.terminal) ∧
      (∀ c a k, g.ctx c = some a → Lowers n a k →
        let x := g.term a.terminal
        let inviting := a.stage = .inviteWait
        let outcome := if inviting then AttemptOutcome.noResponse else .proveFailed
        let m := min (x.failedAttempts + 1) 255
        (1 < k → v.ctx c = some { a with timer := some (k - 1) } ∧ v.term a.terminal = x) ∧
        (k ≤ 1 → a.parkPending = true →
          v.ctx c = none ∧ v.term a.terminal = { x with state := .parked, lastOutcome := some .parked }) ∧
        (k ≤ 1 → a.parkPending = false → a.failures < 2 → v.term a.terminal = x ∧
          v.ctx c = some { a with
            stage := if inviting then .invitePending else .provePending
            timer := none, slotFrame := none, failures := a.failures + 1
            entryProfile := if inviting then a.entryProfile else some 0 }) ∧
        (k ≤ 1 → a.parkPending = false → 2 ≤ a.failures → v.ctx c = none ∧
          v.term a.terminal = { x with
            state := .down, timer := some (s.setup.backoff * 2 ^ min (m - 1) 6), failedAttempts := m
            lastOutcome := some outcome, outageSeen := true
            counters := { x.counters with failed := min (x.counters.failed + 1) 4294967295 } })) ∧
      (∀ i, (∀ c a, g.ctx c = some a → a.terminal ≠ i) → v.term i = g.term i) ∧
      v.mgmt = numbers.foldl (fun m c =>
        match g.ctx c with
        | some a =>
          if TimesOut n a ∧ a.parkPending = false ∧ 2 ≤ a.failures then
            (m.take s.setup.enable s.link.frame (.down a.terminal)).take s.setup.enable s.link.frame
              (.attempt a.terminal c (if a.stage = .inviteWait then .noResponse else .proveFailed)
                (min ((g.term a.terminal).failedAttempts + 1) 255))
          else m
        | none => m) g.mgmt ∧
      SameReentryBut g v ∧ SameBut [.terms, .reentry, .mgmt] g v ∧
      (s.link.sectorUp = false → t = v) ∧
      (s.link.sectorUp = true →
        let free := numbers.filter fun c => (v.ctx c).isNone
        let earned := min (s.reentry.credit + s.setup.pacer) 1024
        let k := min (earned / 256) (min free.length s.reentry.queue.length)
        t.reentry.queue = s.reentry.queue.drop k ∧ t.reentry.credit = earned - 256 * k ∧ t.reentry.grants = [] ∧
        (∀ (j : Nat) (i : Slot) (c : CtxNo), j < k → s.reentry.queue[j]? = some i → free[j]? = some c →
          t.ctx c = some
            { terminal := i, stage := .invitePending, failures := 0, adjusts := 0, timer := none, slotFrame := none
              entryProfile := none, sample := none, parkPending := false }) ∧
        (∀ c, c ∉ free.take k → t.ctx c = v.ctx c) ∧
        (∀ i, i ∈ s.reentry.queue.take k → t.term i = { s.term i with
          state := .ranging
          counters := { (s.term i).counters with
            attempts := min ((s.term i).counters.attempts + 1) 4294967295 } }) ∧
        (∀ i, i ∉ s.reentry.queue.take k → t.term i = v.term i) ∧
        SameBut [.terms, .reentry] v t)) ∧
  ∀ s : State, s.link.announced.reec = [] → exec .recFrameEvent s = .next s

/-- The oldest grant handed to the REC is taken by moving its context from INVITE_PENDING to INVITE_WAIT for
RANGING, or from PROVE_PENDING to PROVE_WAIT for PROVING, with response timer T_r and slot frame the target frame,
where the context is still bound to the terminal the grant names in that stage. Otherwise it is dropped. Nothing
else changes either way. With no grant handed there is none to take (notes/assumptions/10.md). -/
def Obligations.GrantIsTakenOrDropped : Prop :=
  ∀ s : State,
    (s.reentry.grants = [] → exec .grantTake s = .next s) ∧
    ∀ g rest, s.reentry.grants = g :: rest →
      let dropped : State := { s with reentry := { s.reentry with grants := rest } }
      (∀ a, s.ctx g.ctx = some a → a.terminal = g.terminal →
        (g.kind = .ranging → a.stage = .invitePending → exec .grantTake s =
          .next (dropped.setCtx g.ctx (some { a with
            stage := .inviteWait, timer := some s.setup.tr, slotFrame := some g.frame }))) ∧
        (g.kind = .proving → a.stage = .provePending → exec .grantTake s =
          .next (dropped.setCtx g.ctx (some { a with
            stage := .proveWait, timer := some s.setup.tr, slotFrame := some g.frame })))) ∧
      ((∀ a, s.ctx g.ctx = some a → a.terminal = g.terminal →
        ¬ (g.kind = .ranging ∧ a.stage = .invitePending) ∧ ¬ (g.kind = .proving ∧ a.stage = .provePending)) →
        exec .grantTake s = .next dropped)

/-- The CLED takes the oldest frame event announced to it. Of the Readmission List's entries, those of RAMPING or
IN_SERVICE terminals are eligible, in list order. The scan admits a leading part of them, of R_max flows at most;
where it admits fewer than R_max and an eligible entry is left, that entry fails the admission test against the
loads as the scan leaves them. With the chains and the ledger sound, each flow admitted passed that test: counted
with the flows admitted before it, it leaves its terminal's need in its direction as it was, or the sum of the needs
of all slots within the admission ceiling; and the needs and loads are then those with the admitted flows counted.
Each admitted flow is ADMITTED with credit 0 and leaves the list, a DOWN flow with packets queued getting its
marker, its other fields kept; no other flow changes. Then every RAMPING terminal without a WAITING flow in its
chain becomes IN_SERVICE, and no other terminal's state changes. The notices are one ADMITTED with the flows
admitted, where there are any, and then IN_SERVICE of each such terminal, in slot order (that order and place are
the model's choice, notes/assumptions/12.md). With no frame event announced nothing changes
(notes/assumptions/4.md). -/
def Obligations.ReadmissionIsHeadOfLine : Prop :=
  (∀ (s : State) (n : FrameNo) (rest : List FrameNo), s.link.announced.cled = n :: rest →
    let eligible := s.ledger.list.filter fun f =>
      match (s.flow f).bound with
      | some i => (s.term i).state.active
      | none => false
    ∃ t k, exec .readmissionScan s = .next t ∧
      t.link = { s.link with announced := { s.link.announced with cled := rest } } ∧
      k ≤ eligible.length ∧ k ≤ s.setup.rMax ∧
      t.ledger.list = s.ledger.list.filter (fun f => decide (f ∉ eligible.take k)) ∧
      (∀ f ∈ eligible.take k, t.flow f = { s.flow f with
        state := .admitted, credit := 0
        marker := if (s.flow f).dir = .down ∧ (s.flow f).queue ≠ [] then
          some { remaining := (s.flow f).queue.length, released := 0, discarded := 0 } else (s.flow f).marker }) ∧
      (∀ f, f ∉ eligible.take k → t.flow f = s.flow f) ∧
      (∀ f i, k < s.setup.rMax → eligible[k]? = some f → (s.flow f).bound = some i →
        t.needWith i (s.flow f).dir [f] ≠ (t.term i).need (s.flow f).dir ∧
        t.setup.ceiling (s.flow f).dir + (t.term i).need (s.flow f).dir <
          t.load (s.flow f).dir + t.needWith i (s.flow f).dir [f]) ∧
      (ChainsSound s → LedgerSound s →
        let need (i : Slot) (x : Direction) (j : Nat) : Nat := s.needWith i x (eligible.take j)
        let load (x : Direction) (j : Nat) : Nat := ((List.finRange 256).map fun i => need i x j).sum
        (∀ j f i, j < k → eligible[j]? = some f → (s.flow f).bound = some i →
          need i (s.flow f).dir (j + 1) = need i (s.flow f).dir j ∨
            load (s.flow f).dir (j + 1) ≤ s.setup.ceiling (s.flow f).dir) ∧
        ∀ x, t.load x = load x k ∧ ∀ i, (t.term i).need x = need i x k) ∧
      (∀ i, t.term i = { s.term i with
        state := (t.term i).state, needUp := (t.term i).needUp, needDown := (t.term i).needDown }) ∧
      Reported s t (fun i => (s.term i).state)
        (if k = 0 then s.mgmt else s.notified (.admitted (eligible.take k))) ∧
      SameBut [.terms, .flows, .link, .ledger, .mgmt] s t) ∧
  ∀ s : State, s.link.announced.cled = [] → exec .readmissionScan s = .next s

/-- The PBR takes the oldest frame event n announced to it and sets the arrival stamp to n. For every flow, the
packets queued before are, from head to tail: those discarded, each with an age at n above the hold age, up to the
first head that is not older; those released by the committed and then by the excess pass, in order; and those that
stay. Only eligible flows release: DOWN, ADMITTED, of RAMPING or IN_SERVICE terminals. An eligible flow's credit
becomes min(credit + CB, CB + 9216) less its committed bytes, every other flow's 0. Each pass takes the flows by
class and index. A packet costs ceil(64 x B / d), and the overhead where it is its terminal's first; all cost D at
most. A flow's committed releases end where its head exceeds its credit or what is left of D at its turn; its excess
releases end where its head would take its bytes past PB or exceeds what is left. Discards and releases raise the
stale and released counters; a marker counts both, and one counted to its end becomes absent. A flow's other fields
are kept, and the cells taken out are free. The notices are DRAINED of each marker that the sweep counts to its end,
STALE with the number of discards of each flow with any, both in index order, and DRAINED of each marker that a
release counts to its end, in release order (that order: notes/assumptions/28.md). For each terminal with a packet
released, in ascending slot order, one DOWNSTREAM_BURST, laid out as spec/11 states, at its current profile with n,
the charged symbols and its packets in order is handed for the modem. No terminal, ledger or profile state changes.
With no frame event announced nothing changes (notes/assumptions/4.md). -/
def Obligations.ReleaseConservesPackets : Prop :=
  (∀ (s : State) (n : FrameNo) (rest : List FrameNo), s.link.announced.pbr = n :: rest →
    let eligible (f : FlowIdx) (i : Slot) : Prop := (s.flow f).dir = .down ∧ (s.flow f).state = .admitted ∧
      (s.flow f).bound = some i ∧ (s.term i).state.active = true
    let cost (done : List Released) (i : Slot) (bytes : Nat) : Nat :=
      (64 * bytes + ((s.pricing i).density - 1)) / (s.pricing i).density +
        if done.any (fun r => r.terminal = i) then 0 else (s.pricing i).overhead
    let before (f g : FlowIdx) : Prop := (s.flow f).cls < (s.flow g).cls ∨ (s.flow f).cls = (s.flow g).cls ∧ f ≤ g
    let upTo (f : FlowIdx) (l : List Released) : List Released :=
      l.filter fun r => (s.flow r.flow).cls < (s.flow f).cls ∨ (s.flow r.flow).cls = (s.flow f).cls ∧ r.flow ≤ f
    let charged (l : List Released) : Nat := (l.map Released.cost).sum
    let bytesOf (f : FlowIdx) (l : List Released) : Nat :=
      ((l.filter fun r => r.flow = f).map fun r => r.bytes.length).sum
    let noted (m : Management) (b : NoticeBody) : Management := m.take s.setup.enable s.link.frame b
    let raised (c d : Nat) : Nat := if d = 0 then c else min (c + d) 4294967295
    let stamped (e : QEntry) : QEntry :=
      if s.buffer.stamp = none then { e with arrival := some (e.arrival.getD n) } else e
    ∃ (t : State) (out com exc : List Released) (k : FlowIdx → Nat), exec .pbrFrameEvent s = .next t ∧
      out = com ++ exc ∧ t.buffer.stamp = some n ∧
      t.buffer.freeCells + t.flows.total Flow.cellsHeld = s.buffer.freeCells + s.flows.total Flow.cellsHeld ∧
      (∀ f, k f ≤ (s.flow f).queue.length ∧
        (let x := s.flow f
          let sent := (out.filter fun r => r.flow = f).length
          t.flow f = { x with
            queue := (x.queue.drop (k f + sent)).map stamped, credit := (t.flow f).credit
            marker := x.marker.bind fun m => if max 1 m.remaining ≤ k f + sent then none else
              some { remaining := m.remaining - (k f + sent), released := m.released + sent, discarded := m.discarded + k f }
            counters := { x.counters with
              stale := raised x.counters.stale (k f), released := raised x.counters.released sent } }) ∧
        (s.flow f).queue.map QEntry.bytes =
          ((s.flow f).queue.take (k f)).map QEntry.bytes ++
            (out.filter fun r => r.flow = f).map Released.bytes ++ (t.flow f).queue.map QEntry.bytes ∧
        (∀ e ∈ (s.flow f).queue.take (k f), (s.flow f).dir = .down ∧
          ∃ a, e.arrival = some a ∧ (s.flow f).holdAge < (n - a).toNat) ∧
        (∀ e a, (s.flow f).dir = .down → (s.flow f).queue[k f]? = some e → e.arrival = some a →
          (n - a).toNat ≤ (s.flow f).holdAge) ∧
        ∀ i e, eligible f i → (s.flow f).queue[k f + (com.filter fun r => r.flow = f).length]? = some e →
          (t.flow f).credit < e.bytes.length ∨
            s.setup.d < charged (upTo f com) + cost (upTo f com) i e.bytes.length) ∧
      (∀ f i e, eligible f i → (t.flow f).queue.head? = some e →
        (s.flow f).pb < bytesOf f out + e.bytes.length ∨
          s.setup.d < charged com + charged (upTo f exc) + cost (com ++ upTo f exc) i e.bytes.length) ∧
      (∀ r ∈ exc, bytesOf r.flow out ≤ (s.flow r.flow).pb) ∧
      com.Pairwise (fun a b => before a.flow b.flow) ∧ exc.Pairwise (fun a b => before a.flow b.flow) ∧
      (∀ r ∈ out, eligible r.flow r.terminal) ∧
      (∀ (j : Nat) (r : Released), out[j]? = some r → r.cost = cost (out.take j) r.terminal r.bytes.length) ∧
      charged out ≤ s.setup.d ∧
      (∀ f i, eligible f i →
        (t.flow f).credit + bytesOf f com = min ((s.flow f).credit + (s.flow f).cb) ((s.flow f).cb + 9216)) ∧
      (∀ f, (∀ i, ¬ eligible f i) → (t.flow f).credit = 0) ∧
      (let swept := (List.finRange 1024).foldl (fun m f => match (s.flow f).marker with
          | some x => if max 1 x.remaining ≤ k f then
              noted m (.drained f (s.flow f).bound x.released (x.discarded + max 1 x.remaining)) else m
          | none => m) s.mgmt
        let summed := (List.finRange 1024).foldl (fun m f =>
          if k f = 0 then m else noted m (.stale f (s.flow f).bound (s.flow f).state (k f))) swept
        t.mgmt = (List.range out.length).foldl (fun m j => match out[j]? with
          | some r => match (s.flow r.flow).marker with
            | some x =>
              if k r.flow + ((out.take (j + 1)).filter fun q => q.flow = r.flow).length = max 1 x.remaining then
                noted m (.drained r.flow (s.flow r.flow).bound (x.released + (max 1 x.remaining - k r.flow))
                  (x.discarded + k r.flow)) else m
            | none => m
          | none => m) summed) ∧
      t.link.outgoing = s.link.outgoing ++
        (((List.finRange 256).filter fun i => out.any fun r => r.terminal = i).map fun i =>
          let sent := out.filter fun r => r.terminal = i
          mkRecord 0x82#8 ([num8 i.val, num8 (((s.term i).current.map Fin.val).getD 0)] ++ be16 n ++
            num16 (charged sent) ++ num16 sent.length ++ payloadBytes (sent.map Released.bytes))) ∧
      t.link.announced = { s.link.announced with pbr := rest } ∧ t.link.frame = s.link.frame ∧
      t.link.sectorUp = s.link.sectorUp ∧ SameBut [.flows, .link, .buffer, .mgmt] s t) ∧
  ∀ s : State, s.link.announced.pbr = [] → exec .pbrFrameEvent s = .next s

/-- Where a DOWN flow's head packet is older at the PBR's stamp than the flow's hold age, it is discarded: the queue
is its rest, the discarded STALE counter increases by one, and its cells are free. A present marker counts the
discard: its remaining falls and its discarded rises by one, or, remaining falling to 0, it becomes absent with a
DRAINED notice. Then the STALE summary of one discard is raised; that a single discard has a summary of its own is
the model's choice (notes/assumptions/5.md). Where the head packet is not older, or there is none, or no stamp, or
the flow is UP, nothing changes. -/
def Obligations.StaleHeadIsDiscarded : Prop :=
  (∀ (s : State) (f : FlowIdx) (n a : FrameNo) (e : QEntry) (rest : List QEntry),
    s.buffer.stamp = some n → (s.flow f).dir = .down → (s.flow f).queue = e :: rest → e.arrival = some a →
    (s.flow f).holdAge < (n - a).toNat →
    ∃ t m, exec (.staleDiscard f) s = .next t ∧
      t.flow f = { s.flow f with
        queue := rest, marker := m
        counters := { (s.flow f).counters with stale := min ((s.flow f).counters.stale + 1) 4294967295 } } ∧
      OtherFlows f s t ∧
      t.buffer = { s.buffer with freeCells := s.buffer.freeCells + (e.bytes.length + 255) / 256 } ∧
      ((s.flow f).marker = none → m = none ∧
        t.mgmt = s.notified (.stale f (s.flow f).bound (s.flow f).state 1)) ∧
      (∀ k, (s.flow f).marker = some k → 1 < k.remaining →
        m = some { remaining := k.remaining - 1, released := k.released, discarded := k.discarded + 1 } ∧
        t.mgmt = s.notified (.stale f (s.flow f).bound (s.flow f).state 1)) ∧
      (∀ k, (s.flow f).marker = some k → k.remaining = 1 → m = none ∧
        t.mgmt = (s.notified (.drained f (s.flow f).bound k.released (k.discarded + 1))).take s.setup.enable
          s.link.frame (.stale f (s.flow f).bound (s.flow f).state 1)) ∧
      SameBut [.flows, .buffer, .mgmt] s t) ∧
  ∀ (s : State) (f : FlowIdx),
    (s.buffer.stamp = none ∨ (s.flow f).dir = .up ∨ (s.flow f).queue = [] ∨
      ∃ n e rest, s.buffer.stamp = some n ∧ (s.flow f).queue = e :: rest ∧
        ∀ a, e.arrival = some a → (n - a).toNat ≤ (s.flow f).holdAge) →
    exec (.staleDiscard f) s = .next s

/-- The GBLD takes the oldest frame event n announced to it and hands one GRANT_LIST for frame n + 2, laid out as
spec/11 states, for the modem. With the sector UP it holds an entry of R_s symbols for each context in
INVITE_PENDING (RANGING, profile 0) or PROVE_PENDING (PROVING, the context's entry profile), in context order, then
a DATA entry of need_up symbols at its current profile for each serviced terminal, in slot order, each entry
starting where the one before it ends; and one grant for each context entry is handed to the REC. With the sector
DOWN the list is empty and no grant is handed. The list holds at most 260 entries, and, with the setup record and
the ledger sound, its lengths total at most U. Nothing else changes. With no frame event announced nothing changes
at all (notes/assumptions/4.md). -/
def Obligations.GrantListIsEndToEnd : Prop :=
  (∀ (s : State) (n : FrameNo) (rest : List FrameNo), s.link.announced.gbld = n :: rest →
    let pending : List (CtxNo × Attempt) := ([0, 1, 2, 3] : List CtxNo).filterMap fun c =>
      (s.ctx c).bind fun a => if a.stage = .invitePending ∨ a.stage = .provePending then some (c, a) else none
    ∃ t l, exec .gbldFrameEvent s = .next t ∧
      t.link = { s.link with
        announced := { s.link.announced with gbld := rest }
        outgoing := s.link.outgoing ++ [mkRecord 0x81#8 (be16 (n + 2) ++ num16 l.length ++ l.flatMap fun e =>
          [match e.kind with | .ranging => 0#8 | .proving => 1#8 | .data => 2#8, num8 e.terminal.val,
            num8 e.profile.val, 0#8] ++ num16 e.start ++ num16 e.length)] } ∧
      EndToEnd 0 l ∧
      (s.link.sectorUp = true →
        l.map (fun e => (e.kind, e.terminal, e.profile, e.length)) =
          pending.map (fun x =>
            if x.2.stage = .invitePending then (EntryKind.ranging, x.2.terminal, 0, s.setup.rs)
            else (EntryKind.proving, x.2.terminal, x.2.entryProfile.getD 0, s.setup.rs)) ++
          ((List.finRange 256).filter fun i => (s.term i).state.serviced).map fun i =>
            (EntryKind.data, i, (s.term i).current.getD 0, (s.term i).needUp)) ∧
      (s.link.sectorUp = false → l = []) ∧ l.length ≤ 260 ∧
      (SetupSound s → LedgerSound s → (l.map GrantEntry.length).sum ≤ s.setup.u) ∧
      t.reentry = { s.reentry with
        grants := s.reentry.grants ++
          if s.link.sectorUp then pending.map fun x =>
            { ctx := x.1, terminal := x.2.terminal
              kind := if x.2.stage = .invitePending then .ranging else .proving, frame := n + 2 }
          else [] } ∧
      SameBut [.link, .reentry] s t) ∧
  ∀ s : State, s.link.announced.gbld = [] → exec .gbldFrameEvent s = .next s

/-- Where the MAGT can take its head request: one from a group address, or of version 1 and a kind other than
REQUEST, leaves the queue without a response; one of another version, of a command count outside 1..16, or whose
records, walked by their lengths, run past its end, is answered with its tag, status FORMAT and no results, the
response joining the transmitter's line and the request leaving, or held where 64 packets wait apart from the one
being sent (notes/assumptions/9.md); a well-formed one, VLAN-tagged or not, has its records taken up with its source
and tag. With no request, or while commands are being taken or a response is held, nothing changes
(notes/assumptions/10.md). The payload walked ends before the FCS (notes/assumptions/8.md). -/
def Obligations.RequestIsTakenByItsForm : Prop :=
  (∀ (s : State) (p : Packet) (rest : List Packet), s.mgmt.requests = p :: rest →
    s.mgmt.active = none → s.mgmt.held = none →
    let source := macAt p 6
    let header := payloadOf p
    let format := managementPacket source s.setup.address ([1#8, 2#8] ++ be16 (word16At header 2) ++ [1#8, 0#8])
    (source.getLsbD 40 = true ∨ byteAt header 0 = 1#8 ∧ byteAt header 1 ≠ 1#8 →
      exec .requestTake s = .next { s with mgmt := { s.mgmt with requests := rest } }) ∧
    (source.getLsbD 40 = false →
      byteAt header 0 ≠ 1#8 ∨ byteAt header 1 = 1#8 ∧ (byteAt header 4 = 0#8 ∨ 16 < (byteAt header 4).toNat ∨
        ¬ RecordsFit (byteAt header 4).toNat (header.drop 6)) →
      ∃ t, exec .requestTake s = .next t ∧
        (s.tx.queue.length < 64 →
          t.mgmt = { s.mgmt with requests := rest } ∧ t.tx.line = s.tx.line ++ [format]) ∧
        (64 ≤ s.tx.queue.length → t.mgmt = { s.mgmt with held := some format } ∧ t.tx = s.tx) ∧
        SameBut [.mgmt, .tx] s t) ∧
    (source.getLsbD 40 = false → byteAt header 0 = 1#8 → byteAt header 1 = 1#8 → byteAt header 4 ≠ 0#8 →
      (byteAt header 4).toNat ≤ 16 → RecordsFit (byteAt header 4).toNat (header.drop 6) →
      ∃ rs : List CmdRecord, rs.length = (byteAt header 4).toNat ∧ exec .requestTake s = .next { s with mgmt := { s.mgmt with
        active := some { source := source, tag := word16At header 2, todo := rs, results := [] } } })) ∧
  (∀ (s : State) (dest src : Mac) (tag : Word16) (rs : List CmdRecord) (rest : List Packet),
    isGroup src = false → 1 ≤ rs.length → rs.length ≤ 16 → (∀ r ∈ rs, r.body.length < 65536) →
    (s.mgmt.requests = requestPacket dest src tag rs :: rest ∨
      ∃ tci, s.mgmt.requests = taggedRequestPacket dest src tci tag rs :: rest) →
    s.mgmt.active = none → s.mgmt.held = none →
    exec .requestTake s = .next { s with mgmt := { s.mgmt with
      active := some { source := src, tag := tag, todo := rs, results := [] } } }) ∧
  ∀ s : State, (s.mgmt.requests = [] ∨ s.mgmt.active ≠ none ∨ s.mgmt.held ≠ none) →
    exec .requestTake s = .next s

/-- A payload packet of a good report joins the end of the transmitter's line (the packet being sent and those that
wait) and counts on upstream forwarded where it has 64 to 9216 bytes and fewer than 64 packets wait, the one being
sent not counted (notes/assumptions/9.md); else it is dropped and counted on upstream dropped. A TRANSMIT_COMPLETE
takes the packet being sent off the line, and a held response joins its end, its request leaving the queue. A
NOTICE_SEND takes the head notice, with a controller present and the line empty, and sends its packet from the
part's address to the controller; its payload is 46 bytes long where its detail has 34 bytes at most, laid out as
spec/11 states. That these do nothing where there is nothing to send is the model's choice
(notes/assumptions/10.md). -/
def Obligations.TrunkTransmitterServes : Prop :=
  (∀ (s : State) (p : Packet) (ps : List Packet),
    s.forwardPayload [] = s ∧ s.forwardPayload (p :: ps) = (s.forwardPayload [p]).forwardPayload ps ∧
    (64 ≤ p.length → p.length ≤ 9216 → s.tx.queue.length < 64 →
      (s.forwardPayload [p]).tx.line = s.tx.line ++ [p] ∧
      (s.forwardPayload [p]).counters = { s.counters with
        upForwarded := min (s.counters.upForwarded + 1) 4294967295 } ∧
      SameBut [.tx, .counters] s (s.forwardPayload [p])) ∧
    (p.length < 64 ∨ 9216 < p.length ∨ 64 ≤ s.tx.queue.length →
      s.forwardPayload [p] = { s with counters := { s.counters with
        upDropped := min (s.counters.upDropped + 1) 4294967295 } })) ∧
  (∀ (s : State) (p : Packet), s.tx.sending = some p →
    ∃ t, exec .transmitComplete s = .next t ∧
      (s.mgmt.held = none → t.tx.line = s.tx.queue ∧ (s.tx.queue ≠ [] → t.tx.sending = s.tx.queue.head?) ∧
        t.mgmt = s.mgmt) ∧
      (∀ h, s.mgmt.held = some h → s.tx.queue.length ≤ 64 →
        t.tx.line = s.tx.queue ++ [h] ∧
        t.mgmt = { s.mgmt with requests := s.mgmt.requests.tail, held := none }) ∧
      SameBut [.mgmt, .tx] s t) ∧
  (∀ (s : State) (x : Notice) (rest : List Notice) (d : Mac), s.mgmt.notices = x :: rest →
    s.mgmt.controller = some d → s.tx.sending = none → s.tx.queue = [] →
    let (cls, kind, subject, detail) := x.body.laid
    let flags := (if subject.isSome then 1#8 else 0#8) ||| (if x.frame.isSome then 2#8 else 0#8)
    let payload := [1#8, 3#8] ++ be16 x.seq ++ [cls, kind, flags, 0#8] ++ num16 (subject.getD 0) ++
      be16 (x.frame.getD 0) ++ detail ++ List.replicate (34 - detail.length) 0#8
    exec .noticeSend s = .next { s with
      mgmt := { s.mgmt with notices := rest }
      tx := { sending := some (managementPacket d s.setup.address payload), queue := [] } } ∧
      (detail.length ≤ 34 → payload.length = 46)) ∧
  (∀ s : State, s.tx.sending = none → exec .transmitComplete s = .next s) ∧
  ∀ s : State, (s.mgmt.notices = [] ∨ s.mgmt.controller = none ∨ s.tx.line ≠ []) → exec .noticeSend s = .next s

/-- A notice handed to the MAGT sets its class flag, whether or not the class is enabled. Its class enabled and a
controller present, it takes the next sequence number, which advances by one modulo 65536, and joins the tail of the
notice queue with the SLI's current frame number where fewer than 32 notices stand there; at 32 it is discarded and
NOTICE_OVERFLOW set. Otherwise it is discarded and uses no number. Nothing else changes. -/
def Obligations.NoticeIsTaken : Prop :=
  ∀ (s : State) (b : NoticeBody),
    let t := s.raise b
    SameBut [.mgmt] s t ∧ (∀ k, t.mgmt.flags.has k = (s.mgmt.flags.has k || decide (k = b.cls))) ∧
    t.mgmt.requests = s.mgmt.requests ∧ t.mgmt.active = s.mgmt.active ∧ t.mgmt.held = s.mgmt.held ∧
    t.mgmt.controller = s.mgmt.controller ∧ t.mgmt.lastResult = s.mgmt.lastResult ∧
    (s.setup.enable.has b.cls = false ∨ s.mgmt.controller = none →
      t.mgmt.notices = s.mgmt.notices ∧ t.mgmt.seq = s.mgmt.seq ∧ t.mgmt.overflow = s.mgmt.overflow) ∧
    (s.setup.enable.has b.cls = true → s.mgmt.controller ≠ none →
      t.mgmt.seq = s.mgmt.seq + 1 ∧
      (s.mgmt.notices.length < 32 → t.mgmt.overflow = s.mgmt.overflow ∧
        t.mgmt.notices = s.mgmt.notices ++ [{ seq := s.mgmt.seq, frame := s.link.frame, body := b }]) ∧
      (32 ≤ s.mgmt.notices.length → t.mgmt.overflow = true ∧ t.mgmt.notices = s.mgmt.notices))

/-- An UNKNOWN_COMMAND is answered UNKNOWN with an empty result body, and a command record whose body length differs
from the one fixed for its code is answered LENGTH with an empty result body. Neither is executed: only the answer
is taken up. -/
def Obligations.UnknownAndLengthAreAnswered : Prop :=
  (∀ (src : Mac) (code : Byte) (body : List Byte) (s : State),
    exec (.unknownCommand src code body) s =
      .next (s.complete src body { code := code, status := .unknown, body := [] })) ∧
  ∀ (c : Instr) (src : Mac) (code : Byte) (body : List Byte) (n : Nat) (s : State), c.wellFormed = true →
    commandRecord c = some (src, code, body) → fixedLength code = some n → body.length ≠ n →
    exec c s = .next (s.complete src body { code := code, status := .length, body := [] })

/-- The result of a command that is the next one of the request being carried out joins that request's results.
After the last, the response to the request's source with its tag, status OK and the results in order, each with its
code, status code (11.1), length and body, joins the end of the transmitter's line and the request leaves the queue,
or it is held where 64 packets wait apart from the one being sent (notes/assumptions/9.md). The result of another
command joins none. In every case the result is kept as the last one taken, and the flags, notices, sequence number
and controller, and every part of the state but the MAGT and the transmitter, are unchanged. How a command that is
no request's next one is answered is the model's choice (notes/assumptions/7.md). -/
def Obligations.ResultsGatherIntoTheResponse : Prop :=
  ∀ (s : State) (src : Mac) (body : List Byte) (r : CmdResult),
    let t := s.complete src body r
    SameBut [.mgmt, .tx] s t ∧ t.mgmt.lastResult = some r ∧ t.mgmt.flags = s.mgmt.flags ∧
    t.mgmt.notices = s.mgmt.notices ∧ t.mgmt.seq = s.mgmt.seq ∧ t.mgmt.overflow = s.mgmt.overflow ∧
    t.mgmt.controller = s.mgmt.controller ∧
    (∀ a rest, s.mgmt.active = some a → a.source = src →
      a.todo = { code := r.code, body := body } :: rest →
      (rest ≠ [] → t.tx = s.tx ∧ t.mgmt.requests = s.mgmt.requests ∧ t.mgmt.held = s.mgmt.held ∧
        t.mgmt.active = some { a with todo := rest, results := a.results ++ [r] }) ∧
      (rest = [] →
        let response := managementPacket a.source s.setup.address
          ([1#8, 2#8] ++ be16 a.tag ++ [0#8, num8 (a.results.length + 1)] ++
            (a.results ++ [r]).flatMap fun x =>
              [x.code, match x.status with
                | .ok => 0#8 | .clamped => 1#8 | .absent => 2#8 | .busy => 3#8 | .range => 4#8 | .inUse => 5#8
                | .inconsistent => 6#8 | .chainFull => 7#8 | .unknown => 8#8 | .length => 9#8] ++ num16 x.body.length ++ x.body)
        t.mgmt.active = none ∧
        (s.tx.queue.length < 64 → t.tx.line = s.tx.line ++ [response] ∧
          t.mgmt.requests = s.mgmt.requests.tail ∧ t.mgmt.held = none) ∧
        (64 ≤ s.tx.queue.length → t.tx = s.tx ∧ t.mgmt.requests = s.mgmt.requests ∧
          t.mgmt.held = some response))) ∧
    ((∀ a, s.mgmt.active = some a → a.source ≠ src ∨ a.todo.head? ≠ some { code := r.code, body := body }) →
      t = { s with mgmt := { s.mgmt with lastResult := some r } })

/-- PROVISION_TERMINAL with its 12-byte body: a slot that is not ABSENT gives BUSY, else a policy code that names
none gives RANGE, else freeze yes with identity absent gives INCONSISTENT, and nothing else changes. Otherwise the
slot becomes PARKED with identity, freeze and policy as given, a class above 3 set to 3 and a ceiling above 11 set
to 11, the result CLAMPED where either was clamped and OK otherwise; every other field of the record keeps its
value, the source becomes the controller, and nothing else changes. -/
def Obligations.ProvisionParksTheSlot : Prop :=
  ∀ (src : Mac) (body : List Byte) (s : State), body.length = 12 →
    let i := slotAt body 0
    let identity := if bitAt body 1 0 then some (macAt body 2) else none
    let freeze := bitAt body 1 1
    ((s.term i).state ≠ .absent → exec (.provisionTerminal src body) s =
      .next (s.complete src body { code := 0x01#8, status := .busy, body := [] })) ∧
    ((s.term i).state = .absent → byteAt body 9 ≠ 0#8 → byteAt body 9 ≠ 1#8 →
      exec (.provisionTerminal src body) s =
        .next (s.complete src body { code := 0x01#8, status := .range, body := [] })) ∧
    ((s.term i).state = .absent → byteAt body 9 = 0#8 ∨ byteAt body 9 = 1#8 → freeze = true → identity = none →
      exec (.provisionTerminal src body) s =
        .next (s.complete src body { code := 0x01#8, status := .inconsistent, body := [] })) ∧
    ((s.term i).state = .absent → byteAt body 9 = 0#8 ∨ byteAt body 9 = 1#8 → freeze = false ∨ identity ≠ none →
      ∃ u cls ceiling st, exec (.provisionTerminal src body) s =
          .next (u.complete src body { code := 0x01#8, status := st, body := [] }) ∧
        cls.val = min (nat8At body 8) 3 ∧ ceiling.val = min (nat8At body 10) 11 ∧
        (3 < nat8At body 8 ∨ 11 < nat8At body 10 → st = .clamped) ∧
        (nat8At body 8 ≤ 3 → nat8At body 10 ≤ 11 → st = .ok) ∧
        u.term i = { s.term i with
          state := .parked, identity := identity, freeze := freeze, cls := cls, ceiling := ceiling
          policy := if byteAt body 9 = 0#8 then .last else .sectorDefault } ∧
        OtherTerms i s u ∧ u.mgmt = s.mgmt.controlledBy src ∧ SameBut [.terms, .mgmt] s u)

/-- SET_TERMINAL with its 12-byte body: an ABSENT slot gives ABSENT, else an undefined policy RANGE, else freeze
without identity INCONSISTENT. Otherwise identity, freeze, class, policy and ceiling are written, clamped as by
PROVISION_TERMINAL, and the source is the controller. A QUEUED terminal's entry is taken out and placed again under
the new class. A serviced terminal above the new ceiling goes to the highest valid profile not above it with dwell
count 0 and its window restarted. An entry profile above it in the terminal's context is lowered likewise. Every
other field of the record is kept, and where none of the three applies, nothing more changes; but a profile so
lowered has the needs recomputed and flows shed where a load no longer fits, and with a flow shed an IN_SERVICE
terminal becomes RAMPING, its notice behind the flow's CAPACITY notice (notes/assumptions/25.md), and a FADING one's
state before fade RAMPING. That an identity written over a different one raises no notice is the model's choice
(notes/assumptions/29.md). -/
def Obligations.SetTerminalRewrites : Prop :=
  ∀ (src : Mac) (body : List Byte) (s : State), body.length = 12 →
    let i := slotAt body 0
    let identity := if bitAt body 1 0 then some (macAt body 2) else none
    let freeze := bitAt body 1 1
    let named := byteAt body 9 = 0#8 ∨ byteAt body 9 = 1#8
    ((s.term i).state = .absent → exec (.setTerminal src body) s =
      .next (s.complete src body { code := 0x02#8, status := .absent, body := [] })) ∧
    ((s.term i).state ≠ .absent → ¬ named → exec (.setTerminal src body) s =
      .next (s.complete src body { code := 0x02#8, status := .range, body := [] })) ∧
    ((s.term i).state ≠ .absent → named → freeze = true → identity = none → exec (.setTerminal src body) s =
      .next (s.complete src body { code := 0x02#8, status := .inconsistent, body := [] })) ∧
    ((s.term i).state ≠ .absent → named → freeze = false ∨ identity ≠ none →
      ∃ u cls ceiling lowered, exec (.setTerminal src body) s =
          .next (u.complete src body { code := 0x02#8, body := []
                                       status := if 3 < nat8At body 8 ∨ 11 < nat8At body 10 then .clamped else .ok }) ∧
        cls.val = min (nat8At body 8) 3 ∧ ceiling.val = min (nat8At body 10) 11 ∧
        HighestValid s (fun p => p ≤ ceiling) lowered ∧
        (let x : Terminal := { s.term i with
            identity := identity, freeze := freeze, cls := cls, ceiling := ceiling
            policy := if byteAt body 9 = 0#8 then .last else .sectorDefault }
         ((s.term i).state.serviced = false ∨ (∀ p, (s.term i).current = some p → p ≤ ceiling) →
           u.term i = x ∧ OtherTerms i s u ∧ u.mgmt = s.mgmt.controlledBy src ∧
             SameBut [.terms, .reentry, .mgmt] s u) ∧
         ∀ p, (s.term i).state.serviced = true → (s.term i).current = some p → ceiling < p →
           ProfileChanged s u i { x with
             current := some lowered, dwell := 0
             window := { samples := 0, sum := 0, crcBad := 0
                         settling := (s.term i).window.settling, misses := (s.term i).window.misses } }
             (s.mgmt.controlledBy src) u.mgmt) ∧
        ((s.term i).state = .queued →
          PlacedByClass (fun j => (u.term j).cls.val) i (s.reentry.queue.filter fun j => decide (j ≠ i))
            u.reentry.queue) ∧
        ((s.term i).state ≠ .queued → u.reentry.queue = s.reentry.queue) ∧
        (∀ c a, OnlyContext s i c a → OtherContexts c s u ∧ u.ctx c = some { a with
          entryProfile := a.entryProfile.map fun p => if ceiling < p then lowered else p }) ∧
        ((∀ c a, s.ctx c = some a → a.terminal ≠ i) → u.reentry.contexts = s.reentry.contexts) ∧
        u.reentry.credit = s.reentry.credit ∧ u.reentry.grants = s.reentry.grants ∧
        u.mgmt.controller = some src ∧ SameBut [.terms, .flows, .reentry, .ledger, .mgmt] s u)

/-- PARK_TERMINAL with its 2-byte body gives ABSENT for an ABSENT slot, else OK, the source becoming the controller.
A PARKED terminal is unchanged. A DOWN one loses its timer and a QUEUED one its queue entry, and is PARKED. A
RANGING one in a pending stage has its context freed and is PARKED with that outcome; in a waiting stage its
context's park pending is set. A serviced one is PARKED: current profile and state before fade absent, dwell count
0, window cleared, needs 0, its ADMITTED flows WAITING with cause PARKED, joining the Readmission List in chain
order behind their own and better classes, its SHED-policy DOWN queues discarded into their SHED counters and the
free cells, the loads recomputed; outage-seen, outages, failed attempts, resume profile and last result are kept. No
notice is raised and no other terminal changes. -/
def Obligations.ParkTakesTheTerminalOut : Prop :=
  ∀ (src : Mac) (body : List Byte) (s : State), body.length = 2 →
    let i := slotAt body 0
    ((s.term i).state = .absent → exec (.parkTerminal src body) s =
      .next (s.complete src body { code := 0x03#8, status := .absent, body := [] })) ∧
    ((s.term i).state ≠ .absent →
      ∃ u, exec (.parkTerminal src body) s =
          .next (u.complete src body { code := 0x03#8, status := .ok, body := [] }) ∧
        u.mgmt = s.mgmt.controlledBy src ∧ OtherTerms i s u ∧
        ((s.term i).state = .parked → SameBut [.mgmt] s u) ∧
        ((s.term i).state = .down →
          u.term i = { s.term i with state := .parked, timer := none } ∧ SameBut [.terms, .mgmt] s u) ∧
        ((s.term i).state = .queued → u.term i = { s.term i with state := .parked } ∧
          u.reentry = { s.reentry with queue := s.reentry.queue.filter fun j => decide (j ≠ i) } ∧
          SameBut [.terms, .reentry, .mgmt] s u) ∧
        (∀ c a, (s.term i).state = .ranging → OnlyContext s i c a →
          OtherContexts c s u ∧ SameReentryBut s u ∧ SameBut [.terms, .reentry, .mgmt] s u ∧
          (a.stage = .invitePending ∨ a.stage = .provePending → u.ctx c = none ∧
            u.term i = { s.term i with state := .parked, lastOutcome := some .parked }) ∧
          (a.stage = .inviteWait ∨ a.stage = .proveWait → u.ctx c = some { a with parkPending := true } ∧
            u.terms = s.terms)) ∧
        ((s.term i).state.serviced = true →
          u.term i = { s.term i with
            state := .parked, current := none, beforeFade := none, dwell := 0, needUp := 0, needDown := 0
            window := { samples := 0, sum := 0, crcBad := 0, settling := false, misses := 0 } } ∧
          ChainWithdrawn s u i .parked ∧ SameBut [.terms, .flows, .ledger, .buffer, .mgmt] s u))

/-- RELEASE_TERMINAL and DEPROVISION_TERMINAL give ABSENT for an ABSENT slot and BUSY for one neither ABSENT nor
PARKED. A PARKED terminal is released to QUEUED behind every entry of its own and better classes while the sector is
UP, and to DOWN with timer 0, outage-seen and a notice while it is DOWN, its failed attempts field unchanged. A
PARKED terminal with its chain head absent is deprovisioned to the reset value of every field; with flows bound the
result is BUSY. A command taken gives OK and makes its source the controller; nothing else changes. -/
def Obligations.ReleaseAndDeprovision : Prop :=
  ∀ (src : Mac) (body : List Byte) (s : State), body.length = 2 →
    let i := slotAt body 0
    ((s.term i).state = .absent →
      exec (.releaseTerminal src body) s =
          .next (s.complete src body { code := 0x04#8, status := .absent, body := [] }) ∧
        exec (.deprovisionTerminal src body) s =
          .next (s.complete src body { code := 0x05#8, status := .absent, body := [] })) ∧
    ((s.term i).state ≠ .absent → (s.term i).state ≠ .parked →
      exec (.releaseTerminal src body) s =
          .next (s.complete src body { code := 0x04#8, status := .busy, body := [] }) ∧
        exec (.deprovisionTerminal src body) s =
          .next (s.complete src body { code := 0x05#8, status := .busy, body := [] })) ∧
    ((s.term i).state = .parked →
      (s.link.sectorUp = true →
        ∃ u, exec (.releaseTerminal src body) s =
            .next (u.complete src body { code := 0x04#8, status := .ok, body := [] }) ∧
          u.term i = { s.term i with state := .queued, timer := none } ∧ OtherTerms i s u ∧
          PlacedByClass (fun j => (s.term j).cls.val) i s.reentry.queue u.reentry.queue ∧
          u.reentry.contexts = s.reentry.contexts ∧ u.reentry.credit = s.reentry.credit ∧
          u.reentry.grants = s.reentry.grants ∧ u.mgmt = s.mgmt.controlledBy src ∧
          SameBut [.terms, .reentry, .mgmt] s u) ∧
      (s.link.sectorUp = false →
        ∃ u, exec (.releaseTerminal src body) s =
            .next (u.complete src body { code := 0x04#8, status := .ok, body := [] }) ∧
          u.term i = { s.term i with state := .down, timer := some 0, outageSeen := true } ∧ OtherTerms i s u ∧
          u.mgmt = (s.mgmt.controlledBy src).take s.setup.enable s.link.frame (.down i) ∧
          SameBut [.terms, .mgmt] s u) ∧
      ((s.term i).chainHead ≠ none → exec (.deprovisionTerminal src body) s =
        .next (s.complete src body { code := 0x05#8, status := .busy, body := [] })) ∧
      ((s.term i).chainHead = none →
        ∃ u, exec (.deprovisionTerminal src body) s =
            .next (u.complete src body { code := 0x05#8, status := .ok, body := [] }) ∧
          u.term i = {} ∧ OtherTerms i s u ∧ u.mgmt = s.mgmt.controlledBy src ∧ SameBut [.terms, .mgmt] s u))

/-- FORCE_PROFILE with its 2-byte body is refused, changing nothing: ABSENT for an ABSENT slot; else RANGE for a
profile above 11; else BUSY for a terminal not serviced; else RANGE for an invalid profile; else BUSY above the
ceiling; else BUSY for a FADING terminal and a profile other than 0. Otherwise the result is OK, the source the
controller, the current profile the one named, the dwell count 0 and the window restarted, its settling flag and
misses kept. Every other field of the record is kept. Where the profile was already current nothing else changes;
where it was not, the needs are recomputed and flows are shed where a load no longer fits, and an IN_SERVICE
terminal with a flow shed becomes RAMPING, its notice behind the flow's CAPACITY notice (notes/assumptions/25.md).
-/
def Obligations.ForceProfileSetsTheProfile : Prop :=
  ∀ (src : Mac) (body : List Byte) (s : State), body.length = 2 →
    let i := slotAt body 0
    let refused (st : Status) : Prop := exec (.forceProfile src body) s =
      .next (s.complete src body { code := 0x06#8, status := st, body := [] })
    ((s.term i).state = .absent → refused .absent) ∧
    ((s.term i).state ≠ .absent → 11 < nat8At body 1 → refused .range) ∧
    ∀ p : ProfIdx, p.val = nat8At body 1 → (s.term i).state ≠ .absent →
      ((s.term i).state.serviced = false → refused .busy) ∧
      ((s.term i).state.serviced = true →
        ((s.profile p).valid = false → refused .range) ∧
        ((s.profile p).valid = true →
          ((s.term i).ceiling < p → refused .busy) ∧
          (p ≤ (s.term i).ceiling → (s.term i).state = .fading → p ≠ 0 → refused .busy) ∧
          (p ≤ (s.term i).ceiling → (s.term i).state ≠ .fading ∨ p = 0 →
            let x := { s.term i with
              current := some p, dwell := 0
              window := { samples := 0, sum := 0, crcBad := 0
                          settling := (s.term i).window.settling, misses := (s.term i).window.misses } }
            ∃ u, exec (.forceProfile src body) s =
                .next (u.complete src body { code := 0x06#8, status := .ok, body := [] }) ∧
              ((s.term i).current ≠ some p → ProfileChanged s u i x (s.mgmt.controlledBy src) u.mgmt) ∧
              ((s.term i).current = some p → u.term i = x ∧ OtherTerms i s u ∧
                u.mgmt = s.mgmt.controlledBy src ∧ SameBut [.terms, .mgmt] s u) ∧
              u.mgmt.controller = some src ∧ SameBut [.terms, .flows, .ledger, .mgmt] s u)))

/-- Take a FORCE_PROFILE that changes a serviced terminal's profile, or any command after which a terminal is
serviced at a profile it did not have before (a step or a fade report on a window or a miss, a lowered ceiling, a
forced profile, an entry to service), in a state whose terminals each hold needs no smaller than R107 prices their
ADMITTED flows at. After it each direction's load is within its capacity (U - 4 x R_s upstream, D downstream), or no
flow of that direction is ADMITTED. No flow became ADMITTED, every flow that left ADMITTED is WAITING with cause
SHED, credit 0 and no marker, its queue kept, and each such flow goes before every flow of its direction that stayed
ADMITTED by class, then by lowest current profile of its terminal, then by highest index. With the chains and the
needs sound, no flow was shed once the load fitted: with the last one shed of a direction counted again, that
direction's load exceeds its capacity. After any such command, whatever the needs were, each flow shed, in the order
of shedding, has joined the Readmission List behind its own and better classes and raised its CAPACITY notice, with
the load after the shed where chains, needs and loads were sound, and then its terminal's RAMPING one
(notes/assumptions/25.md); only an entry to service raises RAMPING before these and may raise IN_SERVICE after. A
serviced terminal's needs are R107's: M, or above it H + ceil(64 x the sum of CB / d) upstream, and the same without
M downstream; an unserviced one's are 0. -/
def Obligations.SheddingEndsWhereTheLoadFits : Prop :=
  (∀ (s : State) (i : Slot) (extra : List FlowIdx),
    let rate (x : Direction) : Nat := (((s.chain i).filter fun f => decide ((s.flow f).dir = x ∧
      ((s.flow f).state = .admitted ∨ f ∈ extra))).map fun f => (s.flow f).cb).sum
    ((s.term i).state.serviced = false → ∀ x, s.needWith i x extra = 0) ∧
    ∀ p, (s.term i).state.serviced = true → (s.term i).current = some p →
      let cost (n : Nat) : Nat := (s.profile p).overhead + (64 * n + ((s.profile p).density - 1)) / (s.profile p).density
      s.needWith i .up extra = (if rate .up = 0 then s.setup.m else max s.setup.m (cost (rate .up))) ∧
      s.needWith i .down extra = if rate .down = 0 then 0 else cost (rate .down)) ∧
  (∀ (src : Mac) (body : List Byte) (s : State) (p : ProfIdx), body.length = 2 → p.val = nat8At body 1 →
    let i := slotAt body 0
    (s.term i).state.serviced = true → (s.profile p).valid = true → p ≤ (s.term i).ceiling →
    ((s.term i).state = .fading → p = 0) → (s.term i).current ≠ some p →
    (∀ j x, s.needWith j x [] ≤ (s.term j).need x) →
    ∃ u : State, exec (.forceProfile src body) s =
        .next (u.complete src body { code := 0x06#8, status := .ok, body := [] }) ∧
      (u.ledger.loadUp ≤ s.setup.u - 4 * s.setup.rs ∨
        ∀ f, (s.flow f).dir = .up → (u.flow f).state ≠ .admitted) ∧
      (u.ledger.loadDown ≤ s.setup.d ∨ ∀ f, (s.flow f).dir = .down → (u.flow f).state ≠ .admitted) ∧
      (∀ f, u.flow f = s.flow f ∨ (s.flow f).state = .admitted ∧
        u.flow f = { s.flow f with state := .waiting .shed, credit := 0, marker := none }) ∧
      ∀ f g, (s.flow f).state = .admitted → (u.flow f).state ≠ .admitted → (u.flow g).state = .admitted →
        (s.flow f).dir = (s.flow g).dir →
        let profile (h : FlowIdx) : Nat :=
          (((s.flow h).bound.bind fun j => (u.term j).current).map Fin.val).getD 0
        (s.flow g).cls < (s.flow f).cls ∨ (s.flow f).cls = (s.flow g).cls ∧
          (profile f < profile g ∨ profile f = profile g ∧ g < f)) ∧
  ∀ (c : Instr) (i : Slot) (s t : State), exec c s = .next t →
    (t.term i).state.serviced = true → (t.term i).current ≠ (s.term i).current →
    ((∀ j x, s.needWith j x [] ≤ (s.term j).need x) →
      ShedToFit s t ∧ (ChainsSound s → NeedsSound s → ShedNoMore s t)) ∧
    ∃ m m', (m = s.mgmt ∨ (∃ src, m = s.mgmt.controlledBy src) ∨ m = s.notified (.ramping i)) ∧
      ShedTold s t m m' ∧
      (SameNotices m' t.mgmt ∨ SameNotices (m'.take s.setup.enable s.link.frame (.inService i)) t.mgmt)

/-- WRITE_PROFILE: an index above 11 gives RANGE; a profile that is some terminal's current profile or some
context's entry profile gives IN_USE; an entry threshold, clamped, not above the exit threshold, clamped, gives
INCONSISTENT; otherwise the five fields are written, clamped to their ranges, and the entry is valid, the result
CLAMPED or OK. INVALIDATE_PROFILE: an index above 11 gives RANGE; index 0 or the default profile gives BUSY; a
profile in use gives IN_USE; otherwise the valid flag is no, the other fields kept, the result OK. A command taken
makes its source the controller; nothing else changes. -/
def Obligations.ProfileTableIsEdited : Prop :=
  ∀ (src : Mac) (body : List Byte) (s : State),
    let inUse (p : ProfIdx) : Prop :=
      (∃ i, (s.term i).current = some p) ∨ ∃ c a, s.ctx c = some a ∧ a.entryProfile = some p
    let others (p : ProfIdx) (u : State) : Prop :=
      (∀ q, q ≠ p → u.profile q = s.profile q) ∧ u.mgmt = s.mgmt.controlledBy src ∧ SameBut [.profiles, .mgmt] s u
    (body.length = 10 →
      let refused (st : Status) : Prop := exec (.writeProfile src body) s =
        .next (s.complete src body { code := 0x10#8, status := st, body := [] })
      let entry := min 500 (nat16At body 6)
      let exit := min 500 (nat16At body 8)
      (11 < nat8At body 0 → refused .range) ∧
      ∀ p : ProfIdx, p.val = nat8At body 0 →
        (inUse p → refused .inUse) ∧ (¬ inUse p → entry ≤ exit → refused .inconsistent) ∧
        (¬ inUse p → exit < entry →
          ∃ u st, exec (.writeProfile src body) s =
              .next (u.complete src body { code := 0x10#8, status := st, body := [] }) ∧
            u.profile p =
              { valid := true
                density := min 80 (max 4 (nat8At body 2)), dwell := min 15 (max 1 (nat8At body 3))
                overhead := min 1023 (max 8 (nat16At body 4)), entry := entry, exit := exit } ∧
            (st = .ok ↔ 4 ≤ nat8At body 2 ∧ nat8At body 2 ≤ 80 ∧ 1 ≤ nat8At body 3 ∧ nat8At body 3 ≤ 15 ∧
              8 ≤ nat16At body 4 ∧ nat16At body 4 ≤ 1023 ∧ nat16At body 6 ≤ 500 ∧ nat16At body 8 ≤ 500) ∧
            (st ≠ .ok → st = .clamped) ∧ others p u)) ∧
    (body.length = 2 →
      let refused (st : Status) : Prop := exec (.invalidateProfile src body) s =
        .next (s.complete src body { code := 0x11#8, status := st, body := [] })
      (11 < nat8At body 0 → refused .range) ∧
      ∀ p : ProfIdx, p.val = nat8At body 0 →
        (p = 0 ∨ p = s.setup.defaultProfile → refused .busy) ∧
        (p ≠ 0 → p ≠ s.setup.defaultProfile → inUse p → refused .inUse) ∧
        (p ≠ 0 → p ≠ s.setup.defaultProfile → ¬ inUse p →
          ∃ u, exec (.invalidateProfile src body) s =
              .next (u.complete src body { code := 0x11#8, status := .ok, body := [] }) ∧
            u.profile p = { s.profile p with valid := false } ∧ others p u))

/-- SET_FLOW with its 16-byte body: an index above 1023, or a direction or policy code that names none, gives RANGE;
then a present ABSENT terminal ABSENT; then a flow not DISABLED whose terminal, direction or class would change
BUSY; then a binding to another terminal whose chain holds 16 flows CHAIN_FULL. Otherwise the fields are written,
clamped, the result CLAMPED or OK and the source the controller. An ADMITTED flow whose CB changes becomes WAITING
with cause NEW, credit 0 and no marker, is listed behind its own and better classes, and its terminal's needs and
the loads are recomputed, an IN_SERVICE terminal becoming RAMPING and a FADING one's state before fade RAMPING; any
other state is kept. A lowered limit then (in this order: notes/assumptions/14.md) leaves the longest head part of
the queue whose cells fit it, and every packet where all fit; each packet discarded raises the FULL counter and
frees its cells, and one that a marker counts lowers it, DRAINED raised where it ends. After a binding, a move in a
chain or a CB change of a bound flow (notes/assumptions/15.md), every RAMPING terminal without a WAITING flow
becomes IN_SERVICE, its notices in slot order (notes/assumptions/12.md); no other terminal's state changes. An
unbound flow joins its terminal's chain at its place by class and index. With the chains sound, a flow rebound
leaves the old terminal's chain and joins the new one's, one whose class changes moves in its chain, every chain
stands by class and index, and the other flows keep their chains and their order. No other flow changes but in its
chain link. -/
def Obligations.SetFlowWritesTheFlow : Prop :=
  ∀ (src : Mac) (body : List Byte) (s : State), body.length = 16 →
    let refused (st : Status) : Prop := exec (.setFlow src body) s =
      .next (s.complete src body { code := 0x20#8, status := st, body := [] })
    let named := (byteAt body 4 = 0#8 ∨ byteAt body 4 = 1#8) ∧ (byteAt body 6 = 0#8 ∨ byteAt body 6 = 1#8)
    (1023 < nat16At body 0 ∨ ¬ named → refused .range) ∧
    ∀ (f : FlowIdx) (dir : Direction) (cls : Fin 8), f.val = nat16At body 0 → named →
      (dir = .down ↔ byteAt body 4 = 0#8) → cls.val = min 7 (nat8At body 5) →
      let x := s.flow f
      let given := bitAt body 2 0
      let i := slotAt body 3
      let cb := min 16383 (nat16At body 8)
      let limit := min 4096 (max 1 (nat16At body 12))
      (given = true → (s.term i).state = .absent → refused .absent) ∧
      (given = false ∨ (s.term i).state ≠ .absent →
        let rebinds := given = true ∧ x.bound ≠ some i
        (x.state ≠ .disabled → rebinds ∨ x.dir ≠ dir ∨ x.cls ≠ cls → refused .busy) ∧
        (x.state = .disabled ∨ ¬ rebinds ∧ x.dir = dir ∧ x.cls = cls →
          (rebinds → 16 ≤ (s.chain i).length → refused .chainFull) ∧
          (¬ rebinds ∨ (s.chain i).length < 16 →
            ∃ u st, exec (.setFlow src body) s =
                .next (u.complete src body { code := 0x20#8, status := st, body := [] }) ∧
              (u.flow f).dir = dir ∧ (u.flow f).cls = cls ∧ (u.flow f).cb = cb ∧
              (u.flow f).pb = min 16383 (max cb (nat16At body 10)) ∧
              (u.flow f).policy = (if byteAt body 6 = 0#8 then .hold else .shed) ∧
              (u.flow f).limit = limit ∧ (u.flow f).holdAge = min 32767 (max 1 (nat16At body 14)) ∧
              (u.flow f).bound = (if given then some i else x.bound) ∧
              (u.flow f).state = (if x.state = .admitted ∧ cb ≠ x.cb then .waiting .new else x.state) ∧
              (u.flow f).queue <+: x.queue ∧ (x.limit ≤ limit ∨ x.cellsHeld ≤ limit → (u.flow f).queue = x.queue) ∧
              (limit < x.limit → (u.flow f).cellsHeld ≤ limit) ∧
              (let left := (u.flow f).queue.length
                let withdrawn := x.state = .admitted ∧ cb ≠ x.cb
                let counted (m : Marker) : Nat := min x.queue.length m.remaining - min left m.remaining
                (left < x.queue.length →
                  limit < ((x.queue.take (left + 1)).map fun e => (e.bytes.length + 255) / 256).sum) ∧
                (u.flow f).counters = (if left = x.queue.length then x.counters else
                  { x.counters with full := min (x.counters.full + (x.queue.length - left)) 4294967295 }) ∧
                u.buffer = { s.buffer with
                  freeCells := s.buffer.freeCells + (x.cellsHeld - (u.flow f).cellsHeld) } ∧
                (u.flow f).credit = (if withdrawn then 0 else x.credit) ∧
                (u.flow f).marker = (if withdrawn then none else x.marker.bind fun m =>
                  if counted m = 0 then some m else if counted m = m.remaining then none else
                    some { m with remaining := m.remaining - counted m, discarded := m.discarded + counted m }) ∧
                (withdrawn → PlacedByClass (fun g => (s.flow g).cls.val) f s.ledger.list u.ledger.list) ∧
                (¬ withdrawn → u.ledger.list = s.ledger.list) ∧
                Repriced s u (if withdrawn then x.bound else none) ∧
                (∀ j, u.term j = { s.term j with
                  state := (u.term j).state, chainHead := (u.term j).chainHead
                  beforeFade := if withdrawn ∧ x.bound = some j ∧ (s.term j).state = .fading then some .ramping
                    else (s.term j).beforeFade
                  needUp := (u.term j).needUp, needDown := (u.term j).needDown }) ∧
                let after (j : Slot) : TermState :=
                  if withdrawn ∧ x.bound = some j ∧ (s.term j).state = .inService then .ramping else (s.term j).state
                let noted (m : Management) (b : NoticeBody) : Management := m.take s.setup.enable s.link.frame b
                let told : Management :=
                  if withdrawn then match x.bound with
                    | some j => if (s.term j).state = .inService then noted (s.mgmt.controlledBy src) (.ramping j)
                      else s.mgmt.controlledBy src
                    | none => s.mgmt.controlledBy src
                  else match x.marker with
                    | some m => if counted m ≠ 0 ∧ counted m = m.remaining then
                        noted (s.mgmt.controlledBy src)
                          (.drained f (u.flow f).bound m.released (m.discarded + counted m))
                      else s.mgmt.controlledBy src
                    | none => s.mgmt.controlledBy src
                (rebinds ∨ x.bound ≠ none ∧ (cls ≠ x.cls ∨ cb ≠ x.cb) → Reported s u after told) ∧
                (¬ (rebinds ∨ x.bound ≠ none ∧ (cls ≠ x.cls ∨ cb ≠ x.cb)) →
                  u.mgmt = told ∧ ∀ j, (u.term j).state = after j)) ∧
              (st = .ok ↔ nat8At body 5 ≤ 7 ∧ nat16At body 8 ≤ 16383 ∧ cb ≤ nat16At body 10 ∧
                nat16At body 10 ≤ 16383 ∧ 1 ≤ nat16At body 12 ∧ nat16At body 12 ≤ 4096 ∧
                1 ≤ nat16At body 14 ∧ nat16At body 14 ≤ 32767) ∧
              (st ≠ .ok → st = .clamped) ∧
              (x.bound = none → given = true → f ∉ s.chain i → (s.chain i).Nodup →
                ∃ a b, s.chain i = a ++ b ∧ u.chain i = a ++ f :: b ∧
                  (∀ g ∈ a, (s.flow g).cls < cls ∨ (s.flow g).cls = cls ∧ g < f) ∧
                  ∀ g, b.head? = some g → cls < (s.flow g).cls ∨ (s.flow g).cls = cls ∧ f ≤ g) ∧
              (ChainsSound s → ∀ j,
                (u.chain j).filter (fun g => decide (g ≠ f)) = (s.chain j).filter (fun g => decide (g ≠ f)) ∧
                (f ∈ u.chain j ↔ (if given then some i else x.bound) = some j) ∧
                (u.chain j).Pairwise (ChainOrder u)) ∧
              (∀ g, g ≠ f → u.flow g = { s.flow g with chainNext := (u.flow g).chainNext }) ∧
              u.mgmt.controller = some src ∧
              SameBut [.terms, .flows, .ledger, .buffer, .mgmt] s u)))

/-- Each with its 2-byte body gives RANGE for an index above 1023. UNBIND_FLOW gives BUSY for a flow not DISABLED,
leaves an unbound one as it is, and unlinks a bound one, the rest of the chain keeping its order. ENABLE_FLOW gives
ABSENT for an unbound flow, leaves one not DISABLED as it is, and makes a DISABLED one WAITING with cause NEW,
listed behind its own and better classes, an IN_SERVICE terminal becoming RAMPING and a FADING one's state before
fade RAMPING. DISABLE_FLOW leaves a DISABLED flow as it is, and makes another DISABLED, credit 0, no marker, its
queue flushed packet by packet into its FLUSH counter and the free cells, and out of the Readmission List, the needs
and loads recomputed where it was ADMITTED. Where it changed a flow, a command ends with the report: every RAMPING
terminal without a WAITING flow becomes IN_SERVICE, with its notice (notes/assumptions/12.md), and no other
terminal's state changes. A command taken gives OK and makes its source the controller. No other flow changes but in
its chain link. -/
def Obligations.FlowIsUnboundEnabledDisabled : Prop :=
  ∀ (src : Mac) (body : List Byte) (s : State), body.length = 2 →
    let answered (u : State) (code : Byte) (st : Status) : State :=
      u.complete src body { code := code, status := st, body := [] }
    let taken : State := { s with mgmt := s.mgmt.controlledBy src }
    (1023 < nat16At body 0 →
      exec (.unbindFlow src body) s = .next (answered s 0x21#8 .range) ∧
        exec (.enableFlow src body) s = .next (answered s 0x22#8 .range) ∧
        exec (.disableFlow src body) s = .next (answered s 0x23#8 .range)) ∧
    ∀ f : FlowIdx, f.val = nat16At body 0 →
      let x := s.flow f
      (x.state ≠ .disabled → exec (.unbindFlow src body) s = .next (answered s 0x21#8 .busy)) ∧
      (x.state = .disabled → x.bound = none → exec (.unbindFlow src body) s = .next (answered taken 0x21#8 .ok)) ∧
      (∀ i, x.state = .disabled → x.bound = some i →
        ∃ u, exec (.unbindFlow src body) s = .next (answered u 0x21#8 .ok) ∧
          u.flow f = { x with bound := none, chainNext := none } ∧
          ((s.chain i).Nodup → u.chain i = (s.chain i).filter fun g => decide (g ≠ f)) ∧
          (∀ g, g ≠ f → u.flow g = { s.flow g with chainNext := (u.flow g).chainNext }) ∧
          (∀ j, u.term j = { s.term j with state := (u.term j).state, chainHead := (u.term j).chainHead }) ∧
          Reported s u (fun j => (s.term j).state) (s.mgmt.controlledBy src) ∧
          u.mgmt.controller = some src ∧ SameBut [.terms, .flows, .mgmt] s u) ∧
      (x.bound = none → exec (.enableFlow src body) s = .next (answered s 0x22#8 .absent)) ∧
      (∀ i, x.bound = some i →
        (x.state ≠ .disabled → exec (.enableFlow src body) s = .next (answered taken 0x22#8 .ok)) ∧
        (x.state = .disabled →
          ∃ u, exec (.enableFlow src body) s = .next (answered u 0x22#8 .ok) ∧
            u.flow f = { x with state := .waiting .new } ∧ OtherFlows f s u ∧
            PlacedByClass (fun g => (s.flow g).cls.val) f s.ledger.list u.ledger.list ∧
            u.ledger.loadUp = s.ledger.loadUp ∧ u.ledger.loadDown = s.ledger.loadDown ∧
            (f ∈ s.chain i → (s.term i).state = .inService → (u.term i).state = .ramping) ∧
            ((s.term i).state = .fading → u.term i = { s.term i with beforeFade := some .ramping }) ∧
            (∀ j, u.term j = { s.term j with
              state := (u.term j).state
              beforeFade := if j = i ∧ (s.term j).state = .fading then some .ramping else (s.term j).beforeFade }) ∧
            Reported s u (fun j => if j = i ∧ (s.term j).state = .inService then .ramping else (s.term j).state)
              (if (s.term i).state = .inService then
                (s.mgmt.controlledBy src).take s.setup.enable s.link.frame (.ramping i)
              else s.mgmt.controlledBy src) ∧
            u.mgmt.controller = some src ∧ SameBut [.terms, .flows, .ledger, .mgmt] s u)) ∧
      (x.state = .disabled → exec (.disableFlow src body) s = .next (answered taken 0x23#8 .ok)) ∧
      (x.state ≠ .disabled →
        ∃ u, exec (.disableFlow src body) s = .next (answered u 0x23#8 .ok) ∧
          u.flow f = { x with
            state := .disabled, credit := 0, marker := none, queue := []
            counters := { x.counters with flush := min (x.counters.flush + x.queue.length) 4294967295 } } ∧
          OtherFlows f s u ∧
          u.buffer = { s.buffer with freeCells := s.buffer.freeCells + x.cellsHeld } ∧
          (x.state.isWaiting = true → u.ledger = { s.ledger with
            list := s.ledger.list.filter fun g => decide (g ≠ f) }) ∧
          (x.state = .admitted → u.ledger.list = s.ledger.list) ∧
          Repriced s u (if x.state = .admitted then x.bound else none) ∧
          (∀ j, u.term j = { s.term j with
            state := (u.term j).state, needUp := (u.term j).needUp, needDown := (u.term j).needDown }) ∧
          Reported s u (fun j => (s.term j).state) (s.mgmt.controlledBy src) ∧
          u.mgmt.controller = some src ∧ SameBut [.terms, .flows, .ledger, .buffer, .mgmt] s u)

/-- MAP_TAGS with its 6-byte body: a base above 4095 gives RANGE, else a present target above 1023 RANGE, else a
present target that is not bound ABSENT. Otherwise, with k above 8 taken as 8 and the result CLAMPED, and else OK,
every tag of the 2^k tags from the base less its remainder on division by 2^k, except 0 and 4095, is mapped to the
target, every other tag keeps its entry, and the result body carries the aligned base and the number of entries
written. The source becomes the controller, and nothing else changes. -/
def Obligations.MapTagsWritesTheBlock : Prop :=
  ∀ (src : Mac) (body : List Byte) (s : State), body.length = 6 →
    let refused (st : Status) : Prop := exec (.mapTags src body) s =
      .next (s.complete src body { code := 0x24#8, status := st, body := [] })
    let base := nat16At body 0
    let k := min 8 (nat8At body 2)
    let given := bitAt body 3 0
    let low := base - base % 2 ^ k
    (4095 < base → refused .range) ∧
    (base ≤ 4095 → given = true → 1023 < nat16At body 4 → refused .range) ∧
    (∀ f : FlowIdx, base ≤ 4095 → given = true → f.val = nat16At body 4 → (s.flow f).bound = none →
      refused .absent) ∧
    ∀ target : Option FlowIdx, base ≤ 4095 →
      (given = false ∧ target = none ∨
        ∃ f, given = true ∧ target = some f ∧ f.val = nat16At body 4 ∧ (s.flow f).bound ≠ none) →
      ∃ u, exec (.mapTags src body) s =
          .next (u.complete src body
            { code := 0x24#8, status := if 8 < nat8At body 2 then .clamped else .ok
              body := num16 low ++
                num16 (2 ^ k - (if low = 0 then 1 else 0) - (if low + 2 ^ k = 4096 then 1 else 0)) }) ∧
        (∀ v : Tag, low ≤ v.val → v.val < low + 2 ^ k → v ≠ 0 → v ≠ 4095 → u.tags.get v = target) ∧
        (∀ v : Tag, v.val < low ∨ low + 2 ^ k ≤ v.val ∨ v = 0 ∨ v = 4095 → u.tags.get v = s.tags.get v) ∧
        u.mgmt = s.mgmt.controlledBy src ∧ SameBut [.tags, .mgmt] s u

/-- SET_SECTOR with its 34-byte body: a present default profile above 11 or present part address with the group bit
set gives RANGE; then fields that would leave U < 256 x M + 4 x R_s, RANGE; then a present default profile whose
entry is invalid, RANGE. Otherwise each field present in the mask is written, a numeric one clamped to its range,
and each absent one kept; an M_o given or held, not above the M_f the command leaves, is M_f + 1 where either is
given. The result is CLAMPED where a value was changed so and OK otherwise; the source is the controller. Where w,
U, R_s, M and D stay as they were nothing else changes; where only w of these changes, every window is restarted
besides. Where U, R_s, M or D changes, flows are shed by the keys of R111 until each load fits its new capacity, in
a state whose needs are no smaller than R107 prices; in any state each flow shed joins the Readmission List and
raises its CAPACITY notice and then its terminal's RAMPING one, in the order of shedding (notes/assumptions/25.md),
and no other field of a terminal changes than its needs, recomputed where M changes or a flow of its is shed, the
state (IN_SERVICE to RAMPING) or state before fade of one with a flow shed, and the windows, restarted where w
changes. With the chains and the ledger sound, the needs are those of the new M, the loads their sums and within
capacity, and no flow was shed once the load fitted. -/
def Obligations.SetSectorWritesTheSetup : Prop :=
  ∀ (src : Mac) (body : List Byte) (s : State), body.length = 34 →
    let c := s.setup
    let here (bit : Nat) : Bool := (word32At body 0).getLsbD bit
    let refused : Prop := exec (.setSector src body) s =
      .next (s.complete src body { code := 0x30#8, status := .range, body := [] })
    let mf := setupField (here 7) 1 15 (nat8At body 14) c.mf
    let mo := if here 8 then nat8At body 15 else c.mo
    let raised : Prop := (here 7 = true ∨ here 8 = true) ∧ mo ≤ mf
    let u' := setupField (here 0) 1024 65535 (nat16At body 4) c.u
    let rs := setupField (here 2) 64 1024 (nat16At body 8) c.rs
    let m := setupField (here 3) 8 64 (nat8At body 10) c.m
    let misnamed := here 16 = true ∧ 11 < nat8At body 26 ∨ here 18 = true ∧ (macAt body 28).getLsbD 40 = true
    (misnamed → refused) ∧
    (¬ misnamed → u' < 256 * m + 4 * rs → refused) ∧
    (∀ p : ProfIdx, ¬ misnamed → 256 * m + 4 * rs ≤ u' → here 16 = true → p.val = nat8At body 26 →
      (s.profile p).valid = false → refused) ∧
    ∀ p : ProfIdx, ¬ misnamed → 256 * m + 4 * rs ≤ u' →
      (here 16 = false ∧ p = c.defaultProfile ∨ here 16 = true ∧ p.val = nat8At body 26 ∧ (s.profile p).valid = true) →
      ∃ v st, exec (.setSector src body) s =
          .next (v.complete src body { code := 0x30#8, status := st, body := [] }) ∧
        v.setup.u = u' ∧ v.setup.d = setupField (here 1) 1024 65535 (nat16At body 6) c.d ∧ v.setup.rs = rs ∧
        v.setup.m = m ∧ v.setup.a = setupField (here 4) 50 100 (nat8At body 11) c.a ∧
        v.setup.w = setupField (here 5) 2 5 (nat8At body 12) c.w ∧
        v.setup.eMax = setupField (here 6) 0 32 (nat8At body 13) c.eMax ∧ v.setup.mf = mf ∧
        (raised → v.setup.mo = mf + 1) ∧ (¬ raised → v.setup.mo = mo) ∧
        v.setup.settle = setupField (here 9) 0 4095 (nat16At body 16) c.settle ∧
        v.setup.backoff = setupField (here 10) 1 255 (nat8At body 19) c.backoff ∧
        v.setup.pacer = setupField (here 11) 1 256 (nat16At body 20) c.pacer ∧
        v.setup.rMax = setupField (here 12) 1 16 (nat8At body 22) c.rMax ∧
        v.setup.tr = setupField (here 13) 1 63 (nat8At body 23) c.tr ∧
        v.setup.timingWindow = setupField (here 14) 1 255 (nat8At body 24) c.timingWindow ∧
        v.setup.powerWindow = setupField (here 15) 1 63 (nat8At body 25) c.powerWindow ∧
        v.setup.defaultProfile = p ∧ (here 17 = false → v.setup.enable = c.enable) ∧
        (here 17 = true → v.setup.enable =
          { terminal := bitAt body 27 0, attempt := bitAt body 27 1, capacity := bitAt body 27 2
            backlog := bitAt body 27 3, sector := bitAt body 27 4 }) ∧
        v.setup.address = (if here 18 then macAt body 28 else c.address) ∧
        (st = .clamped ↔ raised ∨ OutOfRange (here 0) 1024 65535 (nat16At body 4) ∨
          OutOfRange (here 1) 1024 65535 (nat16At body 6) ∨ OutOfRange (here 2) 64 1024 (nat16At body 8) ∨
          OutOfRange (here 3) 8 64 (nat8At body 10) ∨ OutOfRange (here 4) 50 100 (nat8At body 11) ∨
          OutOfRange (here 5) 2 5 (nat8At body 12) ∨ OutOfRange (here 6) 0 32 (nat8At body 13) ∨
          OutOfRange (here 7) 1 15 (nat8At body 14) ∨ OutOfRange (here 9) 0 4095 (nat16At body 16) ∨
          OutOfRange (here 10) 1 255 (nat8At body 19) ∨ OutOfRange (here 11) 1 256 (nat16At body 20) ∨
          OutOfRange (here 12) 1 16 (nat8At body 22) ∨ OutOfRange (here 13) 1 63 (nat8At body 23) ∨
          OutOfRange (here 14) 1 255 (nat8At body 24) ∨ OutOfRange (here 15) 1 63 (nat8At body 25)) ∧
        (st ≠ .clamped → st = .ok) ∧ v.mgmt.controller = some src ∧
        (v.setup.u = c.u → v.setup.rs = c.rs → v.setup.m = c.m → v.setup.d = c.d →
          v.mgmt = s.mgmt.controlledBy src ∧ SameBut [.setup, .terms, .mgmt] s v ∧
          ∀ i, v.term i = { s.term i with
            window := if v.setup.w = c.w then (s.term i).window
              else { (s.term i).window with samples := 0, sum := 0, crcBad := 0 } }) ∧
        (v.setup.u ≠ c.u ∨ v.setup.rs ≠ c.rs ∨ v.setup.m ≠ c.m ∨ v.setup.d ≠ c.d →
          Shedding s v (fun i => { s.term i with
              window := if v.setup.w = c.w then (s.term i).window
                else { (s.term i).window with samples := 0, sum := 0, crcBad := 0 } })
            (fun i => v.setup.m ≠ c.m ∧ (s.term i).state.serviced = true) (s.mgmt.controlledBy src) v.mgmt ∧
          ((∀ j x, s.needWith j x [] ≤ (s.term j).need x) → ShedToFit s v)) ∧
        (ChainsSound s → LedgerSound s → LedgerSound v ∧ ShedNoMore s v) ∧
        SameBut [.setup, .terms, .flows, .ledger, .mgmt] s v

/-- RESTART_SECTOR makes its source the controller. Every terminal neither ABSENT nor PARKED is DOWN with timer
settle and outage-seen set, one that was serviced with its outages up by one, but a RANGING one with park pending is
PARKED; each attempt so ended has its outcome recorded. A serviced terminal's current profile, state before fade and
dwell count are cleared; every window is cleared and every need 0; the rest of each record is kept. The queue is
empty, every context free, the credit 0, the loads 0, every queue flushed into its FLUSH counter, every cell free,
every credit 0 and marker absent. Every enabled flow is WAITING with cause OUTAGE and listed in class order and,
within a class, in index order. The notices are RESTART, then DOWN of each terminal placed in DOWN, in slot order.
That an attempt ended by the restart records its outcome is read from R75 and R82 against R22
(notes/assumptions/16.md). -/
def Obligations.RestartPlacesEveryTerminal : Prop :=
  ∀ (src : Mac) (s : State), ∃ u, exec (.restartSector src []) s =
      .next (u.complete src [] { code := 0x31#8, status := .ok, body := [] }) ∧
    (∀ i, (s.term i).state = .absent ∨ (s.term i).state = .parked →
      u.term i = { s.term i with
        needUp := 0, needDown := 0
        window := { samples := 0, sum := 0, crcBad := 0, settling := false, misses := 0 } }) ∧
    (∀ i, (s.term i).state = .queued ∨ (s.term i).state = .down →
      u.term i = { s.term i with
        state := .down, timer := some s.setup.settle, outageSeen := true, needUp := 0, needDown := 0
        window := { samples := 0, sum := 0, crcBad := 0, settling := false, misses := 0 } }) ∧
    (∀ i, (s.term i).state.serviced = true →
      u.term i = { s.term i with
        state := .down, timer := some s.setup.settle, outageSeen := true, current := none, beforeFade := none
        dwell := 0, needUp := 0, needDown := 0
        window := { samples := 0, sum := 0, crcBad := 0, settling := false, misses := 0 }
        counters := { (s.term i).counters with
          outages := min ((s.term i).counters.outages + 1) 4294967295 } }) ∧
    (∀ i c a, (s.term i).state = .ranging → OnlyContext s i c a →
      let x : Terminal := { s.term i with
        needUp := 0, needDown := 0
        window := { samples := 0, sum := 0, crcBad := 0, settling := false, misses := 0 } }
      u.term i =
        if a.parkPending then { x with state := .parked, lastOutcome := some .parked }
        else { x with
          state := .down, timer := some s.setup.settle, outageSeen := true, lastOutcome := some .sectorLost }) ∧
    (∀ f, ∃ m, u.flow f = { s.flow f with
      state := if (s.flow f).state = .disabled then .disabled else .waiting .outage
      queue := [], credit := 0, marker := none
      counters := { (s.flow f).counters with flush := m } } ∧
      ((s.flow f).counters.flush ≤ 4294967295 →
        m = min ((s.flow f).counters.flush + (s.flow f).queue.length) 4294967295)) ∧
    (∀ f, f ∈ u.ledger.list ↔ (s.flow f).state ≠ .disabled) ∧
    u.ledger.list.Pairwise (fun f g => (s.flow f).cls < (s.flow g).cls ∨ (s.flow f).cls = (s.flow g).cls ∧ f < g) ∧
    u.ledger.loadUp = 0 ∧ u.ledger.loadDown = 0 ∧
    u.buffer = { s.buffer with freeCells := 32768 } ∧
    u.reentry.queue = [] ∧ (∀ c, u.ctx c = none) ∧ u.reentry.credit = 0 ∧ u.reentry.grants = s.reentry.grants ∧
    u.mgmt =
      (((List.finRange 256).filter fun i => decide ((u.term i).state = .down)).foldl
        (fun m i => m.take s.setup.enable s.link.frame (.down i))
        ((s.mgmt.controlledBy src).take s.setup.enable s.link.frame .restart)) ∧
    SameBut [.terms, .flows, .reentry, .ledger, .buffer, .mgmt] s u

/-- Each read with a body of its length is answered with its status and a result body of the stated length, and
changes nothing else: READ_TERMINAL 62 bytes, READ_FLOW 62, READ_PROFILE 10, READ_SECTOR 88, READ_CONTEXTS 48 and
READ_LEDGER 18 with OK; READ_TAGS, READ_REENTRY_QUEUE and READ_READMISSION_LIST as many entries of 4, 4 and 8 bytes,
behind 2, 4 and 4 bytes, as the count (at most 64, 32 and 64, CLAMPED above) and the tags up to 4095 or the list
from the start position allow. A flow above 1023, a profile above 11 and a start tag above 4095 give RANGE. The
controller, the flags and the notices are not touched. That a count above its limit is CLAMPED where the start lies
beyond the list too is the model's choice (notes/assumptions/30.md). -/
def Obligations.ReadsOnlyAnswer : Prop :=
  ∀ (src : Mac) (body : List Byte) (s : State),
    let answers (c : Instr) (code : Byte) (st : Status) (len : Nat) : Prop :=
      ∃ l : List Byte, l.length = len ∧
        exec c s = .next (s.complete src body { code := code, status := st, body := l })
    (body.length = 2 →
      answers (.readTerminal src body) 0x40#8 .ok 62 ∧
      (1023 < nat16At body 0 → answers (.readFlow src body) 0x41#8 .range 0) ∧
      (nat16At body 0 ≤ 1023 → answers (.readFlow src body) 0x41#8 .ok 62) ∧
      (11 < nat8At body 0 → answers (.readProfile src body) 0x42#8 .range 0) ∧
      (nat8At body 0 ≤ 11 → answers (.readProfile src body) 0x42#8 .ok 10)) ∧
    (body.length = 0 →
      answers (.readSector src body) 0x43#8 .ok 88 ∧ answers (.readContexts src body) 0x47#8 .ok 48 ∧
      answers (.readLedger src body) 0x48#8 .ok 18) ∧
    (body.length = 4 →
      let start := nat16At body 0
      let count := nat8At body 2
      (4095 < start → answers (.readTags src body) 0x44#8 .range 0) ∧
      (start ≤ 4095 → answers (.readTags src body) 0x44#8 (if 64 < count then .clamped else .ok)
        (2 + 4 * min (min count 64) (4096 - start))) ∧
      answers (.readReentryQueue src body) 0x45#8 (if 32 < count then .clamped else .ok)
        (4 + 4 * min (min count 32) (s.reentry.queue.length - start)) ∧
      answers (.readReadmissionList src body) 0x46#8 (if 64 < count then .clamped else .ok)
        (4 + 8 * min (min count 64) (s.ledger.list.length - start)))

/-- The result bodies of the nine reads carry every field of spec/11's tables at its offset: READ_TERMINAL the slot,
state code, presence bits, flag bits, identity, class, ceiling, current and resume profile, dwell count, failed
attempts, timer, last outcome, misses, last result and its frame, chain head, window, needs and six counters;
READ_FLOW the index, flag bits, terminal, class, state, cause, CB, PB, limit, hold age, chain next, packets queued,
cells held, credit, marker and eight counters; READ_PROFILE the entry; READ_CONTEXTS each context's flag bits,
terminal, stage, failures, adjust rounds, timer, slot frame, entry profile and sample, and zeros for a free one;
READ_SECTOR the sector state, presence bits, sticky flags, frame numbers, setup record, ten counters (link errors at
62), controller, notices queued and next sequence number; READ_LEDGER the loads, U_d, K_up, K_down, free cells and
credit; READ_REENTRY_QUEUE and READ_READMISSION_LIST the length, the count and each entry in order, the latter's
with flow, terminal, UP and eligible flags, class and cause; READ_TAGS the count and each tag with its flow or
0xFFFF. Each code is the one 11.3 lists, and each number stands most significant byte first in the width of its
field, zero where its field is absent; a read of a list with a count above its limit is CLAMPED wherever it starts
(notes/assumptions/30.md), and a last window result without a frame number is read as present with frame number 0
(notes/assumptions/33.md). -/
def Obligations.ReadResultsAreLaidOut : Prop :=
  ∀ (src : Mac) (body : List Byte) (s : State),
    let answered (c : Instr) (code : Byte) (st : Status) (l : List Byte) : Prop :=
      exec c s = .next (s.complete src body { code := code, status := st, body := l })
    let counter (l : List Byte) (at' n : Nat) : Prop := (word32At l at').toNat = n % 4294967296
    let termState (x : TermState) : Byte := match x with
      | .absent => 0#8 | .parked => 1#8 | .down => 2#8 | .queued => 3#8
      | .ranging => 4#8 | .ramping => 5#8 | .inService => 6#8 | .fading => 7#8
    let outcome (x : AttemptOutcome) : Byte := match x with
      | .admitted => 0#8 | .noResponse => 1#8 | .corrupt => 2#8 | .weak => 3#8 | .proveFailed => 4#8
      | .identityMismatch => 5#8 | .adjustLimit => 6#8 | .sectorLost => 7#8 | .parked => 8#8
    let flowState (x : FlowState) : Byte := match x with | .disabled => 0#8 | .waiting _ => 1#8 | .admitted => 2#8
    let cause (x : FlowState) : Byte := match x with
      | .waiting .new => 0#8 | .waiting .outage => 1#8 | .waiting .shed => 2#8 | .waiting .parked => 3#8
      | .disabled => 0#8 | .admitted => 0#8
    let stage (x : Stage) : Byte := match x with
      | .invitePending => 0#8 | .inviteWait => 1#8 | .provePending => 2#8 | .proveWait => 3#8
    (body.length = 2 → ∃ l, answered (.readTerminal src body) 0x40#8 .ok l ∧
      let i := slotAt body 0
      let t := s.term i
      slotAt l 0 = i ∧ byteAt l 1 = termState t.state ∧
      (bitAt l 2 0 = t.identity.isSome ∧ bitAt l 2 1 = t.current.isSome ∧ bitAt l 2 2 = t.resume.isSome ∧
        bitAt l 2 3 = t.beforeFade.isSome ∧ bitAt l 2 4 = t.timer.isSome ∧ bitAt l 2 5 = t.lastOutcome.isSome ∧
        bitAt l 2 6 = t.lastResult.isSome ∧ bitAt l 2 7 = t.chainHead.isSome) ∧
      (bitAt l 3 0 = t.freeze ∧ bitAt l 3 1 = t.outageSeen ∧ bitAt l 3 2 = t.window.settling ∧
        (bitAt l 3 3 = true ↔ ∃ x, t.lastResult = some x ∧ x.impaired = true) ∧
        (bitAt l 3 4 = true ↔ t.policy = .sectorDefault) ∧
        (bitAt l 3 5 = true ↔ t.beforeFade = some .inService) ∧ bitAt l 3 6 = false ∧ bitAt l 3 7 = false) ∧
      macAt l 4 = t.identity.getD 0 ∧ nat8At l 10 = t.cls.val ∧ nat8At l 11 = t.ceiling.val ∧
      nat8At l 12 = (t.current.map Fin.val).getD 0 ∧ nat8At l 13 = (t.resume.map Fin.val).getD 0 ∧
      nat8At l 14 = t.dwell % 256 ∧ nat8At l 15 = t.failedAttempts % 256 ∧
      nat16At l 16 = t.timer.getD 0 % 65536 ∧ byteAt l 18 = (t.lastOutcome.map outcome).getD 0 ∧
      nat8At l 19 = t.window.misses % 256 ∧ nat16At l 20 = (t.lastResult.map WindowResult.q).getD 0 % 65536 ∧
      word16At l 22 = (t.lastResult.bind WindowResult.frame).getD 0 ∧
      nat16At l 24 = (t.chainHead.map Fin.val).getD 0 ∧
      nat8At l 26 = t.window.samples % 256 ∧ nat8At l 27 = t.window.crcBad % 256 ∧
      nat16At l 28 = t.window.sum % 65536 ∧ counter l 30 t.needUp ∧ counter l 34 t.needDown ∧
      counter l 38 t.counters.bursts ∧ counter l 42 t.counters.crcBad ∧ counter l 46 t.counters.misses ∧
      counter l 50 t.counters.attempts ∧ counter l 54 t.counters.failed ∧ counter l 58 t.counters.outages) ∧
    (∀ f : FlowIdx, body.length = 2 → f.val = nat16At body 0 → ∃ l, answered (.readFlow src body) 0x41#8 .ok l ∧
      let x := s.flow f
      nat16At l 0 = f.val ∧
      (bitAt l 2 0 = x.bound.isSome ∧ (bitAt l 2 1 = true ↔ x.dir = .up) ∧ (bitAt l 2 2 = true ↔ x.policy = .shed) ∧
        bitAt l 2 3 = x.chainNext.isSome ∧ bitAt l 2 4 = x.marker.isSome ∧ bitAt l 2 5 = x.state.isWaiting ∧
        bitAt l 2 6 = false ∧ bitAt l 2 7 = false) ∧
      nat8At l 3 = (x.bound.map Fin.val).getD 0 ∧ nat8At l 4 = x.cls.val ∧ byteAt l 5 = flowState x.state ∧
      byteAt l 6 = cause x.state ∧ byteAt l 7 = 0#8 ∧
      nat16At l 8 = x.cb % 65536 ∧ nat16At l 10 = x.pb % 65536 ∧
      nat16At l 12 = x.limit % 65536 ∧ nat16At l 14 = x.holdAge % 65536 ∧
      nat16At l 16 = (x.chainNext.map Fin.val).getD 0 ∧
      nat16At l 18 = x.queue.length % 65536 ∧ nat16At l 20 = x.cellsHeld % 65536 ∧
      nat16At l 22 = x.credit % 65536 ∧ nat16At l 24 = (x.marker.map Marker.remaining).getD 0 % 65536 ∧
      nat16At l 26 = (x.marker.map Marker.released).getD 0 % 65536 ∧
      nat16At l 28 = (x.marker.map Marker.discarded).getD 0 % 65536 ∧
      counter l 30 x.counters.enqueued ∧ counter l 34 x.counters.released ∧ counter l 38 x.counters.full ∧
      counter l 42 x.counters.shed ∧ counter l 46 x.counters.stale ∧ counter l 50 x.counters.disabled ∧
      counter l 54 x.counters.noBuf ∧ counter l 58 x.counters.flush) ∧
    (∀ p : ProfIdx, body.length = 2 → p.val = nat8At body 0 → ∃ l, answered (.readProfile src body) 0x42#8 .ok l ∧
      nat8At l 0 = p.val ∧ byteAt l 1 = (if (s.profile p).valid then 1#8 else 0#8) ∧
      nat8At l 2 = (s.profile p).density % 256 ∧ nat8At l 3 = (s.profile p).dwell % 256 ∧
      nat16At l 4 = (s.profile p).overhead % 65536 ∧ nat16At l 6 = (s.profile p).entry % 65536 ∧
      nat16At l 8 = (s.profile p).exit % 65536) ∧
    (body.length = 0 → ∃ l, answered (.readContexts src body) 0x47#8 .ok l ∧
      ∀ c : CtxNo, (s.ctx c = none → ∀ k, k < 12 → byteAt l (12 * c.val + k) = 0#8) ∧
        ∀ a, s.ctx c = some a →
          bitAt l (12 * c.val) 0 = true ∧ bitAt l (12 * c.val) 1 = a.timer.isSome ∧
          bitAt l (12 * c.val) 2 = a.entryProfile.isSome ∧ bitAt l (12 * c.val) 3 = a.sample.isSome ∧
          bitAt l (12 * c.val) 4 = a.parkPending ∧ slotAt l (12 * c.val + 1) = a.terminal ∧
          byteAt l (12 * c.val + 2) = stage a.stage ∧ nat8At l (12 * c.val + 3) = a.failures % 256 ∧
          nat8At l (12 * c.val + 4) = a.adjusts % 256 ∧ nat8At l (12 * c.val + 5) = a.timer.getD 0 % 256 ∧
          word16At l (12 * c.val + 6) = a.slotFrame.getD 0 ∧
          nat8At l (12 * c.val + 8) = (a.entryProfile.map Fin.val).getD 0 ∧
          nat16At l (12 * c.val + 9) = a.sample.getD 0 % 65536) ∧
    (body.length = 0 → ∃ l, answered (.readSector src body) 0x43#8 .ok l ∧
      let m := s.mgmt
      let c := s.setup
      byteAt l 0 = (if s.link.sectorUp then 1#8 else 0#8) ∧ bitAt l 1 0 = s.link.frame.isSome ∧
      bitAt l 1 1 = m.controller.isSome ∧
      (bitAt l 2 0 = m.flags.terminal ∧ bitAt l 2 1 = m.flags.attempt ∧ bitAt l 2 2 = m.flags.capacity ∧
        bitAt l 2 3 = m.flags.backlog ∧ bitAt l 2 4 = m.flags.sector ∧ bitAt l 2 5 = m.overflow) ∧
      word16At l 4 = s.link.frame.getD 0 ∧ word16At l 6 = (s.link.frame.map (· + 1)).getD 0 ∧
      (nat16At l 8 = c.u % 65536 ∧ nat16At l 10 = c.d % 65536 ∧ nat16At l 12 = c.rs % 65536 ∧
        nat8At l 14 = c.m % 256 ∧ nat8At l 15 = c.a % 256 ∧ nat8At l 16 = c.w % 256 ∧ nat8At l 17 = c.eMax % 256 ∧
        nat8At l 18 = c.mf % 256 ∧ nat8At l 19 = c.mo % 256 ∧ nat16At l 20 = c.settle % 65536 ∧
        nat8At l 23 = c.backoff % 256 ∧ nat16At l 24 = c.pacer % 65536 ∧ nat8At l 26 = c.rMax % 256 ∧
        nat8At l 27 = c.tr % 256 ∧ nat8At l 28 = c.timingWindow % 256 ∧ nat8At l 29 = c.powerWindow % 256 ∧
        nat8At l 30 = c.defaultProfile.val) ∧
      (bitAt l 31 0 = c.enable.terminal ∧ bitAt l 31 1 = c.enable.attempt ∧ bitAt l 31 2 = c.enable.capacity ∧
        bitAt l 31 3 = c.enable.backlog ∧ bitAt l 31 4 = c.enable.sector) ∧ macAt l 32 = c.address ∧
      counter l 38 s.counters.trunkErrors ∧ counter l 42 s.counters.unclassified ∧
      counter l 46 s.counters.misdirected ∧ counter l 50 s.counters.upForwarded ∧
      counter l 54 s.counters.upDropped ∧ counter l 58 s.counters.noBuffer ∧ counter l 62 s.counters.linkErrors ∧
      counter l 66 s.counters.frameGaps ∧ counter l 70 s.counters.sectorLosses ∧
      counter l 74 s.counters.strayReports ∧
      macAt l 78 = m.controller.getD 0 ∧ nat8At l 84 = m.notices.length % 256 ∧ word16At l 86 = m.seq) ∧
    (body.length = 0 → ∃ l, answered (.readLedger src body) 0x48#8 .ok l ∧
      counter l 0 s.ledger.loadUp ∧ counter l 4 s.ledger.loadDown ∧
      nat16At l 8 = (s.setup.u - 4 * s.setup.rs) % 65536 ∧
      nat16At l 10 = (s.setup.u - 4 * s.setup.rs) * s.setup.a / 100 % 65536 ∧
      nat16At l 12 = s.setup.d * s.setup.a / 100 % 65536 ∧
      nat16At l 14 = s.buffer.freeCells % 65536 ∧ nat16At l 16 = s.reentry.credit % 65536) ∧
    (body.length = 4 →
      let start := nat16At body 0
      let count := nat8At body 2
      (∃ l, answered (.readReentryQueue src body) 0x45#8 (if 32 < count then .clamped else .ok) l ∧
        nat16At l 0 = s.reentry.queue.length % 65536 ∧
        nat8At l 2 = min (min count 32) (s.reentry.queue.length - start) ∧
        ∀ (j : Nat) (i : Slot), j < min count 32 → s.reentry.queue[start + j]? = some i →
          nat16At l (4 + 4 * j) = (start + j) % 65536 ∧ slotAt l (6 + 4 * j) = i ∧
            nat8At l (7 + 4 * j) = (s.term i).cls.val) ∧
      (∃ l, answered (.readReadmissionList src body) 0x46#8 (if 64 < count then .clamped else .ok) l ∧
        nat16At l 0 = s.ledger.list.length % 65536 ∧
        nat8At l 2 = min (min count 64) (s.ledger.list.length - start) ∧
        ∀ (j : Nat) (f : FlowIdx), j < min count 64 → s.ledger.list[start + j]? = some f →
          nat16At l (4 + 8 * j) = (start + j) % 65536 ∧ nat16At l (6 + 8 * j) = f.val ∧
            nat8At l (8 + 8 * j) = ((s.flow f).bound.map Fin.val).getD 0 ∧
            (bitAt l (9 + 8 * j) 0 = true ↔ (s.flow f).dir = .up) ∧
            (bitAt l (9 + 8 * j) 1 = true ↔ ∃ i, (s.flow f).bound = some i ∧ (s.term i).state.active = true) ∧
            nat8At l (10 + 8 * j) = (s.flow f).cls.val ∧
            byteAt l (11 + 8 * j) = cause (s.flow f).state) ∧
      (start ≤ 4095 → ∃ l, answered (.readTags src body) 0x44#8 (if 64 < count then .clamped else .ok) l ∧
        nat8At l 0 = min (min count 64) (4096 - start) ∧
        ∀ (j : Nat) (v : Tag), j < min count 64 → v.val = start + j →
          nat16At l (2 + 4 * j) = v.val ∧
            nat16At l (4 + 4 * j) = ((s.tags.get v).map Fin.val).getD 65535))

/-- CLEAR_COUNTERS with its 4-byte body: scope TERMINAL sets the six counters of the slot to 0, or gives ABSENT for
an ABSENT slot; scope FLOW the eight of the flow, or gives RANGE for an index above 1023; scope SECTOR those of
every terminal and flow and the ten sector counters; any other scope gives RANGE. CLEAR_FLAGS clears the five class
flags and NOTICE_OVERFLOW and sets every terminal's outage-seen flag to no, leaving the notice queue, the sequence
number, the enable set and the counters. A command taken gives OK and makes its source the controller; nothing else
changes. -/
def Obligations.CountersAndFlagsAreCleared : Prop :=
  ∀ (src : Mac) (s : State),
    (∀ body : List Byte, body.length = 4 →
      let refused (st : Status) : Prop := exec (.clearCounters src body) s =
        .next (s.complete src body { code := 0x50#8, status := st, body := [] })
      let taken (u : State) : Prop :=
        exec (.clearCounters src body) s =
            .next (u.complete src body { code := 0x50#8, status := .ok, body := [] }) ∧
          u.mgmt = s.mgmt.controlledBy src
      let i := slotAt body 3
      (byteAt body 0 = 0#8 → (s.term i).state = .absent → refused .absent) ∧
      (byteAt body 0 = 0#8 → (s.term i).state ≠ .absent →
        ∃ u, taken u ∧ u.term i = { s.term i with counters := {} } ∧ OtherTerms i s u ∧
          SameBut [.terms, .mgmt] s u) ∧
      (byteAt body 0 = 1#8 → 1023 < nat16At body 2 → refused .range) ∧
      (∀ f : FlowIdx, byteAt body 0 = 1#8 → f.val = nat16At body 2 →
        ∃ u, taken u ∧ u.flow f = { s.flow f with counters := {} } ∧ OtherFlows f s u ∧
          SameBut [.flows, .mgmt] s u) ∧
      (byteAt body 0 = 2#8 →
        ∃ u, taken u ∧ (∀ j, u.term j = { s.term j with counters := {} }) ∧
          (∀ f, u.flow f = { s.flow f with counters := {} }) ∧ u.counters = {} ∧
          SameBut [.terms, .flows, .mgmt, .counters] s u) ∧
      (2 < nat8At body 0 → refused .range)) ∧
    ∃ u, exec (.clearFlags src []) s =
        .next (u.complete src [] { code := 0x51#8, status := .ok, body := [] }) ∧
      u.mgmt = { s.mgmt with controller := some src, flags := {}, overflow := false } ∧
      (∀ j, u.term j = { s.term j with outageSeen := false }) ∧ SameBut [.terms, .mgmt] s u
end

