-- ==== Sys2Proof/Laws/Choices.lean ====
section
/-! SUPPORT. What the choices of the rules give: the context of a terminal, the place of an item by class, the
highest valid profile and the next valid one. -/

namespace Sys2Proof.Machine

/-- A context that is found holds an attempt of the terminal. -/
theorem contextOf_holds {s : State} {i : Slot} {c : CtxNo} {a : Attempt} (h : s.contextOf i = some (c, a)) :
    s.ctx c = some a ∧ a.terminal = i := by
  obtain ⟨d, -, hd⟩ := List.exists_of_findSome?_eq_some h
  cases e : s.ctx d with
  | none => rw [e] at hd; cases hd
  | some b =>
    rw [e] at hd
    by_cases k : b.terminal = i
    · simp only [if_pos k] at hd
      cases hd
      exact ⟨e, k⟩
    · simp only [if_neg k] at hd
      cases hd

/-- The only context that holds a terminal's attempt is the one found. -/
theorem contextOf_of_only {s : State} {i : Slot} {c : CtxNo} {a : Attempt} (h : OnlyContext s i c a) :
    s.contextOf i = some (c, a) := by
  obtain ⟨hc, hi, ho⟩ := h
  have every : ∀ d : CtxNo, d ∈ allContexts := by decide
  cases e : s.contextOf i with
  | none =>
    have k := List.findSome?_eq_none_iff.mp e c (every c)
    simp only [hc, if_pos hi] at k
    cases k
  | some x =>
    obtain ⟨hx, ht⟩ := contextOf_holds (c := x.1) (a := x.2) e
    have hd := ho x.1 x.2 hx ht
    rw [hd, hc] at hx
    cases hx
    exact congrArg some (Prod.ext hd rfl)

/-- No context is found for a terminal that none is bound to. -/
theorem contextOf_of_none {s : State} {i : Slot} (h : ∀ c a, s.ctx c = some a → a.terminal ≠ i) :
    s.contextOf i = none := by
  cases e : s.contextOf i with
  | none => rfl
  | some x => exact absurd (contextOf_holds e).2 (h x.1 x.2 (contextOf_holds e).1)

/-- An item is placed by its class (R59, R104). -/
theorem placeByClass_placed {α : Type} (cls : α → Nat) (x : α) (l : List α) :
    PlacedByClass cls x l (placeByClass cls x l) := by
  refine ⟨_, _, (List.takeWhile_append_dropWhile).symm, rfl, fun y hy => ?_, fun y hy => ?_⟩
  · have k := List.mem_takeWhile_imp (p := fun y => decide (cls y ≤ cls x)) hy
    exact of_decide_eq_true k
  · have k := List.head?_dropWhile_not (fun y => decide (cls y ≤ cls x)) l
    rw [hy] at k
    exact Nat.lt_of_not_le (of_decide_eq_false (by simpa using k))

/-- Items placed one after another (R14, R59, R104, R119). -/
theorem foldl_placeByClass_placed {α : Type} (cls : α → Nat) (xs : List α) :
    ∀ l, PlacedInTurn cls xs l (xs.foldl (fun q x => placeByClass cls x q) l) := by
  induction xs with
  | nil => exact fun _ => rfl
  | cons x rest ih => exact fun l => ⟨_, placeByClass_placed cls x l, ih _⟩

/-- A placed item and the items before it are those of the list. -/
theorem mem_placeByClass {α : Type} (cls : α → Nat) (x y : α) (l : List α) :
    y ∈ placeByClass cls x l ↔ y = x ∨ y ∈ l := by
  conv_rhs => rw [← List.takeWhile_append_dropWhile (p := fun y => decide (cls y ≤ cls x)) (l := l)]
  simp only [placeByClass, List.mem_append, List.mem_cons]
  tauto

/-- The profiles in rising order: each stands after those below it. -/
theorem finRange_pairwise : (List.finRange 12).Pairwise (· < ·) := by decide

/-- The highest valid profile that meets a test, or 0 where none does (R46, R52, R53). -/
theorem highestValid_spec (s : State) (ok : ProfIdx → Bool) :
    HighestValid s (fun p => ok p = true) ((s.highestValid ok).getD 0) := by
  cases e : s.highestValid ok with
  | none =>
    refine .inr ⟨rfl, fun p hv ho => ?_⟩
    have k := List.find?_eq_none.mp e p (by simp)
    simp [hv, ho] at k
  | some q =>
    obtain ⟨hq, as, bs, hl, hn⟩ := List.find?_eq_some_iff_append.mp e
    rw [Bool.and_eq_true] at hq
    refine .inl ⟨hq.1, hq.2, fun p hp hv ho => ?_⟩
    have hm : p ∈ as ++ q :: bs := hl ▸ (by simp)
    have hs : (as ++ q :: bs).Pairwise (fun x y => y < x) := by
      rw [← hl]; exact List.pairwise_reverse.mpr finRange_pairwise
    rcases List.mem_append.mp hm with h | h
    · have := hn p h; simp [hv, ho] at this
    · rcases List.mem_cons.mp h with rfl | h
      · exact lt_irrefl _ hp
      · exact lt_asymm hp ((List.pairwise_cons.mp (List.pairwise_append.mp hs).2.1).1 p h)

/-- The next valid profile above another (R47). -/
theorem nextValid_spec (s : State) (p n : ProfIdx) : s.nextValid p = some n ↔ NextAbove s p n := by
  constructor
  · intro e
    obtain ⟨hq, as, bs, hl, hn⟩ := List.find?_eq_some_iff_append.mp e
    rw [Bool.and_eq_true] at hq
    refine ⟨of_decide_eq_true hq.1, hq.2, fun x hx hxn => ?_⟩
    have hm : x ∈ as ++ n :: bs := hl ▸ (by simp)
    have hs : (as ++ n :: bs).Pairwise (· < ·) := by rw [← hl]; exact finRange_pairwise
    rcases List.mem_append.mp hm with h | h
    · have := hn x h; simpa [hx] using this
    · rcases List.mem_cons.mp h with rfl | h
      · exact absurd hxn (lt_irrefl _)
      · exact absurd hxn (lt_asymm ((List.pairwise_cons.mp (List.pairwise_append.mp hs).2.1).1 x h))
  · rintro ⟨hp, hv, hno⟩
    cases e : s.nextValid p with
    | none => have := List.find?_eq_none.mp e n (by simp); simp [hp, hv] at this
    | some m =>
      obtain ⟨hq, as, bs, hl, hn⟩ := List.find?_eq_some_iff_append.mp e
      rw [Bool.and_eq_true] at hq
      have hm : n ∈ as ++ m :: bs := hl ▸ (by simp)
      have hs : (as ++ m :: bs).Pairwise (· < ·) := by rw [← hl]; exact finRange_pairwise
      rcases List.mem_append.mp hm with h | h
      · have := hn n h; simp [hp, hv] at this
      · rcases List.mem_cons.mp h with h | h
        · rw [h]
        · have lt := (List.pairwise_cons.mp (List.pairwise_append.mp hs).2.1).1 n h
          have := hno m (of_decide_eq_true hq.1) lt
          rw [hq.2] at this
          cases this

end Sys2Proof.Machine
end

