-- ==== Sys2Proof/Laws/Table.lean ====
section
/-! SUPPORT. The laws of the sparse tables: a read after a write, after a change of every record, and of the
keys and the totals. -/

namespace Sys2Proof.Machine

variable {α : Type} [DecidableEq α] {n : Nat} {d : α}

omit [DecidableEq α] in
/-- An index below every listed one reads as the default record. -/
theorem lookupIn_absent (k : Fin n) (m : List (Fin n × α)) (h : ∀ x ∈ m, k < x.1) :
    lookupIn d k m = d := by
  induction m with
  | nil => rfl
  | cons x xs ih =>
    have := h x (by simp)
    rw [lookupIn, if_neg (by omega)]
    exact ih fun y hy => h y (by simp [hy])

theorem lookupIn_insertIn_same (k : Fin n) (v : α) (l : List (Fin n × α))
    (h : l.Pairwise (fun a b => a.1 < b.1)) : lookupIn d k (insertIn d k v l) = v := by
  induction l with
  | nil => unfold insertIn; split <;> simp_all [lookupIn]
  | cons e rest ih =>
    obtain ⟨hlt, hp⟩ := List.pairwise_cons.mp h
    unfold insertIn
    split
    · rename_i hk
      split
      · rename_i hv
        rw [hv]
        refine lookupIn_absent k _ fun x hx => ?_
        rcases List.mem_cons.mp hx with rfl | hx
        · exact hk
        · exact lt_trans hk (hlt x hx)
      · simp [lookupIn]
    · split
      · rename_i he
        split
        · rename_i hv
          rw [hv]
          exact lookupIn_absent k _ fun x hx => he ▸ hlt x hx
        · simp [lookupIn]
      · rename_i he
        rw [lookupIn, if_neg he]
        exact ih hp

theorem lookupIn_insertIn_other (k j : Fin n) (v : α) (l : List (Fin n × α)) (h : j ≠ k) :
    lookupIn d j (insertIn d k v l) = lookupIn d j l := by
  induction l with
  | nil => unfold insertIn; split <;> simp [lookupIn, Ne.symm h]
  | cons e rest ih =>
    unfold insertIn
    split
    · split
      · rfl
      · simp [lookupIn, Ne.symm h]
    · split
      · rename_i he
        have hj : e.1 ≠ j := fun hh => h (hh ▸ he)
        split
        · simp [lookupIn, hj]
        · simp [lookupIn, hj, Ne.symm h]
      · simp only [lookupIn, ih]

theorem lookupIn_mapIn (f : Fin n → α → α) (k : Fin n) (l : List (Fin n × α)) (hd : f k d = d)
    (h : l.Pairwise (fun a b => a.1 < b.1)) :
    lookupIn d k (mapIn d f l) = f k (lookupIn d k l) := by
  induction l with
  | nil => simp [mapIn, lookupIn, hd]
  | cons e rest ih =>
    obtain ⟨hlt, hp⟩ := List.pairwise_cons.mp h
    have hc : mapIn d f (e :: rest) =
        if f e.1 e.2 ≠ d then (e.1, f e.1 e.2) :: mapIn d f rest else mapIn d f rest := by
      by_cases hv : f e.1 e.2 = d <;> simp [mapIn, hv]
    rw [hc, lookupIn]
    by_cases he : e.1 = k
    · subst he
      rw [if_pos rfl]
      by_cases hv : f e.1 e.2 = d
      ·        rw [if_neg (by simp [hv]), ih hp, lookupIn_absent e.1 rest hlt, hd, hv]
      · rw [if_pos hv, lookupIn, if_pos rfl]
    · rw [if_neg he]
      split
      · rw [lookupIn, if_neg he, ih hp]
      · exact ih hp

/-- A record read where it was written is the record written. -/
@[simp] theorem Table.get_put_same (t : Table n d) (k : Fin n) (v : α) : (t.put k v).get k = v :=
  lookupIn_insertIn_same k v t.entries t.wf.1

/-- A record read elsewhere than where one was written is as before. -/
theorem Table.get_put_other (t : Table n d) (k j : Fin n) (v : α) (h : j ≠ k) :
    (t.put k v).get j = t.get j := lookupIn_insertIn_other k j v t.entries h

/-- A record read after a write. -/
theorem Table.get_put (t : Table n d) (k j : Fin n) (v : α) :
    (t.put k v).get j = if j = k then v else t.get j := by
  by_cases h : j = k
  · subst h; simp
  · rw [if_neg h, t.get_put_other k j v h]

omit [DecidableEq α] in
/-- Every index of the empty table holds the default record. -/
@[simp] theorem Table.get_empty (k : Fin n) : (Table.empty : Table n d).get k = d := rfl

/-- A record read after a change of every record that keeps the default one. -/
theorem Table.get_map (t : Table n d) (f : Fin n → α → α) (k : Fin n) (hd : f k d = d) :
    (t.map f).get k = f k (t.get k) := lookupIn_mapIn f k t.entries hd t.wf.1

omit [DecidableEq α] in
theorem lookupIn_of_mem {l : List (Fin n × α)} (h : l.Pairwise (fun a b => a.1 < b.1)) {e : Fin n × α}
    (he : e ∈ l) : lookupIn d e.1 l = e.2 := by
  induction l with
  | nil => simp at he
  | cons x xs ih =>
    obtain ⟨hlt, hp⟩ := List.pairwise_cons.mp h
    rw [lookupIn]
    rcases List.mem_cons.mp he with rfl | he
    · simp
    · have := hlt e he
      rw [if_neg (by omega)]
      exact ih hp he

omit [DecidableEq α] in
theorem mem_of_lookupIn {l : List (Fin n × α)} {k : Fin n} (h : lookupIn d k l ≠ d) :
    (k, lookupIn d k l) ∈ l := by
  induction l with
  | nil => simp [lookupIn] at h
  | cons x xs ih =>
    rw [lookupIn] at h ⊢
    split
    · rename_i he
      subst he
      simp
    · rename_i he
      rw [if_neg he] at h
      exact List.mem_cons_of_mem _ (ih h)

omit [DecidableEq α] in
/-- The keys of a test that the default record fails are the indices whose record passes it. -/
theorem Table.mem_keys (t : Table n d) (p : Fin n → α → Bool) (k : Fin n) (hd : p k d = false) :
    k ∈ t.keys p ↔ p k (t.get k) = true := by
  constructor
  · intro h
    obtain ⟨e, he, rfl⟩ := List.mem_map.mp h
    obtain ⟨hm, hp⟩ := List.mem_filter.mp he
    rw [Table.get, lookupIn_of_mem t.wf.1 hm]
    exact hp
  · intro h
    have hne : lookupIn d k t.entries ≠ d := by
      intro hh
      rw [Table.get, hh, hd] at h
      exact Bool.noConfusion h
    exact List.mem_map.mpr ⟨_, List.mem_filter.mpr ⟨mem_of_lookupIn hne, h⟩, rfl⟩

omit [DecidableEq α] in
/-- The keys are strictly ascending. -/
theorem Table.keys_sorted (t : Table n d) (p : Fin n → α → Bool) : (t.keys p).Pairwise (· < ·) :=
  List.pairwise_map.mpr (List.Pairwise.filter _ t.wf.1)

omit [DecidableEq α] in
/-- No key stands twice. -/
theorem Table.keys_nodup (t : Table n d) (p : Fin n → α → Bool) : (t.keys p).Nodup :=
  (t.keys_sorted p).imp fun h => ne_of_lt h

theorem sum_insertIn (g : α → Nat) (hd : g d = 0) (k : Fin n) (v : α) (l : List (Fin n × α))
    (h : l.Pairwise (fun a b => a.1 < b.1)) :
    ((insertIn d k v l).map fun e => g e.2).sum + g (lookupIn d k l) =
      (l.map fun e => g e.2).sum + g v := by
  induction l with
  | nil => unfold insertIn; split <;> simp_all [lookupIn]
  | cons e rest ih =>
    obtain ⟨hlt, hp⟩ := List.pairwise_cons.mp h
    unfold insertIn
    split
    · rename_i hk
      have hn : lookupIn d k (e :: rest) = d := by
        refine lookupIn_absent k _ fun x hx => ?_
        rcases List.mem_cons.mp hx with rfl | hx
        · exact hk
        · exact lt_trans hk (hlt x hx)
      rw [hn, hd]
      split
      · rename_i hv; simp [hv, hd]
      · simp; omega
    · split
      · rename_i he
        rw [lookupIn, if_pos he]
        split
        · rename_i hv; simp [hv, hd]; omega
        · simp; omega
      · rename_i he
        rw [lookupIn, if_neg he]
        have := ih hp
        simp only [List.map_cons, List.sum_cons]
        omega

/-- The total after a write, for a quantity that is 0 on the default record. -/
theorem Table.total_put (t : Table n d) (g : α → Nat) (hd : g d = 0) (k : Fin n) (v : α) :
    (t.put k v).total g + g (t.get k) = t.total g + g v :=
  sum_insertIn g hd k v t.entries t.wf.1

theorem sum_mapIn (g : α → Nat) (hd : g d = 0) (f : Fin n → α → α) (l : List (Fin n × α)) :
    ((mapIn d f l).map fun e => g e.2).sum = (l.map fun e => g (f e.1 e.2)).sum := by
  induction l with
  | nil => rfl
  | cons e rest ih =>
    by_cases hv : f e.1 e.2 = d
    · have hc : mapIn d f (e :: rest) = mapIn d f rest := by simp [mapIn, hv]
      rw [hc, ih]
      simp [hv, hd]
    · have hc : mapIn d f (e :: rest) = (e.1, f e.1 e.2) :: mapIn d f rest := by simp [mapIn, hv]
      rw [hc]
      simp [ih]

/-- The total after a change of every record that keeps the quantity. -/
theorem Table.total_map_same (t : Table n d) (g : α → Nat) (hd : g d = 0) (f : Fin n → α → α)
    (h : ∀ k a, g (f k a) = g a) : (t.map f).total g = t.total g := by
  unfold Table.total Table.map
  rw [sum_mapIn g hd f t.entries]
  simp [h]

/-- The total after a change of every record that makes the quantity 0. -/
theorem Table.total_map_zero (t : Table n d) (g : α → Nat) (hd : g d = 0) (f : Fin n → α → α)
    (h : ∀ k a, g (f k a) = 0) : (t.map f).total g = 0 := by
  unfold Table.total Table.map
  rw [sum_mapIn g hd f t.entries]
  simp [h]

omit [DecidableEq α] in
theorem le_sum_of_mem (g : α → Nat) {l : List (Fin n × α)} {e : Fin n × α} (h : e ∈ l) :
    g e.2 ≤ (l.map fun e => g e.2).sum := by
  induction l with
  | nil => simp at h
  | cons x xs ih =>
    rcases List.mem_cons.mp h with rfl | h
    · simp
    · have := ih h
      simp only [List.map_cons, List.sum_cons]
      omega

omit [DecidableEq α] in
/-- One record's quantity is no more than the total. -/
theorem Table.get_le_total (t : Table n d) (g : α → Nat) (hd : g d = 0) (k : Fin n) :
    g (t.get k) ≤ t.total g := by
  by_cases h : lookupIn d k t.entries = d
  · rw [Table.get, h, hd]; exact Nat.zero_le _
  · exact le_sum_of_mem g (mem_of_lookupIn h)

omit [DecidableEq α] in
theorem entries_ext {l m : List (Fin n × α)} (hl : Canonical d l) (hm : Canonical d m)
    (h : ∀ k, lookupIn d k l = lookupIn d k m) : l = m := by
  have sub : ∀ {a b : List (Fin n × α)}, Canonical d a → Canonical d b →
      (∀ k, lookupIn d k a = lookupIn d k b) → ∀ e ∈ a, e ∈ b := by
    intro a b ha hb hab e he
    have h1 := lookupIn_of_mem (d := d) ha.1 he
    have h2 : lookupIn d e.1 b ≠ d := by rw [← hab, h1]; exact ha.2 e he
    have h3 := mem_of_lookupIn h2
    rwa [← hab, h1] at h3
  have nodup : ∀ {a : List (Fin n × α)}, Canonical d a → a.Nodup := fun ha =>
    ha.1.imp fun hlt he => by rw [he] at hlt; exact lt_irrefl _ hlt
  have perm : l.Perm m := (List.perm_ext_iff_of_nodup (nodup hl) (nodup hm)).mpr fun e =>
    ⟨sub hl hm h e, sub hm hl (fun k => (h k).symm) e⟩
  exact perm.eq_of_pairwise (fun a b _ _ h1 h2 => absurd (lt_trans h1 h2) (lt_irrefl _)) hl.1 hm.1

omit [DecidableEq α] in
/-- Tables that read alike are equal data. -/
theorem Table.ext_get (t u : Table n d) (h : ∀ k, t.get k = u.get k) : t = u := by
  have he : t.entries = u.entries := entries_ext t.wf u.wf h
  cases t; cases u; simp_all

omit [DecidableEq α] in
theorem sum_lookupIn (g : α → Nat) (hd : g d = 0) (l : List (Fin n × α)) (h : l.Pairwise (fun a b => a.1 < b.1)) :
    ((List.finRange n).map fun k => g (lookupIn d k l)).sum = (l.map fun e => g e.2).sum := by
  induction l with
  | nil => simp [lookupIn, hd]
  | cons e rest ih =>
    obtain ⟨hlt, hr⟩ := List.pairwise_cons.mp h
    have hs (k : Fin n) : g (lookupIn d k (e :: rest)) = (if e.1 = k then g e.2 else 0) + g (lookupIn d k rest) := by
      rw [lookupIn]
      split
      · next hk => rw [← hk, lookupIn_absent e.1 rest hlt, hd]; rfl
      · rw [Nat.zero_add]
    simp only [hs, List.sum_map_add, ih hr, List.map_cons, List.sum_cons]
    congr 1
    rw [← List.ofFn_eq_map, List.sum_ofFn, Finset.sum_ite_eq, if_pos (Finset.mem_univ _)]

omit [DecidableEq α] in
/-- The total of a quantity is its sum over every index. -/
theorem Table.total_eq_sum (t : Table n d) (g : α → Nat) (hd : g d = 0) :
    t.total g = ((List.finRange n).map fun k => g (t.get k)).sum :=
  (sum_lookupIn g hd t.entries t.wf.1).symm

omit [DecidableEq α] in
/-- The keys of a table are its indices that satisfy the test, in ascending order. -/
theorem Table.keys_eq_filter (t : Table n d) (p : Fin n → α → Bool) (hp : ∀ k, p k d = false) :
    t.keys p = (List.finRange n).filter fun k => p k (t.get k) := by
  refine List.Perm.eq_of_pairwise' (r := (· < ·)) (t.keys_sorted p) ((List.pairwise_lt_finRange n).filter _) ?_
  · refine (List.perm_ext_iff_of_nodup (t.keys_nodup p) ((List.nodup_finRange n).filter _)).mpr fun k => ?_
    rw [t.mem_keys p k (hp k), List.mem_filter]
    simp

end Sys2Proof.Machine
end

