-- ==== Sys2Proof/Laws/State.lean ====
section
/-! SUPPORT. The laws of the updates of the state: one lemma per field per update, and the reads of one record
after the writing of one. -/

namespace Sys2Proof.Machine

variable (s : State)

@[simp] theorem State.modTerm_pending (i : Slot) (f : Terminal → Terminal) : (s.modTerm i f).pending = s.pending := rfl
@[simp] theorem State.modTerm_straps (i : Slot) (f : Terminal → Terminal) : (s.modTerm i f).straps = s.straps := rfl
@[simp] theorem State.modTerm_setup (i : Slot) (f : Terminal → Terminal) : (s.modTerm i f).setup = s.setup := rfl
@[simp] theorem State.modTerm_profiles (i : Slot) (f : Terminal → Terminal) : (s.modTerm i f).profiles = s.profiles := rfl
@[simp] theorem State.modTerm_flows (i : Slot) (f : Terminal → Terminal) : (s.modTerm i f).flows = s.flows := rfl
@[simp] theorem State.modTerm_tags (i : Slot) (f : Terminal → Terminal) : (s.modTerm i f).tags = s.tags := rfl
@[simp] theorem State.modTerm_link (i : Slot) (f : Terminal → Terminal) : (s.modTerm i f).link = s.link := rfl
@[simp] theorem State.modTerm_reentry (i : Slot) (f : Terminal → Terminal) : (s.modTerm i f).reentry = s.reentry := rfl
@[simp] theorem State.modTerm_ledger (i : Slot) (f : Terminal → Terminal) : (s.modTerm i f).ledger = s.ledger := rfl
@[simp] theorem State.modTerm_buffer (i : Slot) (f : Terminal → Terminal) : (s.modTerm i f).buffer = s.buffer := rfl
@[simp] theorem State.modTerm_resultStamp (i : Slot) (f : Terminal → Terminal) : (s.modTerm i f).resultStamp = s.resultStamp := rfl
@[simp] theorem State.modTerm_mgmt (i : Slot) (f : Terminal → Terminal) : (s.modTerm i f).mgmt = s.mgmt := rfl
@[simp] theorem State.modTerm_tx (i : Slot) (f : Terminal → Terminal) : (s.modTerm i f).tx = s.tx := rfl
@[simp] theorem State.modTerm_counters (i : Slot) (f : Terminal → Terminal) : (s.modTerm i f).counters = s.counters := rfl
@[simp] theorem State.modTerm_flow (i : Slot) (f : Terminal → Terminal) (j : FlowIdx) : (s.modTerm i f).flow j = s.flow j := rfl
@[simp] theorem State.modTerm_ctx (i : Slot) (f : Terminal → Terminal) (j : CtxNo) : (s.modTerm i f).ctx j = s.ctx j := rfl
@[simp] theorem State.modTerm_profile (i : Slot) (f : Terminal → Terminal) (j : ProfIdx) : (s.modTerm i f).profile j = s.profile j := rfl

@[simp] theorem State.modFlow_pending (i : FlowIdx) (f : Flow → Flow) : (s.modFlow i f).pending = s.pending := rfl
@[simp] theorem State.modFlow_straps (i : FlowIdx) (f : Flow → Flow) : (s.modFlow i f).straps = s.straps := rfl
@[simp] theorem State.modFlow_setup (i : FlowIdx) (f : Flow → Flow) : (s.modFlow i f).setup = s.setup := rfl
@[simp] theorem State.modFlow_profiles (i : FlowIdx) (f : Flow → Flow) : (s.modFlow i f).profiles = s.profiles := rfl
@[simp] theorem State.modFlow_terms (i : FlowIdx) (f : Flow → Flow) : (s.modFlow i f).terms = s.terms := rfl
@[simp] theorem State.modFlow_tags (i : FlowIdx) (f : Flow → Flow) : (s.modFlow i f).tags = s.tags := rfl
@[simp] theorem State.modFlow_link (i : FlowIdx) (f : Flow → Flow) : (s.modFlow i f).link = s.link := rfl
@[simp] theorem State.modFlow_reentry (i : FlowIdx) (f : Flow → Flow) : (s.modFlow i f).reentry = s.reentry := rfl
@[simp] theorem State.modFlow_ledger (i : FlowIdx) (f : Flow → Flow) : (s.modFlow i f).ledger = s.ledger := rfl
@[simp] theorem State.modFlow_buffer (i : FlowIdx) (f : Flow → Flow) : (s.modFlow i f).buffer = s.buffer := rfl
@[simp] theorem State.modFlow_resultStamp (i : FlowIdx) (f : Flow → Flow) : (s.modFlow i f).resultStamp = s.resultStamp := rfl
@[simp] theorem State.modFlow_mgmt (i : FlowIdx) (f : Flow → Flow) : (s.modFlow i f).mgmt = s.mgmt := rfl
@[simp] theorem State.modFlow_tx (i : FlowIdx) (f : Flow → Flow) : (s.modFlow i f).tx = s.tx := rfl
@[simp] theorem State.modFlow_counters (i : FlowIdx) (f : Flow → Flow) : (s.modFlow i f).counters = s.counters := rfl
@[simp] theorem State.modFlow_term (i : FlowIdx) (f : Flow → Flow) (j : Slot) : (s.modFlow i f).term j = s.term j := rfl
@[simp] theorem State.modFlow_ctx (i : FlowIdx) (f : Flow → Flow) (j : CtxNo) : (s.modFlow i f).ctx j = s.ctx j := rfl
@[simp] theorem State.modFlow_profile (i : FlowIdx) (f : Flow → Flow) (j : ProfIdx) : (s.modFlow i f).profile j = s.profile j := rfl

@[simp] theorem State.setCtx_pending (c : CtxNo) (a : Option Attempt) : (s.setCtx c a).pending = s.pending := rfl
@[simp] theorem State.setCtx_straps (c : CtxNo) (a : Option Attempt) : (s.setCtx c a).straps = s.straps := rfl
@[simp] theorem State.setCtx_setup (c : CtxNo) (a : Option Attempt) : (s.setCtx c a).setup = s.setup := rfl
@[simp] theorem State.setCtx_profiles (c : CtxNo) (a : Option Attempt) : (s.setCtx c a).profiles = s.profiles := rfl
@[simp] theorem State.setCtx_terms (c : CtxNo) (a : Option Attempt) : (s.setCtx c a).terms = s.terms := rfl
@[simp] theorem State.setCtx_flows (c : CtxNo) (a : Option Attempt) : (s.setCtx c a).flows = s.flows := rfl
@[simp] theorem State.setCtx_tags (c : CtxNo) (a : Option Attempt) : (s.setCtx c a).tags = s.tags := rfl
@[simp] theorem State.setCtx_link (c : CtxNo) (a : Option Attempt) : (s.setCtx c a).link = s.link := rfl
@[simp] theorem State.setCtx_ledger (c : CtxNo) (a : Option Attempt) : (s.setCtx c a).ledger = s.ledger := rfl
@[simp] theorem State.setCtx_buffer (c : CtxNo) (a : Option Attempt) : (s.setCtx c a).buffer = s.buffer := rfl
@[simp] theorem State.setCtx_resultStamp (c : CtxNo) (a : Option Attempt) : (s.setCtx c a).resultStamp = s.resultStamp := rfl
@[simp] theorem State.setCtx_mgmt (c : CtxNo) (a : Option Attempt) : (s.setCtx c a).mgmt = s.mgmt := rfl
@[simp] theorem State.setCtx_tx (c : CtxNo) (a : Option Attempt) : (s.setCtx c a).tx = s.tx := rfl
@[simp] theorem State.setCtx_counters (c : CtxNo) (a : Option Attempt) : (s.setCtx c a).counters = s.counters := rfl
@[simp] theorem State.setCtx_term (c : CtxNo) (a : Option Attempt) (j : Slot) : (s.setCtx c a).term j = s.term j := rfl
@[simp] theorem State.setCtx_flow (c : CtxNo) (a : Option Attempt) (j : FlowIdx) : (s.setCtx c a).flow j = s.flow j := rfl
@[simp] theorem State.setCtx_profile (c : CtxNo) (a : Option Attempt) (j : ProfIdx) : (s.setCtx c a).profile j = s.profile j := rfl

@[simp] theorem State.count_pending (f : SectorCounters → SectorCounters) : (s.count f).pending = s.pending := rfl
@[simp] theorem State.count_straps (f : SectorCounters → SectorCounters) : (s.count f).straps = s.straps := rfl
@[simp] theorem State.count_setup (f : SectorCounters → SectorCounters) : (s.count f).setup = s.setup := rfl
@[simp] theorem State.count_profiles (f : SectorCounters → SectorCounters) : (s.count f).profiles = s.profiles := rfl
@[simp] theorem State.count_terms (f : SectorCounters → SectorCounters) : (s.count f).terms = s.terms := rfl
@[simp] theorem State.count_flows (f : SectorCounters → SectorCounters) : (s.count f).flows = s.flows := rfl
@[simp] theorem State.count_tags (f : SectorCounters → SectorCounters) : (s.count f).tags = s.tags := rfl
@[simp] theorem State.count_link (f : SectorCounters → SectorCounters) : (s.count f).link = s.link := rfl
@[simp] theorem State.count_reentry (f : SectorCounters → SectorCounters) : (s.count f).reentry = s.reentry := rfl
@[simp] theorem State.count_ledger (f : SectorCounters → SectorCounters) : (s.count f).ledger = s.ledger := rfl
@[simp] theorem State.count_buffer (f : SectorCounters → SectorCounters) : (s.count f).buffer = s.buffer := rfl
@[simp] theorem State.count_resultStamp (f : SectorCounters → SectorCounters) : (s.count f).resultStamp = s.resultStamp := rfl
@[simp] theorem State.count_mgmt (f : SectorCounters → SectorCounters) : (s.count f).mgmt = s.mgmt := rfl
@[simp] theorem State.count_tx (f : SectorCounters → SectorCounters) : (s.count f).tx = s.tx := rfl
@[simp] theorem State.count_term (f : SectorCounters → SectorCounters) (j : Slot) : (s.count f).term j = s.term j := rfl
@[simp] theorem State.count_flow (f : SectorCounters → SectorCounters) (j : FlowIdx) : (s.count f).flow j = s.flow j := rfl
@[simp] theorem State.count_ctx (f : SectorCounters → SectorCounters) (j : CtxNo) : (s.count f).ctx j = s.ctx j := rfl
@[simp] theorem State.count_profile (f : SectorCounters → SectorCounters) (j : ProfIdx) : (s.count f).profile j = s.profile j := rfl

@[simp] theorem State.raise_pending (b : NoticeBody) : (s.raise b).pending = s.pending := rfl
@[simp] theorem State.raise_straps (b : NoticeBody) : (s.raise b).straps = s.straps := rfl
@[simp] theorem State.raise_setup (b : NoticeBody) : (s.raise b).setup = s.setup := rfl
@[simp] theorem State.raise_profiles (b : NoticeBody) : (s.raise b).profiles = s.profiles := rfl
@[simp] theorem State.raise_terms (b : NoticeBody) : (s.raise b).terms = s.terms := rfl
@[simp] theorem State.raise_flows (b : NoticeBody) : (s.raise b).flows = s.flows := rfl
@[simp] theorem State.raise_tags (b : NoticeBody) : (s.raise b).tags = s.tags := rfl
@[simp] theorem State.raise_link (b : NoticeBody) : (s.raise b).link = s.link := rfl
@[simp] theorem State.raise_reentry (b : NoticeBody) : (s.raise b).reentry = s.reentry := rfl
@[simp] theorem State.raise_ledger (b : NoticeBody) : (s.raise b).ledger = s.ledger := rfl
@[simp] theorem State.raise_buffer (b : NoticeBody) : (s.raise b).buffer = s.buffer := rfl
@[simp] theorem State.raise_resultStamp (b : NoticeBody) : (s.raise b).resultStamp = s.resultStamp := rfl
@[simp] theorem State.raise_tx (b : NoticeBody) : (s.raise b).tx = s.tx := rfl
@[simp] theorem State.raise_counters (b : NoticeBody) : (s.raise b).counters = s.counters := rfl
@[simp] theorem State.raise_term (b : NoticeBody) (j : Slot) : (s.raise b).term j = s.term j := rfl
@[simp] theorem State.raise_flow (b : NoticeBody) (j : FlowIdx) : (s.raise b).flow j = s.flow j := rfl
@[simp] theorem State.raise_ctx (b : NoticeBody) (j : CtxNo) : (s.raise b).ctx j = s.ctx j := rfl
@[simp] theorem State.raise_profile (b : NoticeBody) (j : ProfIdx) : (s.raise b).profile j = s.profile j := rfl

@[simp] theorem State.freeUp_pending (n : Nat) : (s.freeUp n).pending = s.pending := rfl
@[simp] theorem State.freeUp_straps (n : Nat) : (s.freeUp n).straps = s.straps := rfl
@[simp] theorem State.freeUp_setup (n : Nat) : (s.freeUp n).setup = s.setup := rfl
@[simp] theorem State.freeUp_profiles (n : Nat) : (s.freeUp n).profiles = s.profiles := rfl
@[simp] theorem State.freeUp_terms (n : Nat) : (s.freeUp n).terms = s.terms := rfl
@[simp] theorem State.freeUp_flows (n : Nat) : (s.freeUp n).flows = s.flows := rfl
@[simp] theorem State.freeUp_tags (n : Nat) : (s.freeUp n).tags = s.tags := rfl
@[simp] theorem State.freeUp_link (n : Nat) : (s.freeUp n).link = s.link := rfl
@[simp] theorem State.freeUp_reentry (n : Nat) : (s.freeUp n).reentry = s.reentry := rfl
@[simp] theorem State.freeUp_ledger (n : Nat) : (s.freeUp n).ledger = s.ledger := rfl
@[simp] theorem State.freeUp_resultStamp (n : Nat) : (s.freeUp n).resultStamp = s.resultStamp := rfl
@[simp] theorem State.freeUp_mgmt (n : Nat) : (s.freeUp n).mgmt = s.mgmt := rfl
@[simp] theorem State.freeUp_tx (n : Nat) : (s.freeUp n).tx = s.tx := rfl
@[simp] theorem State.freeUp_counters (n : Nat) : (s.freeUp n).counters = s.counters := rfl
@[simp] theorem State.freeUp_term (n : Nat) (j : Slot) : (s.freeUp n).term j = s.term j := rfl
@[simp] theorem State.freeUp_flow (n : Nat) (j : FlowIdx) : (s.freeUp n).flow j = s.flow j := rfl
@[simp] theorem State.freeUp_ctx (n : Nat) (j : CtxNo) : (s.freeUp n).ctx j = s.ctx j := rfl
@[simp] theorem State.freeUp_profile (n : Nat) (j : ProfIdx) : (s.freeUp n).profile j = s.profile j := rfl

@[simp] theorem State.flushAll_pending : (s.flushAll).pending = s.pending := rfl
@[simp] theorem State.flushAll_straps : (s.flushAll).straps = s.straps := rfl
@[simp] theorem State.flushAll_setup : (s.flushAll).setup = s.setup := rfl
@[simp] theorem State.flushAll_profiles : (s.flushAll).profiles = s.profiles := rfl
@[simp] theorem State.flushAll_terms : (s.flushAll).terms = s.terms := rfl
@[simp] theorem State.flushAll_tags : (s.flushAll).tags = s.tags := rfl
@[simp] theorem State.flushAll_link : (s.flushAll).link = s.link := rfl
@[simp] theorem State.flushAll_reentry : (s.flushAll).reentry = s.reentry := rfl
@[simp] theorem State.flushAll_ledger : (s.flushAll).ledger = s.ledger := rfl
@[simp] theorem State.flushAll_resultStamp : (s.flushAll).resultStamp = s.resultStamp := rfl
@[simp] theorem State.flushAll_mgmt : (s.flushAll).mgmt = s.mgmt := rfl
@[simp] theorem State.flushAll_tx : (s.flushAll).tx = s.tx := rfl
@[simp] theorem State.flushAll_counters : (s.flushAll).counters = s.counters := rfl
@[simp] theorem State.flushAll_term (j : Slot) : (s.flushAll).term j = s.term j := rfl
@[simp] theorem State.flushAll_ctx (j : CtxNo) : (s.flushAll).ctx j = s.ctx j := rfl
@[simp] theorem State.flushAll_profile (j : ProfIdx) : (s.flushAll).profile j = s.profile j := rfl

@[simp] theorem State.sumLoads_pending : (s.sumLoads).pending = s.pending := rfl
@[simp] theorem State.sumLoads_straps : (s.sumLoads).straps = s.straps := rfl
@[simp] theorem State.sumLoads_setup : (s.sumLoads).setup = s.setup := rfl
@[simp] theorem State.sumLoads_profiles : (s.sumLoads).profiles = s.profiles := rfl
@[simp] theorem State.sumLoads_terms : (s.sumLoads).terms = s.terms := rfl
@[simp] theorem State.sumLoads_flows : (s.sumLoads).flows = s.flows := rfl
@[simp] theorem State.sumLoads_tags : (s.sumLoads).tags = s.tags := rfl
@[simp] theorem State.sumLoads_link : (s.sumLoads).link = s.link := rfl
@[simp] theorem State.sumLoads_reentry : (s.sumLoads).reentry = s.reentry := rfl
@[simp] theorem State.sumLoads_buffer : (s.sumLoads).buffer = s.buffer := rfl
@[simp] theorem State.sumLoads_resultStamp : (s.sumLoads).resultStamp = s.resultStamp := rfl
@[simp] theorem State.sumLoads_mgmt : (s.sumLoads).mgmt = s.mgmt := rfl
@[simp] theorem State.sumLoads_tx : (s.sumLoads).tx = s.tx := rfl
@[simp] theorem State.sumLoads_counters : (s.sumLoads).counters = s.counters := rfl
@[simp] theorem State.sumLoads_term (j : Slot) : (s.sumLoads).term j = s.term j := rfl
@[simp] theorem State.sumLoads_flow (j : FlowIdx) : (s.sumLoads).flow j = s.flow j := rfl
@[simp] theorem State.sumLoads_ctx (j : CtxNo) : (s.sumLoads).ctx j = s.ctx j := rfl
@[simp] theorem State.sumLoads_profile (j : ProfIdx) : (s.sumLoads).profile j = s.profile j := rfl

@[simp] theorem State.placeReadmission_pending (f : FlowIdx) : (s.placeReadmission f).pending = s.pending := rfl
@[simp] theorem State.placeReadmission_straps (f : FlowIdx) : (s.placeReadmission f).straps = s.straps := rfl
@[simp] theorem State.placeReadmission_setup (f : FlowIdx) : (s.placeReadmission f).setup = s.setup := rfl
@[simp] theorem State.placeReadmission_profiles (f : FlowIdx) : (s.placeReadmission f).profiles = s.profiles := rfl
@[simp] theorem State.placeReadmission_terms (f : FlowIdx) : (s.placeReadmission f).terms = s.terms := rfl
@[simp] theorem State.placeReadmission_flows (f : FlowIdx) : (s.placeReadmission f).flows = s.flows := rfl
@[simp] theorem State.placeReadmission_tags (f : FlowIdx) : (s.placeReadmission f).tags = s.tags := rfl
@[simp] theorem State.placeReadmission_link (f : FlowIdx) : (s.placeReadmission f).link = s.link := rfl
@[simp] theorem State.placeReadmission_reentry (f : FlowIdx) : (s.placeReadmission f).reentry = s.reentry := rfl
@[simp] theorem State.placeReadmission_buffer (f : FlowIdx) : (s.placeReadmission f).buffer = s.buffer := rfl
@[simp] theorem State.placeReadmission_resultStamp (f : FlowIdx) : (s.placeReadmission f).resultStamp = s.resultStamp := rfl
@[simp] theorem State.placeReadmission_mgmt (f : FlowIdx) : (s.placeReadmission f).mgmt = s.mgmt := rfl
@[simp] theorem State.placeReadmission_tx (f : FlowIdx) : (s.placeReadmission f).tx = s.tx := rfl
@[simp] theorem State.placeReadmission_counters (f : FlowIdx) : (s.placeReadmission f).counters = s.counters := rfl
@[simp] theorem State.placeReadmission_term (f : FlowIdx) (j : Slot) : (s.placeReadmission f).term j = s.term j := rfl
@[simp] theorem State.placeReadmission_flow (f : FlowIdx) (j : FlowIdx) : (s.placeReadmission f).flow j = s.flow j := rfl
@[simp] theorem State.placeReadmission_ctx (f : FlowIdx) (j : CtxNo) : (s.placeReadmission f).ctx j = s.ctx j := rfl
@[simp] theorem State.placeReadmission_profile (f : FlowIdx) (j : ProfIdx) : (s.placeReadmission f).profile j = s.profile j := rfl

@[simp] theorem State.unlist_pending (f : FlowIdx) : (s.unlist f).pending = s.pending := rfl
@[simp] theorem State.unlist_straps (f : FlowIdx) : (s.unlist f).straps = s.straps := rfl
@[simp] theorem State.unlist_setup (f : FlowIdx) : (s.unlist f).setup = s.setup := rfl
@[simp] theorem State.unlist_profiles (f : FlowIdx) : (s.unlist f).profiles = s.profiles := rfl
@[simp] theorem State.unlist_terms (f : FlowIdx) : (s.unlist f).terms = s.terms := rfl
@[simp] theorem State.unlist_flows (f : FlowIdx) : (s.unlist f).flows = s.flows := rfl
@[simp] theorem State.unlist_tags (f : FlowIdx) : (s.unlist f).tags = s.tags := rfl
@[simp] theorem State.unlist_link (f : FlowIdx) : (s.unlist f).link = s.link := rfl
@[simp] theorem State.unlist_reentry (f : FlowIdx) : (s.unlist f).reentry = s.reentry := rfl
@[simp] theorem State.unlist_buffer (f : FlowIdx) : (s.unlist f).buffer = s.buffer := rfl
@[simp] theorem State.unlist_resultStamp (f : FlowIdx) : (s.unlist f).resultStamp = s.resultStamp := rfl
@[simp] theorem State.unlist_mgmt (f : FlowIdx) : (s.unlist f).mgmt = s.mgmt := rfl
@[simp] theorem State.unlist_tx (f : FlowIdx) : (s.unlist f).tx = s.tx := rfl
@[simp] theorem State.unlist_counters (f : FlowIdx) : (s.unlist f).counters = s.counters := rfl
@[simp] theorem State.unlist_term (f : FlowIdx) (j : Slot) : (s.unlist f).term j = s.term j := rfl
@[simp] theorem State.unlist_flow (f : FlowIdx) (j : FlowIdx) : (s.unlist f).flow j = s.flow j := rfl
@[simp] theorem State.unlist_ctx (f : FlowIdx) (j : CtxNo) : (s.unlist f).ctx j = s.ctx j := rfl
@[simp] theorem State.unlist_profile (f : FlowIdx) (j : ProfIdx) : (s.unlist f).profile j = s.profile j := rfl

@[simp] theorem State.rebuildLedger_pending : (s.rebuildLedger).pending = s.pending := rfl
@[simp] theorem State.rebuildLedger_straps : (s.rebuildLedger).straps = s.straps := rfl
@[simp] theorem State.rebuildLedger_setup : (s.rebuildLedger).setup = s.setup := rfl
@[simp] theorem State.rebuildLedger_profiles : (s.rebuildLedger).profiles = s.profiles := rfl
@[simp] theorem State.rebuildLedger_tags : (s.rebuildLedger).tags = s.tags := rfl
@[simp] theorem State.rebuildLedger_link : (s.rebuildLedger).link = s.link := rfl
@[simp] theorem State.rebuildLedger_reentry : (s.rebuildLedger).reentry = s.reentry := rfl
@[simp] theorem State.rebuildLedger_buffer : (s.rebuildLedger).buffer = s.buffer := rfl
@[simp] theorem State.rebuildLedger_resultStamp : (s.rebuildLedger).resultStamp = s.resultStamp := rfl
@[simp] theorem State.rebuildLedger_mgmt : (s.rebuildLedger).mgmt = s.mgmt := rfl
@[simp] theorem State.rebuildLedger_tx : (s.rebuildLedger).tx = s.tx := rfl
@[simp] theorem State.rebuildLedger_counters : (s.rebuildLedger).counters = s.counters := rfl
@[simp] theorem State.rebuildLedger_ctx (j : CtxNo) : (s.rebuildLedger).ctx j = s.ctx j := rfl
@[simp] theorem State.rebuildLedger_profile (j : ProfIdx) : (s.rebuildLedger).profile j = s.profile j := rfl

@[simp] theorem State.placeReentry_pending (i : Slot) : (s.placeReentry i).pending = s.pending := rfl
@[simp] theorem State.placeReentry_straps (i : Slot) : (s.placeReentry i).straps = s.straps := rfl
@[simp] theorem State.placeReentry_setup (i : Slot) : (s.placeReentry i).setup = s.setup := rfl
@[simp] theorem State.placeReentry_profiles (i : Slot) : (s.placeReentry i).profiles = s.profiles := rfl
@[simp] theorem State.placeReentry_terms (i : Slot) : (s.placeReentry i).terms = s.terms := rfl
@[simp] theorem State.placeReentry_flows (i : Slot) : (s.placeReentry i).flows = s.flows := rfl
@[simp] theorem State.placeReentry_tags (i : Slot) : (s.placeReentry i).tags = s.tags := rfl
@[simp] theorem State.placeReentry_link (i : Slot) : (s.placeReentry i).link = s.link := rfl
@[simp] theorem State.placeReentry_ledger (i : Slot) : (s.placeReentry i).ledger = s.ledger := rfl
@[simp] theorem State.placeReentry_buffer (i : Slot) : (s.placeReentry i).buffer = s.buffer := rfl
@[simp] theorem State.placeReentry_resultStamp (i : Slot) : (s.placeReentry i).resultStamp = s.resultStamp := rfl
@[simp] theorem State.placeReentry_mgmt (i : Slot) : (s.placeReentry i).mgmt = s.mgmt := rfl
@[simp] theorem State.placeReentry_tx (i : Slot) : (s.placeReentry i).tx = s.tx := rfl
@[simp] theorem State.placeReentry_counters (i : Slot) : (s.placeReentry i).counters = s.counters := rfl
@[simp] theorem State.placeReentry_term (i : Slot) (j : Slot) : (s.placeReentry i).term j = s.term j := rfl
@[simp] theorem State.placeReentry_flow (i : Slot) (j : FlowIdx) : (s.placeReentry i).flow j = s.flow j := rfl
@[simp] theorem State.placeReentry_ctx (i : Slot) (j : CtxNo) : (s.placeReentry i).ctx j = s.ctx j := rfl
@[simp] theorem State.placeReentry_profile (i : Slot) (j : ProfIdx) : (s.placeReentry i).profile j = s.profile j := rfl

@[simp] theorem State.unqueue_pending (i : Slot) : (s.unqueue i).pending = s.pending := rfl
@[simp] theorem State.unqueue_straps (i : Slot) : (s.unqueue i).straps = s.straps := rfl
@[simp] theorem State.unqueue_setup (i : Slot) : (s.unqueue i).setup = s.setup := rfl
@[simp] theorem State.unqueue_profiles (i : Slot) : (s.unqueue i).profiles = s.profiles := rfl
@[simp] theorem State.unqueue_terms (i : Slot) : (s.unqueue i).terms = s.terms := rfl
@[simp] theorem State.unqueue_flows (i : Slot) : (s.unqueue i).flows = s.flows := rfl
@[simp] theorem State.unqueue_tags (i : Slot) : (s.unqueue i).tags = s.tags := rfl
@[simp] theorem State.unqueue_link (i : Slot) : (s.unqueue i).link = s.link := rfl
@[simp] theorem State.unqueue_ledger (i : Slot) : (s.unqueue i).ledger = s.ledger := rfl
@[simp] theorem State.unqueue_buffer (i : Slot) : (s.unqueue i).buffer = s.buffer := rfl
@[simp] theorem State.unqueue_resultStamp (i : Slot) : (s.unqueue i).resultStamp = s.resultStamp := rfl
@[simp] theorem State.unqueue_mgmt (i : Slot) : (s.unqueue i).mgmt = s.mgmt := rfl
@[simp] theorem State.unqueue_tx (i : Slot) : (s.unqueue i).tx = s.tx := rfl
@[simp] theorem State.unqueue_counters (i : Slot) : (s.unqueue i).counters = s.counters := rfl
@[simp] theorem State.unqueue_term (i : Slot) (j : Slot) : (s.unqueue i).term j = s.term j := rfl
@[simp] theorem State.unqueue_flow (i : Slot) (j : FlowIdx) : (s.unqueue i).flow j = s.flow j := rfl
@[simp] theorem State.unqueue_ctx (i : Slot) (j : CtxNo) : (s.unqueue i).ctx j = s.ctx j := rfl
@[simp] theorem State.unqueue_profile (i : Slot) (j : ProfIdx) : (s.unqueue i).profile j = s.profile j := rfl

@[simp] theorem State.restartWindows_pending : (s.restartWindows).pending = s.pending := rfl
@[simp] theorem State.restartWindows_straps : (s.restartWindows).straps = s.straps := rfl
@[simp] theorem State.restartWindows_setup : (s.restartWindows).setup = s.setup := rfl
@[simp] theorem State.restartWindows_profiles : (s.restartWindows).profiles = s.profiles := rfl
@[simp] theorem State.restartWindows_flows : (s.restartWindows).flows = s.flows := rfl
@[simp] theorem State.restartWindows_tags : (s.restartWindows).tags = s.tags := rfl
@[simp] theorem State.restartWindows_link : (s.restartWindows).link = s.link := rfl
@[simp] theorem State.restartWindows_reentry : (s.restartWindows).reentry = s.reentry := rfl
@[simp] theorem State.restartWindows_ledger : (s.restartWindows).ledger = s.ledger := rfl
@[simp] theorem State.restartWindows_buffer : (s.restartWindows).buffer = s.buffer := rfl
@[simp] theorem State.restartWindows_resultStamp : (s.restartWindows).resultStamp = s.resultStamp := rfl
@[simp] theorem State.restartWindows_mgmt : (s.restartWindows).mgmt = s.mgmt := rfl
@[simp] theorem State.restartWindows_tx : (s.restartWindows).tx = s.tx := rfl
@[simp] theorem State.restartWindows_counters : (s.restartWindows).counters = s.counters := rfl
@[simp] theorem State.restartWindows_flow (j : FlowIdx) : (s.restartWindows).flow j = s.flow j := rfl
@[simp] theorem State.restartWindows_ctx (j : CtxNo) : (s.restartWindows).ctx j = s.ctx j := rfl
@[simp] theorem State.restartWindows_profile (j : ProfIdx) : (s.restartWindows).profile j = s.profile j := rfl

@[simp] theorem State.clearWindows_pending : (s.clearWindows).pending = s.pending := rfl
@[simp] theorem State.clearWindows_straps : (s.clearWindows).straps = s.straps := rfl
@[simp] theorem State.clearWindows_setup : (s.clearWindows).setup = s.setup := rfl
@[simp] theorem State.clearWindows_profiles : (s.clearWindows).profiles = s.profiles := rfl
@[simp] theorem State.clearWindows_flows : (s.clearWindows).flows = s.flows := rfl
@[simp] theorem State.clearWindows_tags : (s.clearWindows).tags = s.tags := rfl
@[simp] theorem State.clearWindows_link : (s.clearWindows).link = s.link := rfl
@[simp] theorem State.clearWindows_reentry : (s.clearWindows).reentry = s.reentry := rfl
@[simp] theorem State.clearWindows_ledger : (s.clearWindows).ledger = s.ledger := rfl
@[simp] theorem State.clearWindows_buffer : (s.clearWindows).buffer = s.buffer := rfl
@[simp] theorem State.clearWindows_resultStamp : (s.clearWindows).resultStamp = s.resultStamp := rfl
@[simp] theorem State.clearWindows_mgmt : (s.clearWindows).mgmt = s.mgmt := rfl
@[simp] theorem State.clearWindows_tx : (s.clearWindows).tx = s.tx := rfl
@[simp] theorem State.clearWindows_counters : (s.clearWindows).counters = s.counters := rfl
@[simp] theorem State.clearWindows_flow (j : FlowIdx) : (s.clearWindows).flow j = s.flow j := rfl
@[simp] theorem State.clearWindows_ctx (j : CtxNo) : (s.clearWindows).ctx j = s.ctx j := rfl
@[simp] theorem State.clearWindows_profile (j : ProfIdx) : (s.clearWindows).profile j = s.profile j := rfl

@[simp] theorem State.send_pending (r : LinkRecord) : (s.send r).pending = s.pending := rfl
@[simp] theorem State.send_straps (r : LinkRecord) : (s.send r).straps = s.straps := rfl
@[simp] theorem State.send_setup (r : LinkRecord) : (s.send r).setup = s.setup := rfl
@[simp] theorem State.send_profiles (r : LinkRecord) : (s.send r).profiles = s.profiles := rfl
@[simp] theorem State.send_terms (r : LinkRecord) : (s.send r).terms = s.terms := rfl
@[simp] theorem State.send_flows (r : LinkRecord) : (s.send r).flows = s.flows := rfl
@[simp] theorem State.send_tags (r : LinkRecord) : (s.send r).tags = s.tags := rfl
@[simp] theorem State.send_reentry (r : LinkRecord) : (s.send r).reentry = s.reentry := rfl
@[simp] theorem State.send_ledger (r : LinkRecord) : (s.send r).ledger = s.ledger := rfl
@[simp] theorem State.send_buffer (r : LinkRecord) : (s.send r).buffer = s.buffer := rfl
@[simp] theorem State.send_resultStamp (r : LinkRecord) : (s.send r).resultStamp = s.resultStamp := rfl
@[simp] theorem State.send_mgmt (r : LinkRecord) : (s.send r).mgmt = s.mgmt := rfl
@[simp] theorem State.send_tx (r : LinkRecord) : (s.send r).tx = s.tx := rfl
@[simp] theorem State.send_counters (r : LinkRecord) : (s.send r).counters = s.counters := rfl
@[simp] theorem State.send_term (r : LinkRecord) (j : Slot) : (s.send r).term j = s.term j := rfl
@[simp] theorem State.send_flow (r : LinkRecord) (j : FlowIdx) : (s.send r).flow j = s.flow j := rfl
@[simp] theorem State.send_ctx (r : LinkRecord) (j : CtxNo) : (s.send r).ctx j = s.ctx j := rfl
@[simp] theorem State.send_profile (r : LinkRecord) (j : ProfIdx) : (s.send r).profile j = s.profile j := rfl

@[simp] theorem State.setCredit_pending (n : Nat) : (s.setCredit n).pending = s.pending := rfl
@[simp] theorem State.setCredit_straps (n : Nat) : (s.setCredit n).straps = s.straps := rfl
@[simp] theorem State.setCredit_setup (n : Nat) : (s.setCredit n).setup = s.setup := rfl
@[simp] theorem State.setCredit_profiles (n : Nat) : (s.setCredit n).profiles = s.profiles := rfl
@[simp] theorem State.setCredit_terms (n : Nat) : (s.setCredit n).terms = s.terms := rfl
@[simp] theorem State.setCredit_flows (n : Nat) : (s.setCredit n).flows = s.flows := rfl
@[simp] theorem State.setCredit_tags (n : Nat) : (s.setCredit n).tags = s.tags := rfl
@[simp] theorem State.setCredit_link (n : Nat) : (s.setCredit n).link = s.link := rfl
@[simp] theorem State.setCredit_ledger (n : Nat) : (s.setCredit n).ledger = s.ledger := rfl
@[simp] theorem State.setCredit_buffer (n : Nat) : (s.setCredit n).buffer = s.buffer := rfl
@[simp] theorem State.setCredit_resultStamp (n : Nat) : (s.setCredit n).resultStamp = s.resultStamp := rfl
@[simp] theorem State.setCredit_mgmt (n : Nat) : (s.setCredit n).mgmt = s.mgmt := rfl
@[simp] theorem State.setCredit_tx (n : Nat) : (s.setCredit n).tx = s.tx := rfl
@[simp] theorem State.setCredit_counters (n : Nat) : (s.setCredit n).counters = s.counters := rfl
@[simp] theorem State.setCredit_term (n : Nat) (j : Slot) : (s.setCredit n).term j = s.term j := rfl
@[simp] theorem State.setCredit_flow (n : Nat) (j : FlowIdx) : (s.setCredit n).flow j = s.flow j := rfl
@[simp] theorem State.setCredit_ctx (n : Nat) (j : CtxNo) : (s.setCredit n).ctx j = s.ctx j := rfl
@[simp] theorem State.setCredit_profile (n : Nat) (j : ProfIdx) : (s.setCredit n).profile j = s.profile j := rfl

@[simp] theorem State.clearReentry_pending : (s.clearReentry).pending = s.pending := rfl
@[simp] theorem State.clearReentry_straps : (s.clearReentry).straps = s.straps := rfl
@[simp] theorem State.clearReentry_setup : (s.clearReentry).setup = s.setup := rfl
@[simp] theorem State.clearReentry_profiles : (s.clearReentry).profiles = s.profiles := rfl
@[simp] theorem State.clearReentry_terms : (s.clearReentry).terms = s.terms := rfl
@[simp] theorem State.clearReentry_flows : (s.clearReentry).flows = s.flows := rfl
@[simp] theorem State.clearReentry_tags : (s.clearReentry).tags = s.tags := rfl
@[simp] theorem State.clearReentry_link : (s.clearReentry).link = s.link := rfl
@[simp] theorem State.clearReentry_ledger : (s.clearReentry).ledger = s.ledger := rfl
@[simp] theorem State.clearReentry_buffer : (s.clearReentry).buffer = s.buffer := rfl
@[simp] theorem State.clearReentry_resultStamp : (s.clearReentry).resultStamp = s.resultStamp := rfl
@[simp] theorem State.clearReentry_mgmt : (s.clearReentry).mgmt = s.mgmt := rfl
@[simp] theorem State.clearReentry_tx : (s.clearReentry).tx = s.tx := rfl
@[simp] theorem State.clearReentry_counters : (s.clearReentry).counters = s.counters := rfl
@[simp] theorem State.clearReentry_term (j : Slot) : (s.clearReentry).term j = s.term j := rfl
@[simp] theorem State.clearReentry_flow (j : FlowIdx) : (s.clearReentry).flow j = s.flow j := rfl
@[simp] theorem State.clearReentry_profile (j : ProfIdx) : (s.clearReentry).profile j = s.profile j := rfl

@[simp] theorem State.stepCredit_pending : (s.stepCredit).pending = s.pending := rfl
@[simp] theorem State.stepCredit_straps : (s.stepCredit).straps = s.straps := rfl
@[simp] theorem State.stepCredit_setup : (s.stepCredit).setup = s.setup := rfl
@[simp] theorem State.stepCredit_profiles : (s.stepCredit).profiles = s.profiles := rfl
@[simp] theorem State.stepCredit_terms : (s.stepCredit).terms = s.terms := rfl
@[simp] theorem State.stepCredit_tags : (s.stepCredit).tags = s.tags := rfl
@[simp] theorem State.stepCredit_link : (s.stepCredit).link = s.link := rfl
@[simp] theorem State.stepCredit_reentry : (s.stepCredit).reentry = s.reentry := rfl
@[simp] theorem State.stepCredit_ledger : (s.stepCredit).ledger = s.ledger := rfl
@[simp] theorem State.stepCredit_buffer : (s.stepCredit).buffer = s.buffer := rfl
@[simp] theorem State.stepCredit_resultStamp : (s.stepCredit).resultStamp = s.resultStamp := rfl
@[simp] theorem State.stepCredit_mgmt : (s.stepCredit).mgmt = s.mgmt := rfl
@[simp] theorem State.stepCredit_tx : (s.stepCredit).tx = s.tx := rfl
@[simp] theorem State.stepCredit_counters : (s.stepCredit).counters = s.counters := rfl
@[simp] theorem State.stepCredit_term (j : Slot) : (s.stepCredit).term j = s.term j := rfl
@[simp] theorem State.stepCredit_ctx (j : CtxNo) : (s.stepCredit).ctx j = s.ctx j := rfl
@[simp] theorem State.stepCredit_profile (j : ProfIdx) : (s.stepCredit).profile j = s.profile j := rfl

@[simp] theorem State.setSectorUp_pending (u : Bool) : (s.setSectorUp u).pending = s.pending := rfl
@[simp] theorem State.setSectorUp_straps (u : Bool) : (s.setSectorUp u).straps = s.straps := rfl
@[simp] theorem State.setSectorUp_setup (u : Bool) : (s.setSectorUp u).setup = s.setup := rfl
@[simp] theorem State.setSectorUp_profiles (u : Bool) : (s.setSectorUp u).profiles = s.profiles := rfl
@[simp] theorem State.setSectorUp_terms (u : Bool) : (s.setSectorUp u).terms = s.terms := rfl
@[simp] theorem State.setSectorUp_flows (u : Bool) : (s.setSectorUp u).flows = s.flows := rfl
@[simp] theorem State.setSectorUp_tags (u : Bool) : (s.setSectorUp u).tags = s.tags := rfl
@[simp] theorem State.setSectorUp_reentry (u : Bool) : (s.setSectorUp u).reentry = s.reentry := rfl
@[simp] theorem State.setSectorUp_ledger (u : Bool) : (s.setSectorUp u).ledger = s.ledger := rfl
@[simp] theorem State.setSectorUp_buffer (u : Bool) : (s.setSectorUp u).buffer = s.buffer := rfl
@[simp] theorem State.setSectorUp_resultStamp (u : Bool) : (s.setSectorUp u).resultStamp = s.resultStamp := rfl
@[simp] theorem State.setSectorUp_mgmt (u : Bool) : (s.setSectorUp u).mgmt = s.mgmt := rfl
@[simp] theorem State.setSectorUp_tx (u : Bool) : (s.setSectorUp u).tx = s.tx := rfl
@[simp] theorem State.setSectorUp_counters (u : Bool) : (s.setSectorUp u).counters = s.counters := rfl
@[simp] theorem State.setSectorUp_term (u : Bool) (j : Slot) : (s.setSectorUp u).term j = s.term j := rfl
@[simp] theorem State.setSectorUp_flow (u : Bool) (j : FlowIdx) : (s.setSectorUp u).flow j = s.flow j := rfl
@[simp] theorem State.setSectorUp_ctx (u : Bool) (j : CtxNo) : (s.setSectorUp u).ctx j = s.ctx j := rfl
@[simp] theorem State.setSectorUp_profile (u : Bool) (j : ProfIdx) : (s.setSectorUp u).profile j = s.profile j := rfl

@[simp] theorem State.dropRequest_pending : (s.dropRequest).pending = s.pending := rfl
@[simp] theorem State.dropRequest_straps : (s.dropRequest).straps = s.straps := rfl
@[simp] theorem State.dropRequest_setup : (s.dropRequest).setup = s.setup := rfl
@[simp] theorem State.dropRequest_profiles : (s.dropRequest).profiles = s.profiles := rfl
@[simp] theorem State.dropRequest_terms : (s.dropRequest).terms = s.terms := rfl
@[simp] theorem State.dropRequest_flows : (s.dropRequest).flows = s.flows := rfl
@[simp] theorem State.dropRequest_tags : (s.dropRequest).tags = s.tags := rfl
@[simp] theorem State.dropRequest_link : (s.dropRequest).link = s.link := rfl
@[simp] theorem State.dropRequest_reentry : (s.dropRequest).reentry = s.reentry := rfl
@[simp] theorem State.dropRequest_ledger : (s.dropRequest).ledger = s.ledger := rfl
@[simp] theorem State.dropRequest_buffer : (s.dropRequest).buffer = s.buffer := rfl
@[simp] theorem State.dropRequest_resultStamp : (s.dropRequest).resultStamp = s.resultStamp := rfl
@[simp] theorem State.dropRequest_tx : (s.dropRequest).tx = s.tx := rfl
@[simp] theorem State.dropRequest_counters : (s.dropRequest).counters = s.counters := rfl
@[simp] theorem State.dropRequest_term (j : Slot) : (s.dropRequest).term j = s.term j := rfl
@[simp] theorem State.dropRequest_flow (j : FlowIdx) : (s.dropRequest).flow j = s.flow j := rfl
@[simp] theorem State.dropRequest_ctx (j : CtxNo) : (s.dropRequest).ctx j = s.ctx j := rfl
@[simp] theorem State.dropRequest_profile (j : ProfIdx) : (s.dropRequest).profile j = s.profile j := rfl

@[simp] theorem State.setProfile_pending (p : ProfIdx) (e : Profile) : (s.setProfile p e).pending = s.pending := rfl
@[simp] theorem State.setProfile_straps (p : ProfIdx) (e : Profile) : (s.setProfile p e).straps = s.straps := rfl
@[simp] theorem State.setProfile_setup (p : ProfIdx) (e : Profile) : (s.setProfile p e).setup = s.setup := rfl
@[simp] theorem State.setProfile_terms (p : ProfIdx) (e : Profile) : (s.setProfile p e).terms = s.terms := rfl
@[simp] theorem State.setProfile_flows (p : ProfIdx) (e : Profile) : (s.setProfile p e).flows = s.flows := rfl
@[simp] theorem State.setProfile_tags (p : ProfIdx) (e : Profile) : (s.setProfile p e).tags = s.tags := rfl
@[simp] theorem State.setProfile_link (p : ProfIdx) (e : Profile) : (s.setProfile p e).link = s.link := rfl
@[simp] theorem State.setProfile_reentry (p : ProfIdx) (e : Profile) : (s.setProfile p e).reentry = s.reentry := rfl
@[simp] theorem State.setProfile_ledger (p : ProfIdx) (e : Profile) : (s.setProfile p e).ledger = s.ledger := rfl
@[simp] theorem State.setProfile_buffer (p : ProfIdx) (e : Profile) : (s.setProfile p e).buffer = s.buffer := rfl
@[simp] theorem State.setProfile_resultStamp (p : ProfIdx) (e : Profile) : (s.setProfile p e).resultStamp = s.resultStamp := rfl
@[simp] theorem State.setProfile_mgmt (p : ProfIdx) (e : Profile) : (s.setProfile p e).mgmt = s.mgmt := rfl
@[simp] theorem State.setProfile_tx (p : ProfIdx) (e : Profile) : (s.setProfile p e).tx = s.tx := rfl
@[simp] theorem State.setProfile_counters (p : ProfIdx) (e : Profile) : (s.setProfile p e).counters = s.counters := rfl
@[simp] theorem State.setProfile_term (p : ProfIdx) (e : Profile) (j : Slot) : (s.setProfile p e).term j = s.term j := rfl
@[simp] theorem State.setProfile_flow (p : ProfIdx) (e : Profile) (j : FlowIdx) : (s.setProfile p e).flow j = s.flow j := rfl
@[simp] theorem State.setProfile_ctx (p : ProfIdx) (e : Profile) (j : CtxNo) : (s.setProfile p e).ctx j = s.ctx j := rfl

@[simp] theorem State.writeTags_pending (l : List Tag) (v : Option FlowIdx) : (s.writeTags l v).pending = s.pending := rfl
@[simp] theorem State.writeTags_straps (l : List Tag) (v : Option FlowIdx) : (s.writeTags l v).straps = s.straps := rfl
@[simp] theorem State.writeTags_setup (l : List Tag) (v : Option FlowIdx) : (s.writeTags l v).setup = s.setup := rfl
@[simp] theorem State.writeTags_profiles (l : List Tag) (v : Option FlowIdx) : (s.writeTags l v).profiles = s.profiles := rfl
@[simp] theorem State.writeTags_terms (l : List Tag) (v : Option FlowIdx) : (s.writeTags l v).terms = s.terms := rfl
@[simp] theorem State.writeTags_flows (l : List Tag) (v : Option FlowIdx) : (s.writeTags l v).flows = s.flows := rfl
@[simp] theorem State.writeTags_link (l : List Tag) (v : Option FlowIdx) : (s.writeTags l v).link = s.link := rfl
@[simp] theorem State.writeTags_reentry (l : List Tag) (v : Option FlowIdx) : (s.writeTags l v).reentry = s.reentry := rfl
@[simp] theorem State.writeTags_ledger (l : List Tag) (v : Option FlowIdx) : (s.writeTags l v).ledger = s.ledger := rfl
@[simp] theorem State.writeTags_buffer (l : List Tag) (v : Option FlowIdx) : (s.writeTags l v).buffer = s.buffer := rfl
@[simp] theorem State.writeTags_resultStamp (l : List Tag) (v : Option FlowIdx) : (s.writeTags l v).resultStamp = s.resultStamp := rfl
@[simp] theorem State.writeTags_mgmt (l : List Tag) (v : Option FlowIdx) : (s.writeTags l v).mgmt = s.mgmt := rfl
@[simp] theorem State.writeTags_tx (l : List Tag) (v : Option FlowIdx) : (s.writeTags l v).tx = s.tx := rfl
@[simp] theorem State.writeTags_counters (l : List Tag) (v : Option FlowIdx) : (s.writeTags l v).counters = s.counters := rfl
@[simp] theorem State.writeTags_term (l : List Tag) (v : Option FlowIdx) (j : Slot) : (s.writeTags l v).term j = s.term j := rfl
@[simp] theorem State.writeTags_flow (l : List Tag) (v : Option FlowIdx) (j : FlowIdx) : (s.writeTags l v).flow j = s.flow j := rfl
@[simp] theorem State.writeTags_ctx (l : List Tag) (v : Option FlowIdx) (j : CtxNo) : (s.writeTags l v).ctx j = s.ctx j := rfl
@[simp] theorem State.writeTags_profile (l : List Tag) (v : Option FlowIdx) (j : ProfIdx) : (s.writeTags l v).profile j = s.profile j := rfl

@[simp] theorem State.clearAllCounters_pending : (s.clearAllCounters).pending = s.pending := rfl
@[simp] theorem State.clearAllCounters_straps : (s.clearAllCounters).straps = s.straps := rfl
@[simp] theorem State.clearAllCounters_setup : (s.clearAllCounters).setup = s.setup := rfl
@[simp] theorem State.clearAllCounters_profiles : (s.clearAllCounters).profiles = s.profiles := rfl
@[simp] theorem State.clearAllCounters_tags : (s.clearAllCounters).tags = s.tags := rfl
@[simp] theorem State.clearAllCounters_link : (s.clearAllCounters).link = s.link := rfl
@[simp] theorem State.clearAllCounters_reentry : (s.clearAllCounters).reentry = s.reentry := rfl
@[simp] theorem State.clearAllCounters_ledger : (s.clearAllCounters).ledger = s.ledger := rfl
@[simp] theorem State.clearAllCounters_buffer : (s.clearAllCounters).buffer = s.buffer := rfl
@[simp] theorem State.clearAllCounters_resultStamp : (s.clearAllCounters).resultStamp = s.resultStamp := rfl
@[simp] theorem State.clearAllCounters_mgmt : (s.clearAllCounters).mgmt = s.mgmt := rfl
@[simp] theorem State.clearAllCounters_tx : (s.clearAllCounters).tx = s.tx := rfl
@[simp] theorem State.clearAllCounters_ctx (j : CtxNo) : (s.clearAllCounters).ctx j = s.ctx j := rfl
@[simp] theorem State.clearAllCounters_profile (j : ProfIdx) : (s.clearAllCounters).profile j = s.profile j := rfl

@[simp] theorem State.clearFlags_pending : (s.clearFlags).pending = s.pending := rfl
@[simp] theorem State.clearFlags_straps : (s.clearFlags).straps = s.straps := rfl
@[simp] theorem State.clearFlags_setup : (s.clearFlags).setup = s.setup := rfl
@[simp] theorem State.clearFlags_profiles : (s.clearFlags).profiles = s.profiles := rfl
@[simp] theorem State.clearFlags_flows : (s.clearFlags).flows = s.flows := rfl
@[simp] theorem State.clearFlags_tags : (s.clearFlags).tags = s.tags := rfl
@[simp] theorem State.clearFlags_link : (s.clearFlags).link = s.link := rfl
@[simp] theorem State.clearFlags_reentry : (s.clearFlags).reentry = s.reentry := rfl
@[simp] theorem State.clearFlags_ledger : (s.clearFlags).ledger = s.ledger := rfl
@[simp] theorem State.clearFlags_buffer : (s.clearFlags).buffer = s.buffer := rfl
@[simp] theorem State.clearFlags_resultStamp : (s.clearFlags).resultStamp = s.resultStamp := rfl
@[simp] theorem State.clearFlags_tx : (s.clearFlags).tx = s.tx := rfl
@[simp] theorem State.clearFlags_counters : (s.clearFlags).counters = s.counters := rfl
@[simp] theorem State.clearFlags_flow (j : FlowIdx) : (s.clearFlags).flow j = s.flow j := rfl
@[simp] theorem State.clearFlags_ctx (j : CtxNo) : (s.clearFlags).ctx j = s.ctx j := rfl
@[simp] theorem State.clearFlags_profile (j : ProfIdx) : (s.clearFlags).profile j = s.profile j := rfl

/-! ### One record after a write -/

/-- A terminal record after a change of one. -/
theorem State.modTerm_term (i j : Slot) (f : Terminal → Terminal) :
    (s.modTerm i f).term j = if j = i then f (s.term i) else s.term j := Table.get_put ..

@[simp] theorem State.modTerm_term_same (i : Slot) (f : Terminal → Terminal) :
    (s.modTerm i f).term i = f (s.term i) := Table.get_put_same ..

theorem State.modTerm_term_other {i j : Slot} (f : Terminal → Terminal) (h : j ≠ i) :
    (s.modTerm i f).term j = s.term j := Table.get_put_other _ _ _ _ h

/-- A flow record after a change of one. -/
theorem State.modFlow_flow (i j : FlowIdx) (f : Flow → Flow) :
    (s.modFlow i f).flow j = if j = i then f (s.flow i) else s.flow j := Table.get_put ..

@[simp] theorem State.modFlow_flow_same (i : FlowIdx) (f : Flow → Flow) :
    (s.modFlow i f).flow i = f (s.flow i) := Table.get_put_same ..

theorem State.modFlow_flow_other {i j : FlowIdx} (f : Flow → Flow) (h : j ≠ i) :
    (s.modFlow i f).flow j = s.flow j := Table.get_put_other _ _ _ _ h

/-- A context after one is written. -/
theorem State.setCtx_ctx (c d : CtxNo) (a : Option Attempt) :
    (s.setCtx c a).ctx d = if d = c then a else s.ctx d := Table.get_put ..

@[simp] theorem State.setCtx_ctx_same (c : CtxNo) (a : Option Attempt) : (s.setCtx c a).ctx c = a :=
  Table.get_put_same ..

theorem State.setCtx_ctx_other {c d : CtxNo} (a : Option Attempt) (h : d ≠ c) :
    (s.setCtx c a).ctx d = s.ctx d := Table.get_put_other _ _ _ _ h

@[simp] theorem State.setCtx_queue (c : CtxNo) (a : Option Attempt) :
    (s.setCtx c a).reentry.queue = s.reentry.queue := rfl

@[simp] theorem State.setCtx_credit (c : CtxNo) (a : Option Attempt) :
    (s.setCtx c a).reentry.credit = s.reentry.credit := rfl

@[simp] theorem State.setCtx_grants (c : CtxNo) (a : Option Attempt) :
    (s.setCtx c a).reentry.grants = s.reentry.grants := rfl

/-- A profile table entry after one is written. -/
theorem State.setProfile_profile (p q : ProfIdx) (e : Profile) :
    (s.setProfile p e).profile q = if q = p then e else s.profile q := Table.get_put ..

/-- The terminal records after a reclassing of every one, of which RESTART_SECTOR and the clears are made. -/
@[simp] theorem State.restartWindows_term (j : Slot) :
    s.restartWindows.term j = { s.term j with window := (s.term j).window.restart } :=
  Table.get_map s.terms _ j rfl

@[simp] theorem State.clearWindows_term (j : Slot) :
    s.clearWindows.term j = { s.term j with window := Window.cleared } := Table.get_map s.terms _ j rfl

@[simp] theorem State.rebuildLedger_term (j : Slot) :
    s.rebuildLedger.term j = { s.term j with needUp := 0, needDown := 0 } :=
  Table.get_map s.terms _ j rfl

@[simp] theorem State.rebuildLedger_flow (j : FlowIdx) :
    s.rebuildLedger.flow j =
      if (s.flow j).state = .disabled then s.flow j else { s.flow j with state := .waiting .outage } :=
  Table.get_map s.flows _ j rfl

@[simp] theorem State.flushAll_flow (j : FlowIdx) :
    s.flushAll.flow j =
      { s.flow j with
        queue := [], credit := 0, marker := none
        counters := { (s.flow j).counters with
          flush := satAdd (s.flow j).counters.flush (s.flow j).queue.length } } :=
  Table.get_map s.flows _ j rfl

@[simp] theorem State.clearAllCounters_term (j : Slot) :
    s.clearAllCounters.term j = { s.term j with counters := {} } := Table.get_map s.terms _ j rfl

@[simp] theorem State.clearAllCounters_flow (j : FlowIdx) :
    s.clearAllCounters.flow j = { s.flow j with counters := {} } := Table.get_map s.flows _ j rfl

@[simp] theorem State.clearFlags_term (j : Slot) :
    s.clearFlags.term j = { s.term j with outageSeen := false } := Table.get_map s.terms _ j rfl

@[simp] theorem State.clearReentry_ctx (c : CtxNo) : s.clearReentry.ctx c = none := rfl

@[simp] theorem State.clearReentry_queue : s.clearReentry.reentry.queue = [] := rfl

@[simp] theorem State.clearReentry_credit : s.clearReentry.reentry.credit = 0 := rfl

/-! ### Notices -/

@[simp] theorem Management.take_requests (m : Management) (e : ClassSet) (n : Option FrameNo)
    (b : NoticeBody) : (m.take e n b).requests = m.requests := by
  simp only [Management.take]; split_ifs <;> rfl

@[simp] theorem Management.take_active (m : Management) (e : ClassSet) (n : Option FrameNo)
    (b : NoticeBody) : (m.take e n b).active = m.active := by
  simp only [Management.take]; split_ifs <;> rfl

@[simp] theorem Management.take_held (m : Management) (e : ClassSet) (n : Option FrameNo)
    (b : NoticeBody) : (m.take e n b).held = m.held := by
  simp only [Management.take]; split_ifs <;> rfl

@[simp] theorem Management.take_controller (m : Management) (e : ClassSet) (n : Option FrameNo)
    (b : NoticeBody) : (m.take e n b).controller = m.controller := by
  simp only [Management.take]; split_ifs <;> rfl

@[simp] theorem Management.take_lastResult (m : Management) (e : ClassSet) (n : Option FrameNo)
    (b : NoticeBody) : (m.take e n b).lastResult = m.lastResult := by
  simp only [Management.take]; split_ifs <;> rfl

/-- A notice taken never overfills the notice queue (R184). -/
theorem Management.take_notices_le (m : Management) (e : ClassSet) (n : Option FrameNo)
    (b : NoticeBody) (h : m.notices.length ≤ 32) : (m.take e n b).notices.length ≤ 32 := by
  simp only [Management.take]
  split_ifs with h1 h2
  · simp only [List.length_append, List.length_singleton]
    exact h2
  · exact h
  · exact h

end Sys2Proof.Machine
end

