-- ==== Sys2Proof/Laws/Frames.lean ====
section
/-! SUPPORT. What each shared operation leaves as it is: one lemma per operation, naming the parts of the state it
may change. -/

namespace Sys2Proof.Machine

/-! ### Working with frames -/

theorem SameBut.refl (ps : List Part) (s : State) : SameBut ps s s := by
  intro p _
  cases p <;> rfl

/-- A part outside the list is the same. -/
theorem SameBut.at {ps : List Part} {s t : State} (h : SameBut ps s t) (p : Part)
    (hp : p ∉ ps) : p.same s t := h p hp

/-- Whether every part of one list stands in another. -/
theorem Part.mem_of_subset {ps qs : List Part} (h : (ps.all fun p => qs.contains p) = true) :
    ∀ p ∈ ps, p ∈ qs := by
  intro p hp
  simpa using List.all_eq_true.mp h p hp

/-- One change after another changes no more than both may. -/
theorem SameBut.then {ps qs rs : List Part} {s t u : State} (h : SameBut ps s t) (k : SameBut qs t u)
    (hp : (ps.all fun p => rs.contains p) = true) (hq : (qs.all fun p => rs.contains p) = true) :
    SameBut rs s u := by
  intro p hr
  have h1 := h p fun hh => hr (Part.mem_of_subset hp p hh)
  have h2 := k p fun hh => hr (Part.mem_of_subset hq p hh)
  cases p <;> exact Eq.trans h2 h1

theorem SameBut.mono {ps qs : List Part} {s t : State} (h : SameBut ps s t)
    (hp : (ps.all fun p => qs.contains p) = true) : SameBut qs s t :=
  fun p hq => h p fun hh => hq (Part.mem_of_subset hp p hh)

/-- A fold of changes changes no more than one of them may. -/
theorem SameBut.foldl {α : Type} {ps : List Part} {g : State → α → State}
    (h : ∀ s a, SameBut ps s (g s a)) (l : List α) : ∀ s, SameBut ps s (l.foldl g s) := by
  induction l with
  | nil => exact fun s => SameBut.refl ps s
  | cons a rest ih =>
    intro s p hp
    have h1 := h s a p hp
    have h2 := ih (g s a) p hp
    cases p <;> exact Eq.trans h2 h1

variable (s : State)

/-! ### The updates -/

theorem State.modTerm_same (i : Slot) (f : Terminal → Terminal) :
    SameBut [.terms] s (s.modTerm i f) := by
  intro p hp
  cases p <;> first | rfl | exact absurd (by decide) hp

theorem State.modFlow_same (i : FlowIdx) (f : Flow → Flow) :
    SameBut [.flows] s (s.modFlow i f) := by
  intro p hp
  cases p <;> first | rfl | exact absurd (by decide) hp

theorem State.setCtx_same (c : CtxNo) (a : Option Attempt) :
    SameBut [.reentry] s (s.setCtx c a) := by
  intro p hp
  cases p <;> first | rfl | exact absurd (by decide) hp

theorem State.count_same (f : SectorCounters → SectorCounters) :
    SameBut [.counters] s (s.count f) := by
  intro p hp
  cases p <;> first | rfl | exact absurd (by decide) hp

theorem State.raise_same (b : NoticeBody) :
    SameBut [.mgmt] s (s.raise b) := by
  intro p hp
  cases p <;> first | rfl | exact absurd (by decide) hp

theorem State.freeUp_same (n : Nat) :
    SameBut [.buffer] s (s.freeUp n) := by
  intro p hp
  cases p <;> first | rfl | exact absurd (by decide) hp

theorem State.flushAll_same :
    SameBut [.flows, .buffer] s (s.flushAll) := by
  intro p hp
  cases p <;> first | rfl | exact absurd (by decide) hp

theorem State.sumLoads_same :
    SameBut [.ledger] s (s.sumLoads) := by
  intro p hp
  cases p <;> first | rfl | exact absurd (by decide) hp

theorem State.placeReadmission_same (f : FlowIdx) :
    SameBut [.ledger] s (s.placeReadmission f) := by
  intro p hp
  cases p <;> first | rfl | exact absurd (by decide) hp

theorem State.unlist_same (f : FlowIdx) :
    SameBut [.ledger] s (s.unlist f) := by
  intro p hp
  cases p <;> first | rfl | exact absurd (by decide) hp

theorem State.rebuildLedger_same :
    SameBut [.terms, .flows, .ledger] s (s.rebuildLedger) := by
  intro p hp
  cases p <;> first | rfl | exact absurd (by decide) hp

theorem State.placeReentry_same (i : Slot) :
    SameBut [.reentry] s (s.placeReentry i) := by
  intro p hp
  cases p <;> first | rfl | exact absurd (by decide) hp

theorem State.unqueue_same (i : Slot) :
    SameBut [.reentry] s (s.unqueue i) := by
  intro p hp
  cases p <;> first | rfl | exact absurd (by decide) hp

theorem State.restartWindows_same :
    SameBut [.terms] s (s.restartWindows) := by
  intro p hp
  cases p <;> first | rfl | exact absurd (by decide) hp

theorem State.clearWindows_same :
    SameBut [.terms] s (s.clearWindows) := by
  intro p hp
  cases p <;> first | rfl | exact absurd (by decide) hp

theorem State.send_same (r : LinkRecord) :
    SameBut [.link] s (s.send r) := by
  intro p hp
  cases p <;> first | rfl | exact absurd (by decide) hp

theorem State.setCredit_same (n : Nat) :
    SameBut [.reentry] s (s.setCredit n) := by
  intro p hp
  cases p <;> first | rfl | exact absurd (by decide) hp

theorem State.clearReentry_same :
    SameBut [.reentry] s (s.clearReentry) := by
  intro p hp
  cases p <;> first | rfl | exact absurd (by decide) hp

theorem State.stepCredit_same :
    SameBut [.flows] s (s.stepCredit) := by
  intro p hp
  cases p <;> first | rfl | exact absurd (by decide) hp

theorem State.setSectorUp_same (u : Bool) :
    SameBut [.link] s (s.setSectorUp u) := by
  intro p hp
  cases p <;> first | rfl | exact absurd (by decide) hp

theorem State.dropRequest_same :
    SameBut [.mgmt] s (s.dropRequest) := by
  intro p hp
  cases p <;> first | rfl | exact absurd (by decide) hp

theorem State.setProfile_same (p : ProfIdx) (e : Profile) :
    SameBut [.profiles] s (s.setProfile p e) := by
  intro p hp
  cases p <;> first | rfl | exact absurd (by decide) hp

theorem State.writeTags_same (l : List Tag) (v : Option FlowIdx) :
    SameBut [.tags] s (s.writeTags l v) := by
  intro p hp
  cases p <;> first | rfl | exact absurd (by decide) hp

theorem State.clearAllCounters_same :
    SameBut [.terms, .flows, .counters] s (s.clearAllCounters) := by
  intro p hp
  cases p <;> first | rfl | exact absurd (by decide) hp

theorem State.clearFlags_same :
    SameBut [.terms, .mgmt] s (s.clearFlags) := by
  intro p hp
  cases p <;> first | rfl | exact absurd (by decide) hp

/-! ### Chains -/

theorem State.relink_same (l : List FlowIdx) : ∀ s : State, SameBut [.flows] s (s.relink l) := by
  induction l with
  | nil => exact fun s => SameBut.refl _ s
  | cons f rest ih => exact fun s => (s.modFlow_same f _).then (ih _) rfl rfl

theorem State.setChain_same (i : Slot) (l : List FlowIdx) :
    SameBut [.terms, .flows] s (s.setChain i l) := (s.modTerm_same i _).then (State.relink_same l _) rfl rfl

theorem State.linkFlow_same (i : Slot) (f : FlowIdx) :
    SameBut [.terms, .flows] s (s.linkFlow i f) := s.setChain_same i _

theorem State.unlinkFlow_same (i : Slot) (f : FlowIdx) :
    SameBut [.terms, .flows] s (s.unlinkFlow i f) := (s.setChain_same i _).then (State.modFlow_same _ f _) rfl rfl

/-! ### Queues -/

theorem State.dropCredit_same (f : FlowIdx) :
    SameBut [.flows] s (s.dropCredit f) := s.modFlow_same f _

theorem State.countMarker_same (f : FlowIdx) (r : Bool) :
    SameBut [.flows, .mgmt] s (s.countMarker f r) := by
  simp only [State.countMarker]
  split
  · exact SameBut.refl _ s
  · split_ifs <;>
      first
      | exact (s.modFlow_same f _).mono rfl
      | exact (s.modFlow_same f _).then (State.raise_same _ _) rfl rfl

theorem State.releaseHead_same (f : FlowIdx) :
    SameBut [.flows, .buffer, .mgmt] s (s.releaseHead f) := by
  unfold State.releaseHead
  split
  · exact SameBut.refl _ s
  · exact ((s.modFlow_same f _).then (State.freeUp_same _ _) (rs := [.flows, .buffer]) rfl rfl).then
      (State.countMarker_same _ f _) rfl rfl

theorem State.discardStale_same (f : FlowIdx) :
    SameBut [.flows, .buffer, .mgmt] s (s.discardStale f) := by
  unfold State.discardStale
  split
  · exact SameBut.refl _ s
  · exact ((s.modFlow_same f _).then (State.freeUp_same _ _) (rs := [.flows, .buffer]) rfl rfl).then
      (State.countMarker_same _ f _) rfl rfl

theorem State.discardTail_same (f : FlowIdx) :
    SameBut [.flows, .buffer, .mgmt] s (s.discardTail f) := by
  unfold State.discardTail
  split
  · exact SameBut.refl _ s
  · have h := fun e : QEntry => (s.modFlow_same f fun r => { r with
        queue := r.queue.dropLast
        counters := { r.counters with full := satAdd r.counters.full 1 } }).then
      (State.freeUp_same _ e.cells) (rs := [.flows, .buffer]) rfl rfl
    simp only []
    split
    · exact (h _).mono rfl
    · split_ifs
      · exact (h _).then (State.countMarker_same _ f _) rfl rfl
      · exact (h _).mono rfl

theorem State.trimTail_same (f : FlowIdx) (n : Nat) :
    ∀ s : State, SameBut [.flows, .buffer, .mgmt] s (State.trimTail f n s) := by
  induction n with
  | zero => exact fun s => SameBut.refl _ s
  | succ n ih =>
    intro s
    unfold State.trimTail
    split_ifs
    · exact SameBut.refl _ s
    · exact (s.discardTail_same f).then (ih _) rfl rfl

theorem State.trimToLimit_same (f : FlowIdx) :
    SameBut [.flows, .buffer, .mgmt] s (s.trimToLimit f) := State.trimTail_same f _ s

theorem State.discardShed_same (f : FlowIdx) :
    SameBut [.flows, .buffer] s (s.discardShed f) := (s.modFlow_same f _).then (State.freeUp_same _ _) rfl rfl

theorem State.flushQueue_same (f : FlowIdx) :
    SameBut [.flows, .buffer] s (s.flushQueue f) := (s.modFlow_same f _).then (State.freeUp_same _ _) rfl rfl

theorem State.enqueue_same (f : FlowIdx) (p : Packet) :
    SameBut [.flows, .buffer, .counters] s (s.enqueue f p) := by
  simp only [State.enqueue]
  split_ifs
  · exact (s.modFlow_same f _).mono rfl
  · exact (s.modFlow_same f _).then (State.count_same _ _) rfl rfl
  · intro p hp
    cases p <;> first | rfl | exact absurd (by decide) hp

theorem State.setMarker_same (f : FlowIdx) :
    SameBut [.flows] s (s.setMarker f) := by
  unfold State.setMarker
  split_ifs
  · exact s.modFlow_same f _
  · exact SameBut.refl _ s

/-! ### Ledger -/

theorem State.reprice_same (i : Slot) :
    SameBut [.terms, .ledger] s (s.reprice i) := (s.modTerm_same i _).then (State.sumLoads_same _) rfl rfl

theorem State.repriceAll_same :
    SameBut [.terms, .ledger] s (s.repriceAll) := SameBut.foldl (fun s i => s.reprice_same i) _ s

theorem State.makeWaiting_same (f : FlowIdx) (c : Cause) :
    SameBut [.flows, .ledger] s (s.makeWaiting f c) := (s.modFlow_same f _).then (State.placeReadmission_same _ f) rfl rfl

theorem State.withdraw_same (f : FlowIdx) (c : Cause) :
    SameBut [.flows, .ledger] s (s.withdraw f c) := (s.makeWaiting_same f c).then (State.dropCredit_same _ f) rfl rfl

theorem State.noteWaiting_same (i : Slot) :
    SameBut [.terms, .mgmt] s (s.noteWaiting i) := by
  unfold State.noteWaiting
  split
  · exact (s.modTerm_same i _).then (State.raise_same _ _) rfl rfl
  · exact (s.modTerm_same i _).mono rfl
  all_goals exact SameBut.refl _ s

theorem State.noteFlowWaiting_same (f : FlowIdx) :
    SameBut [.terms, .mgmt] s (s.noteFlowWaiting f) := by
  unfold State.noteFlowWaiting
  split
  · exact s.noteWaiting_same _
  · exact SameBut.refl _ s

theorem State.repriceFlow_same (f : FlowIdx) :
    SameBut [.terms, .ledger] s (s.repriceFlow f) := by
  unfold State.repriceFlow
  split
  · exact s.reprice_same _
  · exact SameBut.refl _ s

theorem State.toInService_same (i : Slot) :
    SameBut [.terms, .mgmt] s (s.toInService i) := (s.modTerm_same i _).then (State.raise_same _ _) rfl rfl

theorem State.reportRamping_same :
    SameBut [.terms, .mgmt] s (s.reportRamping) := SameBut.foldl (fun s i => s.toInService_same i) _ s

theorem State.shedFlow_same (x : Direction) (f : FlowIdx) :
    SameBut [.terms, .flows, .ledger, .mgmt] s (s.shedFlow x f) := ((((s.withdraw_same f .shed).then (State.repriceFlow_same _ f)
      (rs := [.terms, .flows, .ledger]) rfl rfl).then (State.raise_same _ _)
      (rs := [.terms, .flows, .ledger, .mgmt]) rfl rfl)).then (State.noteFlowWaiting_same _ f) rfl rfl

theorem State.shedLoop_same (x : Direction) (n : Nat) :
    ∀ s : State, SameBut [.terms, .flows, .ledger, .mgmt] s (State.shedLoop x n s) := by
  induction n with
  | zero => exact fun s => SameBut.refl _ s
  | succ n ih =>
    intro s
    unfold State.shedLoop
    split_ifs
    · exact SameBut.refl _ s
    · split
      · exact SameBut.refl _ s
      · exact (s.shedFlow_same x _).then (ih _) rfl rfl

theorem State.fit_same (x : Direction) :
    SameBut [.terms, .flows, .ledger, .mgmt] s (s.fit x) := State.shedLoop_same x _ s

theorem State.shedToFit_same :
    SameBut [.terms, .flows, .ledger, .mgmt] s (s.shedToFit) := (s.fit_same .up).then (State.fit_same _ .down) rfl rfl

theorem State.makeAdmitted_same (i : Slot) (f : FlowIdx) :
    SameBut [.terms, .flows, .ledger] s (s.makeAdmitted i f) := (((s.modFlow_same f _).then (State.unlist_same _ f) (rs := [.flows, .ledger]) rfl rfl).then
      (State.reprice_same _ i) (rs := [.terms, .flows, .ledger]) rfl rfl).then (State.setMarker_same _ f) rfl rfl

theorem State.scanWalk_same (l : List FlowIdx) : ∀ (done : List FlowIdx) (s : State),
    SameBut [.terms, .flows, .ledger] s (State.scanWalk l done s).2 := by
  induction l with
  | nil => exact fun _ s => SameBut.refl _ s
  | cons f rest ih =>
    intro done s
    unfold State.scanWalk
    split_ifs
    · exact SameBut.refl _ s
    · split
      · exact ih done s
      · split_ifs
        · exact (s.makeAdmitted_same _ f).then (ih _ _) rfl rfl
        · exact SameBut.refl _ s
        · exact ih done s

theorem State.scan_same :
    SameBut [.terms, .flows, .ledger, .mgmt] s (s.scan) := by
  have h := State.scanWalk_same s.ledger.list [] s
  simp only [State.scan]
  split_ifs
  · exact h.then (State.reportRamping_same _) rfl rfl
  · exact (h.then (State.raise_same _ _) (rs := [.terms, .flows, .ledger, .mgmt]) rfl rfl).then
      (State.reportRamping_same _) rfl rfl

theorem State.withdrawAll_same (c : Cause) (l : List FlowIdx) :
    SameBut [.flows, .ledger] s (s.withdrawAll c l) := by
  refine SameBut.foldl (fun s f => ?_) l s
  split_ifs
  · exact s.withdraw_same f c
  · exact SameBut.refl _ s

theorem State.discardShedQueues_same (l : List FlowIdx) :
    SameBut [.flows, .buffer] s (s.discardShedQueues l) := by
  refine SameBut.foldl (fun s f => ?_) l s
  split_ifs
  · exact s.discardShed_same f
  · exact SameBut.refl _ s

/-! ### Terminals -/

theorem State.makeQueued_same (i : Slot) :
    SameBut [.terms, .reentry] s (s.makeQueued i) := (s.modTerm_same i _).then (State.placeReentry_same _ i) rfl rfl

theorem State.enterDown_same (i : Slot) (n : Nat) (b : Bool) :
    SameBut [.terms, .reentry, .mgmt] s (s.enterDown i n b) := by
  have h := (s.modTerm_same i fun t =>
    { t with state := .down, timer := some n, outageSeen := true }).then
      (State.raise_same _ (.down i)) (rs := [.terms, .mgmt]) rfl rfl
  simp only [State.enterDown]
  split_ifs
  · exact h.then (State.makeQueued_same _ i) rfl rfl
  · exact h.mono rfl

theorem State.leaveService_same (i : Slot) (d : TermState) (c : Cause) (b : Bool) :
    SameBut [.terms, .flows, .ledger, .buffer] s (s.leaveService i d c b) := by
  have h := (s.modTerm_same i fun t =>
    { t with state := d, current := none, beforeFade := none, dwell := 0
             window := Window.cleared }).then
      (State.withdrawAll_same _ c (s.chain i)) (rs := [.terms, .flows, .ledger]) rfl rfl
  simp only [State.leaveService]
  split_ifs
  · exact (h.then (State.discardShedQueues_same _ _) (rs := [.terms, .flows, .ledger, .buffer]) rfl rfl).then
      (State.reprice_same _ i) rfl rfl
  · exact h.then (State.reprice_same _ i) rfl rfl

theorem State.outage_same (i : Slot) (b : Bool) :
    SameBut [.terms, .flows, .ledger, .buffer, .reentry, .mgmt] s (s.outage i b) := ((s.leaveService_same i .down .outage (!b)).then (State.modTerm_same _ i _)
      (rs := [.terms, .flows, .ledger, .buffer]) rfl rfl).then (State.enterDown_same _ i _ b) rfl rfl

theorem State.parkServiced_same (i : Slot) :
    SameBut [.terms, .flows, .ledger, .buffer] s (s.parkServiced i) := s.leaveService_same i .parked .parked true

theorem State.enterService_same (i : Slot) (p : ProfIdx) :
    SameBut [.terms, .flows, .ledger, .mgmt] s (s.enterService i p) := by
  have h := (((s.modTerm_same i fun t =>
      { t with
        state := .ramping, current := some p, failedAttempts := 0, dwell := 0
        window := Window.opening }).then (State.raise_same _ (.ramping i)) (rs := [.terms, .mgmt]) rfl rfl).then
    (State.reprice_same _ i) (rs := [.terms, .ledger, .mgmt]) rfl rfl).then (State.shedToFit_same _)
      (rs := [.terms, .flows, .ledger, .mgmt]) rfl rfl
  simp only [State.enterService]
  split_ifs
  · exact h
  · exact h.then (State.toInService_same _ i) rfl rfl

theorem State.enterFading_same (i : Slot) :
    SameBut [.terms, .mgmt] s (s.enterFading i) := by
  simp only [State.enterFading]
  split
  · exact (s.modTerm_same i _).then (State.raise_same _ _) rfl rfl
  · exact (s.modTerm_same i _).then (State.raise_same _ _) rfl rfl
  all_goals exact SameBut.refl _ s

theorem State.exitFading_same (i : Slot) :
    SameBut [.terms, .mgmt] s (s.exitFading i) := by
  simp only [State.exitFading]
  split <;> exact (s.modTerm_same i _).then (State.raise_same _ _) rfl rfl

/-! ### Profile control and windows -/

theorem State.changeProfile_same (i : Slot) (p : ProfIdx) :
    SameBut [.terms, .flows, .ledger, .mgmt] s (s.changeProfile i p) := ((s.modTerm_same i _).then (State.reprice_same _ i) (rs := [.terms, .ledger]) rfl rfl).then
      (State.shedToFit_same _) rfl rfl

theorem State.setDwell_same (i : Slot) (n : Nat) :
    SameBut [.terms] s (s.setDwell i n) := s.modTerm_same i _

theorem State.judgeResume_same (i : Slot) (p : ProfIdx) (q : Nat) (m : Bool) :
    SameBut [.terms] s (s.judgeResume i p q m) := by
  unfold State.judgeResume
  split_ifs
  · exact s.modTerm_same i _
  · exact SameBut.refl _ s

theorem State.judgeStep_same (i : Slot) (p : ProfIdx) (q : Nat) (m t : Bool) :
    SameBut [.terms, .flows, .ledger, .mgmt] s (s.judgeStep i p q m t) := by
  unfold State.judgeStep
  split_ifs
  · exact (s.enterFading_same i).mono rfl
  · exact s.changeProfile_same i _
  · split
    · split_ifs
      · exact s.changeProfile_same i _
      · exact (s.setDwell_same i _).mono rfl
      · exact (s.setDwell_same i _).mono rfl
    · exact (s.setDwell_same i _).mono rfl

theorem State.judgeFading_same (i : Slot) (q : Nat) (m : Bool) :
    SameBut [.terms, .mgmt] s (s.judgeFading i q m) := by
  unfold State.judgeFading
  split_ifs
  · exact s.exitFading_same i
  · exact (s.setDwell_same i _).mono rfl

theorem State.takeResult_same (i : Slot) (q : Nat) (m t : Bool) :
    SameBut [.terms, .flows, .ledger, .mgmt] s (s.takeResult i q m t) := by
  unfold State.takeResult
  split
  · exact SameBut.refl _ s
  · split
    · exact (s.judgeResume_same i _ q m).then (State.judgeStep_same _ i _ q m t) rfl rfl
    · exact (s.judgeResume_same i _ q m).then (State.judgeStep_same _ i _ q m t) rfl rfl
    · exact (s.judgeFading_same i q m).mono rfl
    all_goals exact SameBut.refl _ s

theorem State.fadeReport_same (i : Slot) :
    SameBut [.terms, .flows, .ledger, .mgmt] s (s.fadeReport i) := by
  unfold State.fadeReport
  split
  · exact SameBut.refl _ s
  · split_ifs
    · exact (s.enterFading_same i).mono rfl
    · exact s.changeProfile_same i 0

theorem State.completeWindow_same (i : Slot) :
    SameBut [.terms, .flows, .ledger, .mgmt] s (s.completeWindow i) := ((s.modTerm_same i _).then (State.takeResult_same _ i _ _ _)
      (rs := [.terms, .flows, .ledger, .mgmt]) rfl rfl).then (State.modTerm_same _ i _) rfl rfl

theorem State.completeIfFull_same (i : Slot) :
    SameBut [.terms, .flows, .ledger, .mgmt] s (s.completeIfFull i) := by
  unfold State.completeIfFull
  split_ifs
  · exact s.completeWindow_same i
  · exact SameBut.refl _ s

theorem State.takeSample_same (i : Slot) (n : Nat) (g : Bool) :
    SameBut [.terms, .flows, .ledger, .mgmt] s (s.takeSample i n g) := (s.modTerm_same i _).then (State.completeIfFull_same _ i) rfl rfl

theorem State.takeMiss_same (i : Slot) :
    SameBut [.terms, .flows, .ledger, .buffer, .reentry, .mgmt] s (s.takeMiss i) := by
  have h := s.modTerm_same i fun t =>
    { t with
      window := { t.window with misses := min (t.window.misses + 1) 255 }
      counters := t.counters.miss }
  simp only [State.takeMiss]
  split_ifs
  · exact h.then (State.outage_same _ i false) rfl rfl
  · exact h.then (State.fadeReport_same _ i) rfl rfl
  · exact h.mono rfl

/-! ### Re-entry -/

theorem State.failedDown_same (i : Slot) :
    SameBut [.terms, .reentry, .mgmt] s (s.failedDown i) := (s.modTerm_same i _).then (State.enterDown_same _ i _ false) rfl rfl

theorem State.takeOutcome_same (i : Slot) (o : AttemptOutcome) (e : Option ProfIdx) (b : Bool) :
    SameBut [.terms, .flows, .ledger, .reentry, .mgmt] s (s.takeOutcome i o e b) := by
  have h := s.modTerm_same i fun t => { t with lastOutcome := some o }
  simp only [State.takeOutcome]
  split
  · exact h.then (State.enterService_same _ i _) rfl rfl
  · exact h.then (State.modTerm_same _ i _) rfl rfl
  · exact h.then (State.enterDown_same _ i _ b) rfl rfl
  all_goals exact h.then (State.failedDown_same _ i) rfl rfl

theorem State.endAttempt_same (c : CtxNo) (a : Attempt) (o : AttemptOutcome) (b : Bool) :
    SameBut [.terms, .flows, .ledger, .reentry, .mgmt] s (s.endAttempt c a o b) := by
  have h := (s.setCtx_same c none).then (State.takeOutcome_same _ a.terminal o a.entryProfile b)
    (rs := [.terms, .flows, .ledger, .reentry, .mgmt]) rfl rfl
  simp only [State.endAttempt]
  split_ifs
  · exact h.then (State.raise_same _ _) rfl rfl
  · exact h

theorem State.failContext_same (c : CtxNo) (a : Attempt) (o : AttemptOutcome) (g : Stage) :
    SameBut [.terms, .flows, .ledger, .reentry, .mgmt] s (s.failContext c a o g) := by
  unfold State.failContext
  split_ifs
  · exact (s.setCtx_same c _).mono rfl
  · exact s.endAttempt_same c a o false

theorem State.failProving_same (c : CtxNo) (a : Attempt) :
    SameBut [.terms, .flows, .ledger, .reentry, .mgmt] s (s.failProving c a) := s.failContext_same c _ .proveFailed .provePending

theorem State.adjust_same (c : CtxNo) (a : Attempt) (t p : Int) :
    SameBut [.terms, .flows, .ledger, .reentry, .mgmt, .link] s (s.adjust c a t p) := by
  unfold State.adjust
  split_ifs
  · exact (s.send_same _).then (State.setCtx_same _ c _) rfl rfl
  · exact (s.endAttempt_same c a .adjustLimit false).mono rfl

theorem State.learnIdentity_same (i : Slot) (d : Mac) :
    SameBut [.terms, .mgmt] s (s.learnIdentity i d) := by
  simp only [State.learnIdentity]
  split_ifs
  · exact SameBut.refl _ s
  · split
    · split_ifs
      · exact (s.modTerm_same i _).mono rfl
      · exact (s.modTerm_same i _).then (State.raise_same _ _) rfl rfl
    · exact (s.modTerm_same i _).mono rfl

theorem State.acceptRanging_same (c : CtxNo) (a : Attempt) (r : RangingReport) :
    SameBut [.terms, .reentry, .mgmt] s (s.acceptRanging c a r) := (s.learnIdentity_same a.terminal r.identity).then (State.setCtx_same _ c _) rfl rfl

theorem State.judgeRanging_same (c : CtxNo) (a : Attempt) (r : RangingReport) :
    SameBut [.terms, .flows, .ledger, .reentry, .mgmt, .link] s (s.judgeRanging c a r) := by
  simp only [State.judgeRanging]
  split_ifs
  · exact (s.endAttempt_same c a .parked false).mono rfl
  · exact (s.failContext_same c a .corrupt .invitePending).mono rfl
  · exact (s.endAttempt_same c a .identityMismatch false).mono rfl
  · exact (s.failContext_same c a .weak .invitePending).mono rfl
  · exact s.adjust_same c a _ _
  · exact (s.acceptRanging_same c a r).mono rfl

theorem State.judgeRangingMiss_same (c : CtxNo) (a : Attempt) :
    SameBut [.terms, .flows, .ledger, .reentry, .mgmt] s (s.judgeRangingMiss c a) := by
  unfold State.judgeRangingMiss
  split_ifs
  · exact s.endAttempt_same c a .parked false
  · exact s.failContext_same c a .noResponse .invitePending

theorem State.judgeProving_same (c : CtxNo) (a : Attempt) (n : Nat) (g : Bool) :
    SameBut [.terms, .flows, .ledger, .reentry, .mgmt] s (s.judgeProving c a n g) := by
  have h := s.modTerm_same a.terminal fun t => { t with counters := t.counters.burst g }
  simp only [State.judgeProving]
  split_ifs
  · exact h.then (State.endAttempt_same _ c a .parked false) rfl rfl
  · exact h.then (State.endAttempt_same _ c a .admitted false) rfl rfl
  · exact h.then (State.failProving_same _ c a) rfl rfl

theorem State.judgeProvingMiss_same (c : CtxNo) (a : Attempt) :
    SameBut [.terms, .flows, .ledger, .reentry, .mgmt] s (s.judgeProvingMiss c a) := by
  have h := s.modTerm_same a.terminal fun t => { t with counters := t.counters.miss }
  simp only [State.judgeProvingMiss]
  split_ifs
  · exact h.then (State.endAttempt_same _ c a .parked false) rfl rfl
  · exact h.then (State.failProving_same _ c a) rfl rfl

theorem State.timeout_same (c : CtxNo) :
    SameBut [.terms, .flows, .ledger, .reentry, .mgmt] s (s.timeout c) := by
  unfold State.timeout
  split
  · exact SameBut.refl _ s
  · split_ifs <;> first | exact SameBut.refl _ s | split <;>
      first
      | exact s.endAttempt_same c _ .parked false
      | exact s.failContext_same c _ .noResponse .invitePending
      | exact s.failProving_same c _
      | exact SameBut.refl _ s

theorem State.tickContext_same (n : FrameNo) (c : CtxNo) :
    SameBut [.terms, .flows, .ledger, .reentry, .mgmt] s (State.tickContext n s c) := by
  unfold State.tickContext
  split
  · exact SameBut.refl _ s
  · split_ifs
    · split
      · exact SameBut.refl _ s
      · exact (s.setCtx_same c _).then (State.timeout_same _ c) rfl rfl
    · exact SameBut.refl _ s

theorem State.bindTo_same (i : Slot) (c : CtxNo) :
    SameBut [.terms, .reentry] s (s.bindTo i c) := by
  intro p hp
  cases p <;> first | rfl | exact absurd (by decide) hp

theorem State.bindLoop_same (n : Nat) :
    ∀ s : State, SameBut [.terms, .reentry] s (State.bindLoop n s) := by
  induction n with
  | zero => exact fun s => SameBut.refl _ s
  | succ n ih =>
    intro s
    unfold State.bindLoop
    split
    · split_ifs
      · exact (s.bindTo_same _ _).then (ih _) rfl rfl
      · exact SameBut.refl _ s
    · exact SameBut.refl _ s

theorem State.pace_same :
    SameBut [.terms, .reentry] s (s.pace) := by
  unfold State.pace
  split_ifs
  · exact (s.setCredit_same _).then (State.bindLoop_same 4 _) rfl rfl
  · exact SameBut.refl _ s

theorem State.takeGrant_same (g : Grant) :
    SameBut [.reentry] s (s.takeGrant g) := by
  unfold State.takeGrant
  split
  · exact SameBut.refl _ s
  · split_ifs
    · exact s.setCtx_same _ _
    · exact SameBut.refl _ s

theorem State.takeGrants_same :
    SameBut [.reentry] s (s.takeGrants) := by
  have h : SameBut [.reentry] s { s with reentry := { s.reentry with grants := [] } } := by
    intro p hp
    cases p <;> first | rfl | exact absurd (by decide) hp
  exact h.then (SameBut.foldl (fun s g => s.takeGrant_same g) _ _) rfl rfl

theorem State.reecFrame_same (n : FrameNo) :
    SameBut [.terms, .flows, .ledger, .reentry, .mgmt] s (s.reecFrame n) := (SameBut.foldl (fun s c => s.tickContext_same n c) _ s).then
    (State.pace_same _) rfl rfl

theorem State.loseAttempt_same (i : Slot) (b : Bool) :
    SameBut [.terms, .flows, .ledger, .reentry, .mgmt] s (s.loseAttempt i b) := by
  unfold State.loseAttempt
  split
  · exact s.endAttempt_same _ _ _ b
  · exact s.takeOutcome_same i _ _ b

/-! ### Release and grants -/

theorem State.setStamp_same (n : FrameNo) :
    SameBut [.flows, .buffer] s (s.setStamp n) := by
  simp only [State.setStamp]
  split_ifs <;> intro p hp <;> cases p <;> first | rfl | exact absurd (by decide) hp

theorem State.sweepHeads_same (n : FrameNo) (f : FlowIdx) (k : Nat) :
    ∀ s : State, SameBut [.flows, .buffer, .mgmt] s (State.sweepHeads n f k s) := by
  induction k with
  | zero => exact fun s => SameBut.refl _ s
  | succ k ih =>
    intro s
    unfold State.sweepHeads
    split_ifs
    · exact (s.discardStale_same f).then (ih _) rfl rfl
    · exact SameBut.refl _ s

theorem State.sweepFlow_same (n : FrameNo) (f : FlowIdx) :
    SameBut [.flows, .buffer, .mgmt] s (State.sweepFlow n s f) := State.sweepHeads_same n f _ s

theorem State.summarize_same (f : FlowIdx) (k : Nat) :
    SameBut [.mgmt] s (s.summarize f k) := by
  unfold State.summarize
  split_ifs
  · exact SameBut.refl _ s
  · exact s.raise_same _

theorem State.sweep_same (n : FrameNo) :
    SameBut [.flows, .buffer, .mgmt] s (s.sweep n) := (SameBut.foldl (fun s f => s.sweepFlow_same n f) _ s).then
    (SameBut.foldl (fun s f => s.summarize_same f _) _ _) rfl rfl

theorem Pass.release_same (p : Pass) (i : Slot) (f : FlowIdx) (e : QEntry) (b : Bool) :
    SameBut [.flows, .buffer, .mgmt] p.state (p.release i f e b).state := by
  simp only [Pass.release]
  split_ifs
  · exact (p.state.releaseHead_same f).then (State.modFlow_same _ f _) rfl rfl
  · exact p.state.releaseHead_same f

theorem releaseCommitted_same (i : Slot) (f : FlowIdx) (n : Nat) :
    ∀ p : Pass, SameBut [.flows, .buffer, .mgmt] p.state (releaseCommitted i f n p).state := by
  induction n with
  | zero => exact fun p => SameBut.refl _ p.state
  | succ n ih =>
    intro p
    unfold releaseCommitted
    split
    · exact SameBut.refl _ p.state
    · split_ifs
      · exact (p.release_same i f _ true).then (ih _) rfl rfl
      · exact SameBut.refl _ p.state

theorem releaseExcess_same (i : Slot) (f : FlowIdx) (n : Nat) :
    ∀ p : Pass, SameBut [.flows, .buffer, .mgmt] p.state (releaseExcess i f n p).state := by
  induction n with
  | zero => exact fun p => SameBut.refl _ p.state
  | succ n ih =>
    intro p
    unfold releaseExcess
    split
    · exact SameBut.refl _ p.state
    · split_ifs
      · exact (p.release_same i f _ false).then (ih _) rfl rfl
      · exact SameBut.refl _ p.state

theorem runPass_same (one : Slot → FlowIdx → Nat → Pass → Pass)
    (h : ∀ i f n p, SameBut [.flows, .buffer, .mgmt] p.state (one i f n p).state) (l : List FlowIdx) :
    ∀ p : Pass, SameBut [.flows, .buffer, .mgmt] p.state (runPass one l p).state := by
  induction l with
  | nil => exact fun p => SameBut.refl _ p.state
  | cons f rest ih =>
    intro p
    have hc : runPass one (f :: rest) p = runPass one rest
        (match (p.state.flow f).bound with
          | some i => one i f (p.state.flow f).queue.length p
          | none => p) := rfl
    rw [hc]
    split
    · exact (h _ f _ p).then (ih _) rfl rfl
    · exact ih p

theorem State.passes_same :
    SameBut [.flows, .buffer, .mgmt] s s.passes.state := (runPass_same _ (fun i f n p => releaseCommitted_same i f n p) _ ⟨s, s.setup.d, []⟩).then
    (runPass_same _ (fun i f n p => releaseExcess_same i f n p) _ _) rfl rfl

theorem State.sendBursts_same (n : FrameNo) (rs : List Released) :
    SameBut [.link] s (s.sendBursts n rs) := SameBut.foldl (fun s _ => s.send_same _) _ s

theorem State.releaseFrame_same (n : FrameNo) :
    SameBut [.flows, .buffer, .mgmt, .link] s (s.releaseFrame n) := ((((s.setStamp_same n).then (State.sweep_same _ n) (rs := [.flows, .buffer, .mgmt]) rfl rfl).then
      (State.stepCredit_same _) (rs := [.flows, .buffer, .mgmt]) rfl rfl).then (State.passes_same _)
      (rs := [.flows, .buffer, .mgmt]) rfl rfl).then (State.sendBursts_same _ n _) rfl rfl

theorem State.buildGrants_same (n : FrameNo) :
    SameBut [.link, .reentry] s (s.buildGrants n) := by
  intro p hp
  cases p <;> first | rfl | exact absurd (by decide) hp

/-! ### The sector link -/

theorem State.countGap_same (n : FrameNo) :
    SameBut [.mgmt, .counters] s (s.countGap n) := by
  unfold State.countGap
  split
  · exact SameBut.refl _ s
  · split_ifs
    · exact SameBut.refl _ s
    · exact (s.count_same _).then (State.raise_same _ _) rfl rfl

theorem State.takeFrameStart_same (n : FrameNo) :
    SameBut [.link, .mgmt, .counters] s (s.takeFrameStart n) := by
  refine (s.countGap_same n).then (qs := [.link]) ?_ rfl rfl
  intro p hp
  cases p <;> first | rfl | exact absurd (by decide) hp

theorem State.loseTerminal_same (i : Slot) :
    SameBut [.terms, .flows, .ledger, .buffer, .reentry, .mgmt] s (s.loseTerminal i) := by
  unfold State.loseTerminal
  split
  · exact s.outage_same i false
  · exact s.outage_same i false
  · exact s.outage_same i false
  · exact (s.unqueue_same i).then (State.enterDown_same _ i _ false) rfl rfl
  · exact (s.loseAttempt_same i false).mono rfl
  all_goals exact SameBut.refl _ s

theorem State.loseSector_same :
    SameBut [.terms, .flows, .ledger, .buffer, .reentry, .mgmt, .link, .counters] s (s.loseSector) := ((((s.setSectorUp_same false).then (State.count_same _ _) (rs := [.link, .counters]) rfl rfl).then
      (State.raise_same _ .sectorDown) (rs := [.link, .counters, .mgmt]) rfl rfl).then
      (SameBut.foldl (fun s i => s.loseTerminal_same i) _ _)
      (rs := [.terms, .flows, .ledger, .buffer, .reentry, .mgmt, .link, .counters]) rfl rfl).then
      (State.clearReentry_same _) rfl rfl

theorem State.takeSectorState_same (u : Bool) :
    SameBut [.terms, .flows, .ledger, .buffer, .reentry, .mgmt, .link, .counters] s (s.takeSectorState u) := by
  unfold State.takeSectorState
  split_ifs
  · exact SameBut.refl _ s
  · exact (s.setSectorUp_same true).then (State.raise_same _ _) rfl rfl
  · exact s.loseSector_same

theorem State.stray_same :
    SameBut [.counters] s (s.stray) := s.count_same _

theorem State.forwardPacket_same (p : Packet) :
    SameBut [.tx, .counters] s (s.forwardPacket p) := by
  unfold State.forwardPacket
  split_ifs
  · intro p hp
    cases p <;> first | rfl | exact absurd (by decide) hp
  · exact (s.count_same _).mono rfl

theorem State.forwardPayload_same (l : List Packet) :
    SameBut [.tx, .counters] s (s.forwardPayload l) := SameBut.foldl (fun s p => s.forwardPacket_same p) l s

theorem State.dropPayload_same (n : Nat) :
    SameBut [.counters] s (s.dropPayload n) := s.count_same _

theorem State.takePayload_same (r : BurstReport) :
    SameBut [.tx, .counters] s (s.takePayload r) := by
  unfold State.takePayload
  split_ifs
  · exact s.forwardPayload_same _
  · exact (s.dropPayload_same _).mono rfl

theorem State.takeBurst_same (r : BurstReport) :
    SameBut [.terms, .flows, .ledger, .reentry, .mgmt, .tx, .counters] s (s.takeBurst r) := by
  unfold State.takeBurst
  split_ifs
  · exact (s.takeSample_same _ _ _).then (State.takePayload_same _ r) rfl rfl
  · split
    · exact (s.judgeProving_same _ _ _ _).then (State.dropPayload_same _ _) rfl rfl
    · exact s.stray_same.mono rfl

theorem State.takeMissReport_same (r : MissReport) :
    SameBut [.terms, .flows, .ledger, .buffer, .reentry, .mgmt, .counters] s (s.takeMissReport r) := by
  unfold State.takeMissReport
  split_ifs
  · exact (s.takeMiss_same _).mono rfl
  · split
    · exact (s.judgeProvingMiss_same _ _).mono rfl
    · exact s.stray_same.mono rfl

theorem State.takeRanging_same (r : RangingReport) :
    SameBut [.terms, .flows, .ledger, .reentry, .mgmt, .link, .counters] s (s.takeRanging r) := by
  unfold State.takeRanging
  split
  · exact (s.judgeRanging_same _ _ r).mono rfl
  · exact s.stray_same.mono rfl

theorem State.takeRangingMiss_same (i : Slot) :
    SameBut [.terms, .flows, .ledger, .reentry, .mgmt, .link, .counters] s (s.takeRangingMiss i) := by
  unfold State.takeRangingMiss
  split
  · exact (s.judgeRangingMiss_same _ _).mono rfl
  · exact s.stray_same.mono rfl

theorem State.takeChecked_same (r : LinkRecord) :
    SameBut [.terms, .flows, .link, .reentry, .ledger, .buffer, .mgmt, .tx, .counters] s (s.takeChecked r) := by
  unfold State.takeChecked
  split_ifs
  · exact (s.takeFrameStart_same _).mono rfl
  · exact (s.takeBurst_same _).mono rfl
  · exact (s.takeMissReport_same _).mono rfl
  · exact (s.takeRanging_same _).mono rfl
  · exact (s.takeRangingMiss_same _).mono rfl
  · exact (s.takeSectorState_same _).mono rfl

theorem State.takeRecord_same (r : LinkRecord) :
    SameBut [.terms, .flows, .link, .reentry, .ledger, .buffer, .mgmt, .tx, .counters] s (s.takeRecord r) := by
  unfold State.takeRecord
  split_ifs
  · exact s.takeChecked_same r
  · exact (s.count_same _).mono rfl

/-! ### Trunk and management -/

theorem State.sendNotice_same :
    SameBut [.mgmt, .tx] s (s.sendNotice) := by
  unfold State.sendNotice
  split
  · split_ifs
    · intro p hp
      cases p <;> first | rfl | exact absurd (by decide) hp
    · exact SameBut.refl _ s
  · exact SameBut.refl _ s

theorem State.respond_same (p : Packet) :
    SameBut [.mgmt, .tx] s (s.respond p) := by
  unfold State.respond
  split_ifs <;> intro p hp <;> cases p <;> first | rfl | exact absurd (by decide) hp

theorem State.finishSending_same :
    SameBut [.mgmt, .tx] s (s.finishSending) := by
  simp only [State.finishSending]
  split_ifs
  · have h : SameBut [.tx] s { s with tx := s.tx.finish } := by
      intro p hp
      cases p <;> first | rfl | exact absurd (by decide) hp
    split
    · exact h.then (State.respond_same _ _) rfl rfl
    · exact h.mono rfl
  · exact SameBut.refl _ s

theorem State.classify_same (p : Packet) :
    SameBut [.flows, .buffer, .counters] s (s.classify p) := by
  unfold State.classify
  split
  · exact (s.count_same _).mono rfl
  · split
    · exact (s.count_same _).mono rfl
    · exact (s.modFlow_same _ _).mono rfl
    · exact s.enqueue_same _ p
    · exact s.enqueue_same _ p
    · exact (s.modFlow_same _ _).mono rfl

theorem State.enqueueRequest_same (p : Packet) :
    SameBut [.mgmt] s (s.enqueueRequest p) := by
  unfold State.enqueueRequest
  split_ifs
  · intro p hp
    cases p <;> first | rfl | exact absurd (by decide) hp
  · exact SameBut.refl _ s

theorem State.takePacket_same (p : Packet) :
    SameBut [.flows, .buffer, .mgmt, .counters] s (s.takePacket p) := by
  unfold State.takePacket
  split_ifs
  · exact (s.count_same _).mono rfl
  · exact (s.enqueueRequest_same p).mono rfl
  · exact (s.classify_same p).mono rfl

theorem State.takeRequest_same :
    SameBut [.mgmt, .tx] s (s.takeRequest) := by
  unfold State.takeRequest
  split
  · exact SameBut.refl _ s
  · split_ifs
    · split
      · exact s.dropRequest_same.mono rfl
      · exact s.respond_same _
      · intro p hp
        cases p <;> first | rfl | exact absurd (by decide) hp
    · exact SameBut.refl _ s

theorem State.respondTo_same (a : ActiveRequest) :
    SameBut [.mgmt, .tx] s (s.respondTo a) := by
  have h : SameBut [.mgmt] s { s with mgmt := { s.mgmt with active := none } } := by
    intro p hp
    cases p <;> first | rfl | exact absurd (by decide) hp
  exact h.then (State.respond_same _ _) rfl rfl

theorem State.complete_same (src : Mac) (body : List Byte) (r : CmdResult) :
    SameBut [.mgmt, .tx] s (s.complete src body r) := by
  have h : SameBut [.mgmt] s { s with mgmt := { s.mgmt with lastResult := some r } } := by
    intro p hp
    cases p <;> first | rfl | exact absurd (by decide) hp
  simp only [State.complete]
  split
  · exact h.mono rfl
  · split
    · exact h.mono rfl
    · split_ifs
      · exact h.then (State.respondTo_same _ _) rfl rfl
      · intro p hp
        cases p <;> first | rfl | exact absurd (by decide) hp
      · exact h.mono rfl

/-! ### Command effects -/

theorem State.requeue_same (i : Slot) :
    SameBut [.reentry] s (s.requeue i) := by
  unfold State.requeue
  split_ifs
  · exact (s.unqueue_same i).then (State.placeReentry_same _ i) rfl rfl
  · exact SameBut.refl _ s

theorem State.ceilingStep_same (i : Slot) :
    SameBut [.terms, .flows, .ledger, .mgmt] s (s.ceilingStep i) := by
  unfold State.ceilingStep
  split
  · split_ifs
    · exact s.changeProfile_same i _
    · exact SameBut.refl _ s
  · exact SameBut.refl _ s

theorem State.ceilingEntry_same (i : Slot) :
    SameBut [.reentry] s (s.ceilingEntry i) := by
  unfold State.ceilingEntry
  split
  · split
    · split_ifs
      · exact s.setCtx_same _ _
      · exact SameBut.refl _ s
    · exact SameBut.refl _ s
  · exact SameBut.refl _ s

theorem State.parkRanging_same (i : Slot) :
    SameBut [.terms, .flows, .ledger, .reentry, .mgmt] s (s.parkRanging i) := by
  unfold State.parkRanging
  split
  · split_ifs
    · exact (s.setCtx_same _ _).mono rfl
    · exact s.endAttempt_same _ _ .parked false
  · exact SameBut.refl _ s

theorem State.park_same (i : Slot) :
    SameBut [.terms, .flows, .ledger, .buffer, .reentry, .mgmt] s (s.park i) := by
  unfold State.park
  split
  · exact SameBut.refl _ s
  · exact SameBut.refl _ s
  · exact (s.modTerm_same i _).mono rfl
  · exact (s.unqueue_same i).then (State.modTerm_same _ i _) rfl rfl
  · exact (s.parkRanging_same i).mono rfl
  all_goals exact (s.parkServiced_same i).mono rfl

theorem State.releaseTerminal_same (i : Slot) :
    SameBut [.terms, .reentry, .mgmt] s (s.releaseTerminal i) := by
  unfold State.releaseTerminal
  split_ifs
  · exact (s.makeQueued_same i).mono rfl
  · exact s.enterDown_same i 0 false

theorem State.force_same (i : Slot) (p : ProfIdx) :
    SameBut [.terms, .flows, .ledger, .mgmt] s (s.force i p) := by
  unfold State.force
  split_ifs
  · exact (s.modTerm_same i _).mono rfl
  · exact s.changeProfile_same i p

theorem State.bindFlow_same (w : FlowWrite) :
    SameBut [.terms, .flows] s (s.bindFlow w) := by
  simp only [State.bindFlow]
  split_ifs
  · exact SameBut.refl _ s
  · have h : SameBut [.terms, .flows] s
        ((match (s.flow w.flow).bound with
          | some i => s.unlinkFlow i w.flow
          | none => s).modFlow w.flow fun r =>
            { r with bound := w.terminal.or (s.flow w.flow).bound, cls := w.cls }) := by
      refine SameBut.then (ps := [.terms, .flows]) ?_ (State.modFlow_same _ _ _) rfl rfl
      split
      · exact s.unlinkFlow_same _ _
      · exact SameBut.refl _ s
    split
    · exact h.then (State.linkFlow_same _ _ _) rfl rfl
    · exact h

theorem State.withdrawForRate_same (f : FlowIdx) :
    SameBut [.terms, .flows, .ledger, .mgmt] s (s.withdrawForRate f) := by
  unfold State.withdrawForRate
  split_ifs
  · exact ((s.withdraw_same f .new).then (State.repriceFlow_same _ f)
      (rs := [.terms, .flows, .ledger]) rfl rfl).then (State.noteFlowWaiting_same _ f) rfl rfl
  · exact SameBut.refl _ s

theorem State.writeFlow_same (w : FlowWrite) :
    SameBut [.flows] s (s.writeFlow w) := s.modFlow_same _ _

theorem State.setFlow_same (w : FlowWrite) :
    SameBut [.terms, .flows, .ledger, .buffer, .mgmt] s (s.setFlow w) := by
  simp only [State.setFlow]
  have h1 : ∀ s : State, SameBut [.terms, .flows, .ledger, .mgmt] s
      (if decide (w.cb ≠ (s.flow w.flow).cb) = true then (s.writeFlow w).withdrawForRate w.flow
        else s.writeFlow w) := by
    intro s
    split_ifs
    · exact (s.writeFlow_same w).then (State.withdrawForRate_same _ _) rfl rfl
    · exact (s.writeFlow_same w).mono rfl
  have h2 : ∀ (c : Bool) (s : State), SameBut [.terms, .flows, .ledger, .mgmt] s
      (if c = true then (s.writeFlow w).withdrawForRate w.flow else s.writeFlow w) := by
    intro c s
    split_ifs
    · exact (s.writeFlow_same w).then (State.withdrawForRate_same _ _) rfl rfl
    · exact (s.writeFlow_same w).mono rfl
  have h3 : ∀ (c : Prop) [Decidable c] (s : State), SameBut [.flows, .buffer, .mgmt] s
      (if c then s.trimToLimit w.flow else s) := by
    intro c _ s
    split_ifs
    · exact s.trimToLimit_same _
    · exact SameBut.refl _ s
  have h4 : ∀ (c : Bool) (s : State), SameBut [.terms, .mgmt] s
      (if c = true then s.reportRamping else s) := by
    intro c s
    split_ifs
    · exact s.reportRamping_same
    · exact SameBut.refl _ s
  exact ((((s.bindFlow_same w).then (h2 _ _) (rs := [.terms, .flows, .ledger, .mgmt]) rfl rfl).then (h3 _ _)
    (rs := [.terms, .flows, .ledger, .buffer, .mgmt]) rfl rfl)).then (h4 _ _) rfl rfl

theorem State.unbind_same (f : FlowIdx) :
    SameBut [.terms, .flows, .mgmt] s (s.unbind f) := by
  unfold State.unbind
  split
  · exact SameBut.refl _ s
  · exact ((s.unlinkFlow_same _ f).then (State.modFlow_same _ f _) (rs := [.terms, .flows]) rfl rfl).then
      (State.reportRamping_same _) rfl rfl

theorem State.enable_same (f : FlowIdx) :
    SameBut [.terms, .flows, .ledger, .mgmt] s (s.enable f) := by
  unfold State.enable
  split_ifs
  · exact ((s.makeWaiting_same f .new).then (State.noteFlowWaiting_same _ f)
      (rs := [.terms, .flows, .ledger, .mgmt]) rfl rfl).then (State.reportRamping_same _) rfl rfl
  · exact SameBut.refl _ s

theorem State.makeDisabled_same (f : FlowIdx) :
    SameBut [.flows] s (s.makeDisabled f) := (s.modFlow_same f _).then (State.dropCredit_same _ f) rfl rfl

theorem State.disable_same (f : FlowIdx) :
    SameBut [.terms, .flows, .ledger, .buffer, .mgmt] s (s.disable f) := by
  unfold State.disable
  split
  · exact SameBut.refl _ s
  · exact (((s.makeDisabled_same f).then (State.repriceFlow_same _ f)
      (rs := [.terms, .flows, .ledger]) rfl rfl).then (State.flushQueue_same _ f)
      (rs := [.terms, .flows, .ledger, .buffer]) rfl rfl).then (State.reportRamping_same _) rfl rfl
  · exact (((s.makeDisabled_same f).then (State.unlist_same _ f)
      (rs := [.flows, .ledger]) rfl rfl).then (State.flushQueue_same _ f)
      (rs := [.flows, .ledger, .buffer]) rfl rfl).then (State.reportRamping_same _) rfl rfl

theorem State.writeSetup_same (c : Setup) :
    SameBut [.setup, .terms, .flows, .ledger, .mgmt] s (s.writeSetup c) := by
  simp only [State.writeSetup]
  have h0 : SameBut [.setup] s { s with setup := c } := by
    intro p hp
    cases p <;> first | rfl | exact absurd (by decide) hp
  have h1 : ∀ (q : Prop) [Decidable q] (s : State), SameBut [.terms] s
      (if q then s.restartWindows else s) := by
    intro q _ s
    split_ifs
    · exact s.restartWindows_same
    · exact SameBut.refl _ s
  have h2 : ∀ (q : Prop) [Decidable q] (s : State), SameBut [.terms, .ledger] s
      (if q then s.repriceAll else s) := by
    intro q _ s
    split_ifs
    · exact s.repriceAll_same
    · exact SameBut.refl _ s
  have h3 : ∀ (q : Prop) [Decidable q] (s : State), SameBut [.terms, .flows, .ledger, .mgmt] s
      (if q then s.shedToFit else s) := by
    intro q _ s
    split_ifs
    · exact s.shedToFit_same
    · exact SameBut.refl _ s
  exact ((h0.then (h1 _ _) (rs := [.setup, .terms]) rfl rfl).then (h2 _ _)
    (rs := [.setup, .terms, .ledger]) rfl rfl).then (h3 _ _) rfl rfl

theorem State.restartTerminal_same (i : Slot) :
    SameBut [.terms, .flows, .ledger, .buffer, .reentry, .mgmt] s (s.restartTerminal i) := by
  unfold State.restartTerminal
  split
  · exact s.outage_same i true
  · exact s.outage_same i true
  · exact s.outage_same i true
  · exact (s.unqueue_same i).then (State.enterDown_same _ i _ true) rfl rfl
  · exact (s.loseAttempt_same i true).mono rfl
  · exact (s.enterDown_same i _ true).mono rfl
  all_goals exact SameBut.refl _ s

theorem State.restart_same :
    SameBut [.terms, .flows, .ledger, .buffer, .reentry, .mgmt] s (s.restart) := ((((((s.raise_same .restart).then (SameBut.foldl (fun s i => s.restartTerminal_same i) _ _)
      (rs := [.terms, .flows, .ledger, .buffer, .reentry, .mgmt]) rfl rfl).then (State.clearReentry_same _)
      (rs := [.terms, .flows, .ledger, .buffer, .reentry, .mgmt]) rfl rfl).then (State.clearWindows_same _)
      (rs := [.terms, .flows, .ledger, .buffer, .reentry, .mgmt]) rfl rfl).then (State.rebuildLedger_same _)
      (rs := [.terms, .flows, .ledger, .buffer, .reentry, .mgmt]) rfl rfl)).then (State.flushAll_same _) rfl rfl

theorem State.clearTerminal_same (i : Slot) :
    SameBut [.terms] s (s.clearTerminal i) := s.modTerm_same i _

theorem State.clearFlow_same (f : FlowIdx) :
    SameBut [.flows] s (s.clearFlow f) := s.modFlow_same f _

theorem State.lowerTimer_same (i : Slot) :
    SameBut [.terms] s (s.lowerTimer i) := s.modTerm_same i _

theorem State.expireTimer_same (i : Slot) :
    SameBut [.terms, .reentry] s (s.expireTimer i) := by
  unfold State.expireTimer
  split_ifs
  · exact s.makeQueued_same i
  · exact SameBut.refl _ s

theorem State.walkDown_same :
    SameBut [.terms, .reentry] s (s.walkDown) := SameBut.foldl
    (fun s i => (s.lowerTimer_same i).then (State.expireTimer_same _ i) rfl rfl) _ s

theorem State.staleOnce_same (f : FlowIdx) :
    SameBut [.flows, .buffer, .mgmt] s (s.staleOnce f) := by
  unfold State.staleOnce
  split
  · split_ifs
    · exact (s.discardStale_same f).then (State.summarize_same _ f 1) rfl rfl
    · exact SameBut.refl _ s
  · exact SameBut.refl _ s

/-! ### The report of RAMPING terminals -/

/-- What a run of passages to IN_SERVICE does: the states, the notices, and no other field of a terminal. -/
theorem State.foldl_toInService (l : List Slot) : ∀ s : State,
    (∀ i, (l.foldl State.toInService s).term i =
      { s.term i with state := if i ∈ l then .inService else (s.term i).state }) ∧
    (l.foldl State.toInService s).mgmt =
      l.foldl (fun m i => m.take s.setup.enable s.link.frame (.inService i)) s.mgmt := by
  induction l with
  | nil => exact fun s => ⟨fun i => by simp, rfl⟩
  | cons x rest ih =>
    intro s
    obtain ⟨h1, h2⟩ := ih (s.toInService x)
    refine ⟨fun i => ?_, h2⟩
    rw [List.foldl_cons, h1 i, State.toInService, State.raise_term, State.modTerm_term]
    by_cases hx : i = x
    · subst hx; simp
    · simp [hx]

/-- The CLED's report of RAMPING terminals (R19, R115). -/
theorem State.reportRamping_reported (s : State) : Reported s s.reportRamping (fun i => (s.term i).state) s.mgmt := by
  obtain ⟨h1, h2⟩ := State.foldl_toInService
    (s.terms.keys fun i t => decide (t.state = .ramping) && !s.hasWaiting i) s
  have hf (f : FlowIdx) : s.reportRamping.flow f = s.flow f :=
    congrArg (fun t => t.get f) (s.reportRamping_same.at .flows (by decide))
  have hw (i : Slot) : s.reportRamping.hasWaiting i = s.hasWaiting i := by
    have walk : ∀ (n : Nat) (h : Option FlowIdx), s.reportRamping.walkChain n h = s.walkChain n h := by
      intro n
      induction n with
      | zero => intro h; rfl
      | succ n ih =>
        intro h
        cases h with
        | none => rfl
        | some f => rw [State.walkChain, State.walkChain, hf, ih]
    have hc : s.reportRamping.chain i = s.chain i := by
      rw [State.chain, State.chain, walk]
      exact congrArg (s.walkChain Config.chainMax) ((congrArg Terminal.chainHead (h1 i)).trans rfl)
    simp only [State.hasWaiting, hc, hf]
  have hk (i : Slot) : i ∈ (s.terms.keys fun i t => decide (t.state = .ramping) && !s.hasWaiting i) ↔
      (s.term i).state = .ramping ∧ s.hasWaiting i = false := by
    rw [Table.mem_keys _ _ _ (by rfl)]
    simp [State.term]
  refine ⟨fun i => ?_, ?_⟩
  · rw [hw]
    refine (congrArg Terminal.state (h1 i)).trans ?_
    simp only [hk]
  · refine h2.trans (congrArg (fun l => List.foldl _ s.mgmt l) ?_)
    rw [Table.keys_eq_filter _ _ (fun _ => by rfl)]
    simp only [hw]
    rfl

end Sys2Proof.Machine
end

