-- ==== Sys2Proof/Laws/Records.lean ====
section
/-! SUPPORT. The laws of the record frame: what the fields of a record built from a kind and a body are (R190). -/

namespace Sys2Proof.Machine

/-- The bytes of a record built for a kind and a body are those and the seven of its frame. -/
@[simp] theorem mkRecord_bytes_length (k : Byte) (b : List Byte) :
    (mkRecord k b).bytes.length = b.length + 7 := by simp [mkRecord, be32, be16]

@[simp] theorem mkRecord_kind (k : Byte) (b : List Byte) : (mkRecord k b).kind = k := rfl

@[simp] theorem mkRecord_body (k : Byte) (b : List Byte) : (mkRecord k b).body = b := by
  rw [LinkRecord.body, mkRecord_bytes_length]
  simp [mkRecord, frameBytes, be32]

/-- A four-byte number built and read back. -/
theorem word32At_be32 (x : Byte) (w : Word32) (l : List Byte) : word32At (x :: be32 w ++ l) 1 = w := by
  show (w.extractLsb' 24 8 ++ w.extractLsb' 16 8 : Word16) ++ (w.extractLsb' 8 8 ++ w.extractLsb' 0 8 : Word16) = w
  apply BitVec.eq_of_getLsbD_eq
  intro i hi
  simp only [BitVec.getLsbD_append, BitVec.getLsbD_extractLsb']
  split <;> split <;> (rw [decide_eq_true (by omega), Bool.true_and]; congr 1; omega)

@[simp] theorem mkRecord_length (k : Byte) (b : List Byte) :
    (mkRecord k b).length = BitVec.ofNat 32 b.length := by
  rw [LinkRecord.length, mkRecord, List.append_assoc]
  exact word32At_be32 ..

@[simp] theorem mkRecord_crc (k : Byte) (b : List Byte) :
    (mkRecord k b).crc = recordCrc k (BitVec.ofNat 32 b.length) b := by
  have e (x y : Byte) (l : List Byte) : word16At (l ++ [x, y]) l.length = x ++ y := by
    simp [word16At, byteAt, List.getD_eq_getElem?_getD]
  have h (w : Word16) : (w.extractLsb' 8 8 ++ w.extractLsb' 0 8 : Word16) = w := by
    apply BitVec.eq_of_getLsbD_eq
    intro i hi
    simp only [BitVec.getLsbD_append, BitVec.getLsbD_extractLsb']
    split <;> (rw [decide_eq_true (by omega), Bool.true_and]; congr 1; omega)
  rw [LinkRecord.crc, mkRecord_bytes_length]
  have := e ((recordCrc k (BitVec.ofNat 32 b.length) b).extractLsb' 8 8)
    ((recordCrc k (BitVec.ofNat 32 b.length) b).extractLsb' 0 8) (k :: be32 (BitVec.ofNat 32 b.length) ++ b)
  rw [h, show (k :: be32 (BitVec.ofNat 32 b.length) ++ b).length = b.length + 7 - 2 by simp [be32]] at this
  exact this

@[simp] theorem mkRecord_isFramed (k : Byte) (b : List Byte) : (mkRecord k b).isFramed = true := by
  simp [LinkRecord.isFramed, frameBytes]

end Sys2Proof.Machine
end

