-- ==== Sys2Proof/Tests/Slice0.lean ====
section
/-! SUPPORT. Tests: the well-formedness smoke, the check values of the two CRCs, the manual's worked figures on single
steps, and for each statement with hypotheses a concrete state and operands that meet them. -/

namespace Sys2Proof.Tests

set_option Elab.async false

open Sys2Proof.Machine

/-! ### Well-formedness: each check refuses an ill-formed term -/

theorem test_frameStart_of_a_burst_kind_is_ill_formed :
    (Instr.frameStart (mkRecord 2#8 [])).wellFormed = false := by decide

theorem test_burstReport_of_another_kind_is_ill_formed :
    (Instr.burstReport (mkRecord 6#8 [1#8])).wellFormed = false := by decide

theorem test_missReport_of_another_kind_is_ill_formed :
    (Instr.missReport (mkRecord 1#8 [0#8, 1#8])).wellFormed = false := by decide

theorem test_rangingReport_of_another_kind_is_ill_formed :
    (Instr.rangingReport (mkRecord 5#8 [0#8])).wellFormed = false := by decide

theorem test_rangingMiss_of_another_kind_is_ill_formed :
    (Instr.rangingMiss (mkRecord 4#8 [])).wellFormed = false := by decide

theorem test_sectorState_of_another_kind_is_ill_formed :
    (Instr.sectorState (mkRecord 3#8 [])).wellFormed = false := by decide

theorem test_damaged_record_of_no_kind_is_well_formed :
    (Instr.sectorState (mkRecord 0#8 [])).wellFormed = true := by decide

theorem test_unknown_command_of_a_known_code_is_ill_formed :
    (Instr.unknownCommand 0 0x31#8 []).wellFormed = false := by decide

theorem test_body_past_the_length_field_is_ill_formed :
    (Instr.clearFlags 0 (List.replicate 65536 0#8)).wellFormed = false := by
  show bodyFits (List.replicate 65536 0#8) = false
  unfold bodyFits
  exact decide_eq_false (by rw [List.length_replicate]; omega)

/-! ### The two checks -/

/-- The bytes of the digits 1 to 9. -/
def digits : List Byte := [0x31#8, 0x32#8, 0x33#8, 0x34#8, 0x35#8, 0x36#8, 0x37#8, 0x38#8, 0x39#8]

/-- The published check value of the CRC-32 of R96. -/
theorem test_crc32_check_value : crc32 digits = 0xCBF43926#32 := by decide +kernel

/-- The published check value of the CRC-16 of R190. -/
theorem test_crc16_check_value : crc16 digits = 0x29B1#16 := by decide +kernel

/-! ### Small states -/

/-- A state with a terminal record written. -/
def withTerm (i : Slot) (t : Terminal) (s : State) : State := { s with terms := s.terms.put i t }

/-- A state with a flow record written. -/
def withFlow (f : FlowIdx) (r : Flow) (s : State) : State := { s with flows := s.flows.put f r }

/-- A state with a context bound. -/
def withCtx (c : CtxNo) (a : Attempt) (s : State) : State := s.setCtx c (some a)

/-- The reset state with the sector UP and frame 100 current. -/
def up : State := { State.reset with link := { frame := some 100#16, sectorUp := true } }

/-- A terminal in service at a profile with some needs. -/
def served (st : TermState) (p : ProfIdx) : Terminal :=
  { state := st, ceiling := 3, current := some p, needUp := 12 }

/-- Slot 5 in service at profile 0, its window one sample short of W = 8. -/
def almost : State := withTerm 5 { served .inService 0 with window := { samples := 7, sum := 700 } } up

/-- Slot 5 in a state at profile 0 with a full window of some sum. -/
def full (st : TermState) (sum : Nat) : State :=
  withTerm 5 { served st 0 with
    window := { samples := 8, sum := sum }
    beforeFade := if st = .fading then some .ramping else none } up

/-- Slot 5 RANGING, bound to context 1 in a stage. -/
def ranging (a : Attempt) (t : Terminal) : State :=
  withCtx 1 { a with terminal := 5 } (withTerm 5 { t with state := .ranging } up)

/-! ### Records and bodies -/

/-- A BURST_REPORT of slot 5 for frame 100, without payload. -/
def burst (bad proving : Byte) (snr : Nat) : LinkRecord :=
  mkRecord 2#8 ([0#8, 100#8, 5#8, bad, proving, 0#8] ++ num16 snr ++ [0#8, 0#8])

/-- A MISS_REPORT of slot 5 for frame 100. -/
def miss (proving : Byte) : LinkRecord := mkRecord 3#8 [0#8, 100#8, 5#8, proving]

/-- A RANGING_REPORT of slot 5 with identity 7. -/
def report (bad : Byte) (snr : Nat) (timing : Word16) (power : Byte) : LinkRecord :=
  mkRecord 4#8 ([5#8, bad, 0#8, 0#8, 0#8, 0#8, 0#8, 7#8] ++ num16 snr ++ be16 timing ++ [power, 0#8])

/-- A RANGING_MISS of slot 5. -/
def noRanging : LinkRecord := mkRecord 5#8 [5#8]

/-- A SECTOR_STATE. -/
def sector (code : Byte) : LinkRecord := mkRecord 6#8 [code]

/-- A FRAME_START. -/
def frame (n : FrameNo) : LinkRecord := mkRecord 1#8 (be16 n)

/-- A FRAME_START of frame 7 with the two bytes of its check exchanged. -/
def swapped : LinkRecord :=
  ⟨(frame 7#16).bytes.take 7 ++ [byteAt (frame 7#16).bytes 8, byteAt (frame 7#16).bytes 7]⟩

/-- A source address that is no group address. -/
def station : Mac := 0x020000000001#48

/-- A record built for a kind and a body whose length its field can hold passes the checks of its frame. -/
theorem framed (k : Byte) (b : List Byte) (hb : b.length < 4294967296) :
    (7 ≤ (mkRecord k b).bytes.length ∧
      recordCrc (mkRecord k b).kind (mkRecord k b).length (mkRecord k b).body = (mkRecord k b).crc) ∧
      (mkRecord k b).length.toNat = (mkRecord k b).body.length := by
  refine ⟨⟨by rw [mkRecord_bytes_length]; omega, by simp⟩, ?_⟩
  rw [mkRecord_length, mkRecord_body, BitVec.toNat_ofNat, Nat.mod_eq_of_lt hb]

/-- A record built for a kind of fixed body length is sound. -/
theorem sound_fixed (k : Byte) (b : List Byte) (h : knownKind k = true) (hk : k ≠ 2#8)
    (hl : b.length = if k = 1#8 then 2 else if k = 3#8 then 4 else if k = 4#8 then 14 else 1)
    (h4 : k = 4#8 → byteAt b 1 = 0#8 ∨ byteAt b 1 = 1#8)
    (h6 : k = 6#8 → byteAt b 0 = 0#8 ∨ byteAt b 0 = 1#8) : RecordSound (mkRecord k b) := by
  have hr : ∀ k : Byte, knownKind k = true → 1 ≤ k.toNat ∧ k.toNat ≤ 6 := by decide
  have hf := framed k b (by rw [hl]; split <;> (try split) <;> (try split) <;> omega)
  refine ⟨hf.1, hr k h, hf.2, ?_, fun e => absurd e hk, ?_, ?_, ?_, ?_, fun e => absurd e hk, ?_, ?_⟩ <;>
    (intro e; rw [mkRecord_kind] at e; rw [mkRecord_body]; subst e; first | simpa using hl | exact h4 rfl | exact h6 rfl)

/-- A BURST_REPORT built without payload is sound. -/
theorem sound_burst (bad proving : Byte) (snr : Nat) (h : bad = 0#8 ∨ bad = 1#8) :
    RecordSound (burst bad proving snr) := by
  have e : (burst bad proving snr).kind = 2#8 := rfl
  have eb : (burst bad proving snr).body =
      [0#8, 100#8, 5#8, bad, proving, 0#8] ++ num16 snr ++ [0#8, 0#8] := mkRecord_body ..
  have no (k : Byte) (hk : 2#8 ≠ k) {q : Prop} (ek : (burst bad proving snr).kind = k) : q :=
    absurd (e.symm.trans ek) hk
  have hf := framed 2#8 ([0#8, 100#8, 5#8, bad, proving, 0#8] ++ num16 snr ++ [0#8, 0#8])
    (show 10 < 4294967296 by decide)
  refine ⟨hf.1, by rw [e]; decide, hf.2, no 1#8 (by decide), fun _ => ?_, no 3#8 (by decide), no 4#8 (by decide),
    no 5#8 (by decide), no 6#8 (by decide), fun _ => ?_, no 4#8 (by decide), no 6#8 (by decide)⟩ <;> rw [eb]
  · exact ⟨Nat.le_refl 10, [], show 0 = (0#8 ++ 0#8 : Word16).toNat by decide, rfl, fun _ hp => nomatch hp⟩
  · exact h

theorem sound_miss (proving : Byte) : RecordSound (miss proving) :=
  sound_fixed 3#8 _ rfl (by decide) rfl (fun e => absurd e (by decide)) (fun e => absurd e (by decide))

theorem sound_report (bad : Byte) (snr : Nat) (timing : Word16) (power : Byte) (h : bad = 0#8 ∨ bad = 1#8) :
    RecordSound (report bad snr timing power) :=
  sound_fixed 4#8 _ rfl (by decide) rfl (fun _ => h) (fun e => absurd e (by decide))

theorem sound_noRanging : RecordSound noRanging :=
  sound_fixed 5#8 _ rfl (by decide) rfl (fun e => absurd e (by decide)) (fun e => absurd e (by decide))

theorem sound_sector (code : Byte) (h : code = 0#8 ∨ code = 1#8) : RecordSound (sector code) :=
  sound_fixed 6#8 _ rfl (by decide) rfl (fun e => absurd e (by decide)) (fun _ => h)

theorem sound_frame (n : FrameNo) : RecordSound (frame n) :=
  sound_fixed 1#8 _ rfl (by decide) rfl (fun e => absurd e (by decide)) (fun e => absurd e (by decide))

/-- A profile table entry written. -/
def withProfile (p : ProfIdx) (e : Profile) (s : State) : State := { s with profiles := s.profiles.put p e }

/-- Profiles 1 to 7 of the example profile table of spec/03. -/
def withExampleTable (s : State) : State :=
  withProfile 1 ⟨true, 12, 44, 60, 45, 2⟩ <| withProfile 2 ⟨true, 16, 40, 95, 80, 2⟩ <|
    withProfile 3 ⟨true, 20, 36, 120, 105, 3⟩ <| withProfile 4 ⟨true, 24, 36, 145, 130, 3⟩ <|
      withProfile 5 ⟨true, 32, 32, 175, 155, 3⟩ <| withProfile 6 ⟨true, 40, 32, 205, 185, 4⟩ <|
        withProfile 7 ⟨true, 48, 32, 230, 205, 4⟩ s

/-- What holds of each context that is bound holds of every bound context. -/
theorem every_context (s : State) (p : CtxNo → Attempt → Prop) [∀ c a, Decidable (p c a)]
    (h : ∀ c, (s.ctx c).all (fun a => decide (p c a)) = true) : ∀ c a, s.ctx c = some a → p c a := by
  intro c a e
  have k := h c
  rw [e] at k
  exact of_decide_eq_true k

/-- A context that holds a terminal's attempt is its only one where no other bound context names the terminal. -/
theorem only_context (s : State) (i : Slot) (c : CtxNo) (a : Attempt) (h : s.ctx c = some a) (hi : a.terminal = i)
    (ho : ∀ d, (s.ctx d).all (fun b => decide (b.terminal = i → d = c)) = true) : OnlyContext s i c a :=
  ⟨h, hi, every_context s (fun d b => b.terminal = i → d = c) ho⟩

/-- Whether an outcome answers a next state with a property. -/
def answers (o : Host.Outcome State Fault Refusal) (p : State → Bool) : Bool :=
  match o with
  | .next t => p t
  | .fault _ | .refused _ => false

/-- A terminal body of PROVISION_TERMINAL and SET_TERMINAL with identity 7. -/
def terminalBody (slot flags cls policy ceiling : Byte) : List Byte :=
  [slot, flags] ++ be48 7#48 ++ [cls, policy, ceiling, 0#8]

/-- A SET_SECTOR body: the presence mask, some fields after it, and zeros. -/
def setupBody (mask : Word32) (fields : List Byte) : List Byte :=
  be32 mask ++ fields ++ List.replicate (30 - fields.length) 0#8

/-- A request of an unknown command and of a READ_SECTOR with a byte too many. -/
def twoCommands : Packet := requestPacket broadcastAddress station 7#16 [⟨0xFF#8, []⟩, ⟨0x43#8, [0#8]⟩]

/-- A trunk packet of 64 bytes with a VLAN tag. -/
def tagged (v : Word16) : Packet :=
  sealPacket (be48 1#48 ++ be48 station ++ be16 0x8100#16 ++ be16 v ++ be16 0x0800#16)

/-! ### The manual's worked figures, one step each -/

/-- R161: 20103 after 20101 counts a gap of 1, and a repeat of 20101 a gap of 65535. -/
theorem test_frameStart_gaps :
    answers (exec (.frameStart (frame 20103#16)) { up with link := { up.link with frame := some 20101#16 } })
        (fun t => t.counters.frameGaps == 1 && t.link.frame == some 20103#16) = true ∧
      answers (exec (.frameStart (frame 20101#16)) { up with link := { up.link with frame := some 20101#16 } })
        (fun t => t.counters.frameGaps == 65535) = true := by decide +kernel

/-- R190: the CRC-16 ends the record high byte first, and a record whose CRC-16 does not check, or that is shorter than
its frame, is counted and dropped. -/
theorem test_record_ends_with_its_crc :
    (frame 7#16).bytes = [1#8, 0#8, 0#8, 0#8, 2#8, 0#8, 7#8] ++ be16 (crc16 [1#8, 0#8, 0#8, 0#8, 2#8, 0#8, 7#8]) ∧
      ([swapped, ⟨[1#8, 0#8, 0#8]⟩] : List LinkRecord).all (fun r => answers (exec (.frameStart r) up)
        (fun t => t.counters.linkErrors == 1 && t.link.frame == some 100#16)) = true := by decide +kernel

/-- R28: eight samples of sum 156 give Q 20 (19.5 rounded up), which is not below exit(0) = 20; 155 gives 19, which
is, so the terminal fades (R46, R17). -/
theorem test_burst_completes_the_window_rounded :
    answers (exec (.burstReport (burst 0#8 0#8 56)) (withTerm 5 { served .inService 0 with
        window := { samples := 7, sum := 100 } } up))
      (fun t => (t.term 5).state == .inService && (t.term 5).lastResult == some ⟨20, false, none⟩) = true ∧
    answers (exec (.burstReport (burst 0#8 0#8 55)) (withTerm 5 { served .inService 0 with
        window := { samples := 7, sum := 100 } } up))
      (fun t => (t.term 5).state == .fading && (t.term 5).lastResult == some ⟨19, false, none⟩) = true := by
  decide +kernel

/-- R29: two bad bursts in the window reach E_max = 2, whatever Q. -/
theorem test_burst_impairs_the_window :
    answers (exec (.burstReport (burst 1#8 0#8 500)) (withTerm 5 { served .inService 0 with
        window := { samples := 7, sum := 3500, crcBad := 1 } } up))
      (fun t => (t.term 5).state == .fading && (t.term 5).lastResult == some ⟨500, true, none⟩) = true := by
  decide +kernel

/-- R33 and R12: the fortieth miss in a row is an outage; the terminal is DOWN with timer settle = 200. -/
theorem test_missReport_at_the_outage_count :
    answers (exec (.missReport (miss 0#8)) (withTerm 5 { served .fading 0 with
        beforeFade := some .inService, window := { misses := 39 } } up))
      (fun t => (t.term 5).state == .down && (t.term 5).timer == some 200 && (t.term 5).counters.outages == 1) =
      true := by decide +kernel

/-- R70: timing -19 and power +2 outside a timing window of 8 give the corrections +19 and -2. -/
theorem test_rangingReport_is_adjusted :
    answers (exec (.rangingReport (report 0#8 100 (-19#16) 2#8)) (ranging { terminal := 5, stage := .inviteWait } {}))
      (fun t => t.link.outgoing.map LinkRecord.body == [[5#8, 0#8, 19#8, 0xFE#8]] &&
        t.ctx 1 == some { terminal := 5, stage := .invitePending, adjusts := 1 }) = true := by decide +kernel

/-- R53, the first worked line: LAST, resume 7, ceiling 7 and a sample of 130 give entry profile 3. -/
theorem test_rangingReport_chooses_the_entry_profile :
    answers (exec (.rangingReport (report 0#8 130 0#16 0#8)) (withExampleTable
        (ranging { terminal := 5, stage := .inviteWait } { policy := .last, resume := some 7, ceiling := 7 })))
      (fun t => t.ctx 1 == some { terminal := 5, stage := .provePending, sample := some 130, entryProfile := some 3 })
      = true := by decide +kernel

/-- R13: with base 50 the third failed attempt in a row backs off 200 frame events, the eighth 3200. -/
theorem test_rangingMiss_backs_off :
    answers (exec (.rangingMiss noRanging) (ranging { terminal := 5, stage := .inviteWait, failures := 2 }
        { failedAttempts := 2 }))
      (fun t => (t.term 5).timer == some 200 && (t.term 5).lastOutcome == some .noResponse) = true ∧
    answers (exec (.rangingMiss noRanging) (ranging { terminal := 5, stage := .inviteWait, failures := 2 }
        { failedAttempts := 7 }))
      (fun t => (t.term 5).timer == some 3200) = true := by decide +kernel

/-- R126: the cells of packets of the table's lengths. -/
theorem test_cells_of_the_table :
    [64, 256, 600, 1000, 1500, 4000, 9216].map cellsOf = [1, 1, 3, 4, 6, 16, 36] := by decide +kernel

/-- R106: U_d, K_up and K_down at the reset values. -/
theorem test_capacity_at_reset :
    State.reset.setup.usableUp = 5360 ∧ State.reset.setup.ceilingUp = 4824 ∧ State.reset.setup.ceilingDown = 7200 := by
  decide +kernel

/-- R107: the upstream need of one ADMITTED UP flow of CB 605 at profiles 0 to 7 of the example table. -/
theorem test_needs_of_the_table :
    ([0, 1, 2, 3, 4, 5, 6, 7] : List ProfIdx).map (fun p => (withTerm 12 { served .inService p with chainHead := some 40 }
        (withFlow 40 { bound := some 12, dir := .up, cb := 605, pb := 605, state := .admitted }
          (withExampleTable up))).needWith 12 .up []) =
      [4888, 3271, 2460, 1972, 1650, 1242, 1000, 839] := by decide +kernel

/-- R138: a 9216-byte packet costs 12288 symbols at density 48. -/
theorem test_cost_of_the_longest_packet : symbolCost 9216 48 = 12288 := by decide +kernel

/-- Terminal 12 of the worked case 6.7 at profile 7 with flows 40 and 41 ADMITTED, and terminal 13 standing for the
other terminals' 2700 symbols. -/
def worked67 : State :=
  withTerm 12 { served .inService 7 with ceiling := 7, chainHead := some 40, needUp := 2039 } <|
    withTerm 13 { served .inService 7 with needUp := 2700 } <|
      withFlow 40 { bound := some 12, dir := .up, cls := 1, cb := 605, pb := 605, state := .admitted
                    chainNext := some 41 } <|
        withFlow 41 { bound := some 12, dir := .up, cls := 5, cb := 900, pb := 900, state := .admitted } <|
          { withExampleTable up with ledger := { list := [], loadUp := 4739, loadDown := 0 } }

/-- 6.7: the step to profile 5 sheds flow 41, leaving a need of 1242 and a load of 3942. -/
theorem test_stepDown_sheds :
    answers (exec (.windowComplete 12) (withTerm 12 { (worked67.term 12) with
        window := { samples := 8, sum := 1360 } } worked67))
      (fun t => (t.term 12).current == some 5 && (t.term 12).needUp == 1242 && t.ledger.loadUp == 3942 &&
        (t.flow 41).state == .waiting .shed && t.ledger.list == [41] && (t.term 12).state == .ramping) = true := by
  decide +kernel

/-- 6.7: back at profile 7 the scan admits flow 41 again and the terminal is IN_SERVICE. -/
theorem test_scan_readmits :
    answers (exec .readmissionScan (withTerm 12 { (worked67.term 12) with state := .ramping, needUp := 839 } <|
        withFlow 41 { (worked67.flow 41) with state := .waiting .shed } <|
        { worked67 with
          ledger := { list := [41], loadUp := 3539, loadDown := 0 }
          link := { worked67.link with announced := { cled := [1#16] } } }))
      (fun t => (t.term 12).needUp == 2039 && t.ledger.loadUp == 4739 && (t.flow 41).state == .admitted &&
        t.ledger.list == [] && (t.term 12).state == .inService) = true := by decide +kernel

/-- The six entries of flow 11 in the worked drain of spec/07. -/
def worked76 : State :=
  let e (n : Nat) (a : FrameNo) : QEntry := ⟨List.replicate n 0#8, some a⟩
  withTerm 3 { served .inService 7 with chainHead := some 11 } <|
    withFlow 11 { bound := some 3, cls := 2, cb := 1200, pb := 3000, holdAge := 360, state := .admitted
                  queue := [e 1500 20002#16, e 1500 20004#16, e 600 20010#16, e 1500 20150#16, e 1500 20151#16,
                    e 4000 20300#16]
                  marker := some ⟨6, 0, 0⟩ } <|
      { withExampleTable up with
        buffer := { freeCells := 32768 - 43, stamp := some 20362#16 }
        link := { up.link with announced := { pbr := [20363#16] } } }

/-- 7.6, frame 20363: entry a is discarded STALE, b and c are released at 2832 symbols, and the credit stays 1200. -/
theorem test_pbr_drains_a_held_backlog :
    answers (exec .pbrFrameEvent worked76)
      (fun t => (t.flow 11).queue.map QEntry.len == [1500, 1500, 4000] && (t.flow 11).credit == 1200 &&
        (t.flow 11).marker == some ⟨3, 2, 1⟩ && (t.flow 11).counters.stale == 1 &&
        t.link.outgoing.map (fun r => r.body.length) == [8 + 2 + 1500 + 2 + 600]) = true := by decide +kernel

/-- 8.7: contexts 0 and 1 and terminals 3, 12, 20 and 37 give the six entries listed there. -/
theorem test_gbld_builds_the_worked_list :
    answers (exec .gbldFrameEvent
        (withCtx 0 { terminal := 58, stage := .provePending, entryProfile := some 0 } <|
          withCtx 1 { terminal := 101 } <|
            withTerm 3 { served .inService 7 with needUp := 432 } <| withTerm 12 (served .ramping 0) <|
              withTerm 20 { served .inService 4 with needUp := 1103 } <| withTerm 37 (served .ramping 3) <|
                { up with link := { up.link with announced := { gbld := [20378#16] } } }))
      (fun t => t.link.outgoing == [grantListRecord 20380#16
        [⟨.proving, 58, 0, 0, 160⟩, ⟨.ranging, 101, 0, 160, 160⟩, ⟨.data, 3, 7, 320, 432⟩, ⟨.data, 12, 0, 752, 12⟩,
          ⟨.data, 20, 4, 764, 1103⟩, ⟨.data, 37, 3, 1867, 12⟩]] &&
        t.reentry.grants == [⟨0, 58, .proving, 20380#16⟩, ⟨1, 101, .ranging, 20380#16⟩]) = true := by decide +kernel

/-- R95, the table's lines for base 100, k 3 and base 4090, k 4. -/
theorem test_mapTags_writes_the_block :
    answers (exec (.mapTags station [0#8, 100#8, 3#8, 1#8, 0#8, 11#8]) worked76)
        (fun t => t.tags.get 96 == some 11 && t.tags.get 103 == some 11 && t.tags.get 104 == none &&
          t.mgmt.lastResult == some ⟨0x24#8, .ok, [0#8, 96#8, 0#8, 8#8]⟩) = true ∧
      answers (exec (.mapTags station [0x0F#8, 0xFA#8, 4#8, 1#8, 0#8, 11#8]) worked76)
        (fun t => t.tags.get 4095 == none && t.tags.get 4094 == some 11 &&
          t.mgmt.lastResult == some ⟨0x24#8, .ok, [0x0F#8, 0xF0#8, 0#8, 15#8]⟩) = true := by decide +kernel

/-- R6: class 4 and ceiling 12 are clamped, and the slot is PARKED. -/
theorem test_provisionTerminal_clamps :
    answers (exec (.provisionTerminal station (terminalBody 5#8 0#8 4#8 0#8 12#8)) up)
      (fun t => (t.term 5).state == .parked && (t.term 5).cls == 3 && (t.term 5).ceiling == 11 &&
        t.mgmt.lastResult == some ⟨0x01#8, .clamped, []⟩ && t.mgmt.controller == some station) = true := by
  decide +kernel

/-- R8 and R59: a PARKED terminal of class 1 is released ahead of class 2 and behind class 1. -/
theorem test_releaseTerminal_queues_by_class :
    answers (exec (.releaseTerminal station [5#8, 0#8]) (withTerm 5 { state := .parked, cls := 1 } <|
        withTerm 6 { state := .queued, cls := 1 } <| withTerm 7 { state := .queued, cls := 2 } <|
          { up with reentry := { queue := [6, 7] } }))
      (fun t => t.reentry.queue == [6, 5, 7] && (t.term 5).state == .queued) = true := by decide +kernel

/-- R41: an exit threshold that is not below the entry threshold is INCONSISTENT. -/
theorem test_writeProfile_of_equal_thresholds :
    answers (exec (.writeProfile station ([1#8, 0#8, 12#8, 2#8] ++ num16 44 ++ num16 60 ++ num16 60)) up)
      (fun t => t.mgmt.lastResult == some ⟨0x10#8, .inconsistent, []⟩ && t.mgmt.controller == none) = true := by
  decide +kernel

/-- R181: U = 3711 is below 256 x 12 + 4 x 160 = 3712, and 3712 is not. -/
theorem test_setSector_keeps_room_for_the_grants :
    answers (exec (.setSector station (setupBody 1#32 (num16 3711))) up)
        (fun t => t.setup.u == 6000 && t.mgmt.lastResult == some ⟨0x30#8, .range, []⟩) = true ∧
      answers (exec (.setSector station (setupBody 1#32 (num16 3712))) up)
        (fun t => t.setup.u == 3712 && t.mgmt.lastResult == some ⟨0x30#8, .ok, []⟩) = true := by decide +kernel

/-- R174 to R177: a request of an unknown code and a READ_SECTOR of a wrong length is answered UNKNOWN and LENGTH, one
command a step, and its response waits at the transmitter. -/
theorem test_request_is_taken_to_its_response :
    answers (exec .requestTake { up with mgmt := { requests := [twoCommands] } })
        (fun t => t.mgmt.active == some ⟨station, 7#16, [⟨0xFF#8, []⟩, ⟨0x43#8, [0#8]⟩], []⟩) = true ∧
      answers (exec (.readSector station [0#8]) { up with mgmt :=
          { requests := [twoCommands]
            active := some ⟨station, 7#16, [⟨0x43#8, [0#8]⟩], [⟨0xFF#8, .unknown, []⟩]⟩ } })
        (fun t => t.mgmt.requests == [] && t.tx.sending == some (managementPacket station up.setup.address
          ([1#8, 2#8, 0#8, 7#8, 0#8, 2#8] ++ [0xFF#8, 8#8, 0#8, 0#8] ++ [0x43#8, 9#8, 0#8, 0#8]))) = true := by
  decide +kernel

/-- R97: a tagged packet of an unmapped tag is unclassified, and of an ADMITTED flow's tag is enqueued. -/
theorem test_trunk_packet_is_enqueued :
    answers (exec (.trunkPacketArrival (tagged 100#16)) worked76) (fun t => t.counters.unclassified == 1) = true ∧
      answers (exec (.trunkPacketArrival (tagged 100#16)) { worked76 with tags := Table.empty.put 100 (some 11) })
        (fun t => (t.flow 11).queue.length == 7 && t.buffer.freeCells == 32768 - 44 &&
          (t.flow 11).counters.enqueued == 1) = true := by decide +kernel

/-! ### What meets the hypotheses of the statements -/

/-- A step that answers has a next state. -/
theorem next_of (o : Host.Outcome State Fault Refusal) (h : answers o (fun _ => true) = true) : ∃ t, o = .next t := by
  cases o with
  | next t => exact ⟨t, rfl⟩
  | fault r => cases r
  | refused r => cases h

/-- The terminals that contexts are bound to, as a test of the four contexts. -/
theorem bound_iff (s : State) (i : Slot) :
    (∃ c a, s.ctx c = some a ∧ a.terminal = i) ↔ ∃ c, (s.ctx c).any (fun a => decide (a.terminal = i)) = true := by
  simp only [Option.any_eq_true, decide_eq_true_eq]

theorem witness_IdleStepTakesWhatIsDue :
    (up.pending = [] ∧ up.mgmt.active = none) ∧
      let a : ActiveRequest := ⟨station, 7#16, [⟨0x43#8, []⟩], []⟩
      let s : State := { up with mgmt := { active := some a } }
      s.pending = [] ∧ s.mgmt.active = some a ∧ a.todo = ⟨0x43#8, []⟩ :: [] := by decide +kernel

/-- Every queue at its bound and the credit at 1024, with a frame event to take. -/
def brimming : State :=
  { up with
    pending := [.qmonFrameEvent]
    mgmt := { requests := List.replicate 4 [], notices := List.replicate 32 ⟨0#16, none, .restart⟩
              controller := some station }
    tx := { sending := some [], queue := List.replicate 64 [] }
    reentry := { credit := 1024 } }

theorem witness_QueueAndCreditBoundsAreKept :
    (∃ t, step brimming = .next t) ∧ QueuesBounded brimming ∧ CreditBounded brimming ∧ SetupSound brimming :=
  ⟨next_of _ (by decide +kernel), by unfold QueuesBounded; decide +kernel, by unfold CreditBounded; decide +kernel,
    by unfold SetupSound; decide +kernel⟩

/-- The example table, a mapped tag, a held packet and a command waiting. -/
def mapped : State :=
  { worked76 with
    tags := Table.empty.put 100 (some 11)
    pending := [.pbrFrameEvent] }

/-- The chains are sound where every bound flow stands in the chain of one terminal. -/
theorem chains_sound (s : State) (i : Slot) (hj : ∀ j, j = i ∨ (s.term j).chainHead = none)
    (hb : ∀ f ∈ s.chain i, (s.flow f).bound = some i)
    (hf : ∀ f, f ∈ s.chain i ∨ (s.flow f).bound = none ∧ (s.flow f).chainNext = none)
    (hl : (s.chain i).length ≤ 16 ∧ (s.chain i).Pairwise (ChainOrder s))
    (hn : ∀ f, (s.chain i).getLast? = some f → (s.flow f).chainNext = none) : ChainsSound s := by
  have empty (j : Slot) (h : (s.term j).chainHead = none) : s.chain j = [] := by rw [State.chain, h]; rfl
  have one (j : Slot) : j = i ∨ s.chain j = [] := (hj j).imp_right (empty j)
  refine ⟨fun j f => ⟨fun h => ?_, fun h => ?_⟩, fun j => ?_, fun j f h => ?_, fun f h => ?_⟩
  · rcases one j with rfl | e
    · exact hb f h
    · rw [e] at h; cases h
  · rcases hf f with k | k
    · rw [hb f k] at h; cases h; exact k
    · rw [k.1] at h; cases h
  · rcases one j with rfl | e
    · exact hl
    · rw [e]; exact ⟨Nat.zero_le _, .nil⟩
  · rcases one j with rfl | e
    · exact hn f h
    · rw [e] at h; cases h
  · rcases hf f with k | k
    · rw [hb f k] at h; cases h
    · exact k.2

/-- The held backlog of spec/07 with the needs and loads of R107 and R108, one frame event announced to every block, and
the PBR's to take. -/
def priced : State :=
  let n := mapped.needWith 3 .down []
  withTerm 3 { (mapped.term 3) with needDown := n }
    { mapped with
      ledger := { list := [], loadUp := 12, loadDown := n }
      link := { mapped.link with announced := ⟨[7#16], [7#16], [7#16], [7#16], [7#16], [7#16]⟩ } }

theorem priced_chains : ChainsSound priced :=
  chains_sound priced 3 (by decide +kernel) (by decide +kernel) (by decide +kernel)
    (by unfold ChainOrder; decide +kernel) (by decide +kernel)

theorem priced_setup : SetupSound priced := by unfold SetupSound; decide +kernel

theorem priced_ledger : LedgerSound priced := by
  have served : ∀ f, f = 11 ∨ (priced.flow f).state ≠ .admitted := by decide +kernel
  have up : ∀ i, (priced.term i).need .up = priced.needWith i .up [] := by decide +kernel
  have down : ∀ i, (priced.term i).need .down = priced.needWith i .down [] := by decide +kernel
  refine ⟨fun f h => ?_, fun i x => ?_, by decide +kernel⟩
  · rcases served f with rfl | e
    · exact ⟨3, by decide +kernel⟩
    · exact absurd h e
  · cases x
    · exact down i
    · exact up i

theorem witness_ProfilesAndReservedTagsAreKept :
    (∃ t, step mapped = .next t) ∧ ProfilesSound mapped ∧ TagsReserved mapped ∧
      (∃ t, step priced = .next t) ∧ ChainsSound priced :=
  ⟨next_of _ (by decide +kernel), by unfold ProfilesSound; decide +kernel, by unfold TagsReserved; decide +kernel,
    next_of _ (by decide +kernel), priced_chains⟩

theorem witness_CellsStayBalanced : (∃ t, step mapped = .next t) ∧ CellsBalanced mapped :=
  ⟨next_of _ (by decide +kernel), by unfold CellsBalanced; decide +kernel⟩

/-- Slot 4 QUEUED and slot 5 RANGING in context 1, with the REC's frame event to take. -/
def reentering : State :=
  let s := withTerm 4 { state := .queued } (ranging { terminal := 5, stage := .inviteWait, timer := some 1 } {})
  { s with
    pending := [.recFrameEvent]
    reentry := { s.reentry with queue := [4], credit := 256 }
    link := { s.link with announced := { reec := [101#16] } } }

/-- The Re-entry Controller is sound: its contexts tested one by one and in pairs. -/
theorem reentry_sound (s : State) (hn : s.reentry.queue.Nodup)
    (hq : ∀ i, i ∈ s.reentry.queue ↔ (s.term i).state = .queued)
    (hr : ∀ i, (s.term i).state = .ranging ↔ ∃ c, (s.ctx c).any (fun a => decide (a.terminal = i)) = true)
    (ho : ∀ c d, (s.ctx c).all (fun a => (s.ctx d).all fun b => decide (a.terminal = b.terminal → c = d)) = true) :
    ReentrySound s := by
  refine ⟨hn, hq, fun i => (hr i).trans (bound_iff s i).symm, fun c d a b hc hd => ?_⟩
  have h := ho c d
  rw [hc, hd] at h
  exact of_decide_eq_true h

theorem witness_ReentryStaysSound : (∃ t, step reentering = .next t) ∧ ReentrySound reentering :=
  ⟨next_of _ (by decide +kernel),
    reentry_sound _ (by decide +kernel) (by decide +kernel) (by decide +kernel) (by decide +kernel)⟩

/-- Flow 41 waiting in the list of the worked case 6.7, with a scan to take. -/
def waiting67 : State :=
  withTerm 12 { (worked67.term 12) with state := .ramping, current := some 5, needUp := 1242 } <|
    withFlow 41 { (worked67.flow 41) with state := .waiting .shed } <|
      { worked67 with
        pending := [.readmissionScan]
        ledger := { list := [41], loadUp := 3942, loadDown := 0 }
        link := { worked67.link with announced := { cled := [1#16] } } }

theorem witness_ReadmissionStaysSound : (∃ t, step waiting67 = .next t) ∧ ReadmissionSound waiting67 :=
  ⟨next_of _ (by decide +kernel), by unfold ReadmissionSound; decide +kernel⟩

theorem witness_BurstBodiesReadBack :
    let ps : List Packet := [List.replicate 65535 0#8, []]
    let r := frame 7#16
    (([] : List Byte).length < 4294967296 ∧ 7 ≤ r.bytes.length ∧ r.length.toNat = r.body.length ∧
      r.crc = recordCrc r.kind r.length r.body) ∧
      1023 < 1024 ∧ ps.length < 65536 ∧ ∀ p ∈ ps, p.length < 65536 := by
  refine ⟨by decide +kernel, by decide, by decide, fun p hp => ?_⟩
  rcases List.mem_pair.mp hp with rfl | rfl
  · rw [List.length_replicate]; decide
  · decide

theorem witness_RequestsReadBack :
    let rs : List CmdRecord := List.replicate 16 ⟨0x43#8, List.replicate 65535 0#8⟩
    isGroup station = false ∧ 1 ≤ rs.length ∧ rs.length ≤ 16 ∧ ∀ r ∈ rs, r.body.length < 65536 := by
  refine ⟨by decide, by decide, by decide, fun r hr => ?_⟩
  rw [List.eq_of_mem_replicate hr]
  show (List.replicate 65535 0#8).length < 65536
  rw [List.length_replicate]
  decide

theorem witness_CommandRecordsReadBack :
    let c : Instr := .setFlow station [1#8]
    let d : Instr := .unknownCommand station 0x07#8 []
    (c.wellFormed = true ∧ commandRecord c = some (station, 0x20#8, [1#8])) ∧
      d.wellFormed = true ∧ commandRecord d = some (station, 0x07#8, []) := by decide +kernel

theorem witness_DamagedRecordsAreDropped :
    (¬ RecordSound (mkRecord 0#8 []) ∧ ¬ RecordSound (mkRecord 1#8 [1#8])) ∧
      (¬ RecordSound swapped ∧ ¬ RecordSound ⟨[1#8, 0#8, 0#8]⟩) :=
  ⟨⟨fun h => absurd h.2.1.1 (by decide), fun h => absurd (h.2.2.2.1 rfl) (by decide)⟩,
    fun h => absurd h.1.2 (by decide +kernel), fun h => absurd h.1.1 (by decide)⟩

theorem witness_FrameStartIsAdopted :
    (RecordSound (frame 101#16) ∧ (frame 101#16).kind = 1#8) ∧
      up.link.frame = some 100#16 ∧ word16At (frame 101#16).body 0 = 100#16 + 1 ∧
      RecordSound (frame 0#16) ∧ word16At (frame 0#16).body 0 ≠ 100#16 + 1 :=
  ⟨⟨sound_frame _, rfl⟩, by decide, by decide, sound_frame _, by decide⟩

theorem witness_BurstIsOneSample :
    let i := (readBurst (burst 0#8 0#8 20).body).slot
    (RecordSound (burst 0#8 0#8 20) ∧ (burst 0#8 0#8 20).kind = 2#8) ∧ (almost.term i).state.serviced = true ∧
      (almost.term i).window.samples + 1 = 2 ^ almost.setup.w ∧
      ((full .fading 0).term i).state.serviced = true ∧
      ((full .fading 0).term i).window.samples + 1 ≠ 2 ^ (full .fading 0).setup.w ∧
      (readBurst (burst 0#8 0#8 20).body).proving = false ∧ (readBurst (burst 0#8 0#8 20).body).crcGood = true ∧
      RecordSound (burst 1#8 1#8 1023) ∧ (readBurst (burst 1#8 1#8 1023).body).proving = true :=
  ⟨⟨sound_burst _ _ _ (.inl rfl), rfl⟩, by decide +kernel, by decide +kernel, by decide +kernel, by decide +kernel,
    by decide +kernel, by decide +kernel, sound_burst _ _ _ (.inr rfl), by decide +kernel⟩

/-- Slot 5 RAMPING at profile 3 of the example table with a full window of some sum. -/
def atThree (sum : Nat) (t : Terminal) : State :=
  withExampleTable (withTerm 5 { t with
    state := .ramping, current := some 3, ceiling := 7, window := { t.window with samples := 8, sum := sum } } up)

theorem witness_WindowResultStepsDown :
    (((full .inService 155).term 5).state.active = true ∧ ((full .inService 155).term 5).current = some 0 ∧
      (full .inService 155).windowFull 5 ∧
      (full .inService 155).resultQ 5 < ((full .inService 155).profile 0).exit) ∧
    ((atThree 835 {}).term 5).state.active = true ∧ ((atThree 835 {}).term 5).current = some 3 ∧
      (3 : ProfIdx) ≠ 0 ∧ (atThree 835 {}).windowFull 5 ∧
      (atThree 835 {}).resultQ 5 < ((atThree 835 {}).profile 3).exit ∧
      (atThree 4000 { window := { crcBad := 2 } }).windowFull 5 ∧
      (atThree 4000 { window := { crcBad := 2 } }).resultImpaired 5 = true := by
  unfold State.windowFull
  decide +kernel

theorem witness_WindowResultStepsUpOrHolds :
    let qualifies (s : State) : Prop := (s.term 5).state.active = true ∧ (s.term 5).current = some 3 ∧
      s.windowFull 5 ∧ s.resultImpaired 5 = false ∧ (s.profile 3).exit ≤ s.resultQ 5 ∧ NextAbove s 3 4 ∧
      (s.term 5).window.settling = false ∧ 4 ≤ (s.term 5).ceiling ∧ (s.profile 4).entry ≤ s.resultQ 5
    (qualifies (atThree 1156 { dwell := 2 }) ∧ ((atThree 1156 { dwell := 2 }).profile 4).dwell ≤ 2 + 1) ∧
      (qualifies (atThree 1156 { dwell := 1 }) ∧ 1 + 1 < ((atThree 1156 { dwell := 1 }).profile 4).dwell) ∧
      (atThree 836 {}).windowFull 5 ∧ (atThree 836 {}).resultImpaired 5 = false ∧
      ((atThree 836 {}).profile 3).exit ≤ (atThree 836 {}).resultQ 5 ∧
      ∀ n, NextAbove (atThree 836 {}) 3 n → ¬ ((atThree 836 {}).profile n).entry ≤ (atThree 836 {}).resultQ 5 := by
  unfold State.windowFull NextAbove
  decide +kernel

theorem witness_FadeEndsOrGoesOn :
    (((full .fading 236).term 5).state = .fading ∧ ((full .fading 236).term 5).current = some 0 ∧
      ((full .fading 236).term 5).beforeFade = some .ramping ∧ (full .fading 236).windowFull 5 ∧
      (full .fading 236).resultImpaired 5 = false ∧
      ((full .fading 236).profile 0).entry ≤ (full .fading 236).resultQ 5) ∧
    ((full .fading 235).windowFull 5 ∧
      (full .fading 235).resultQ 5 < ((full .fading 235).profile 0).entry) ∧
    (up.term 5).state.serviced = false ∧ ¬ almost.windowFull 5 := by
  unfold State.windowFull
  decide +kernel

/-- Slot 5 in a serviced state at a profile with some misses in a row. -/
def missing (st : TermState) (p : ProfIdx) (n : Nat) : State :=
  withTerm 5 { served st p with window := { samples := 3, sum := 90, misses := n } } up

theorem witness_MissIsCountedAndFades :
    let i := (readMiss (miss 0#8).body).slot
    (RecordSound (miss 0#8) ∧ (miss 0#8).kind = 3#8) ∧
      (∀ st ∈ [TermState.ramping, .inService, .fading], ∀ p ∈ ([0, 3] : List ProfIdx), ∀ n ∈ [1, 2, 38],
        ((missing st p n).term i).state.serviced = true ∧
          min (((missing st p n).term i).window.misses + 1) 255 < (missing st p n).setup.mo ∧
          ((missing st p n).term i).current = some p) ∧
      min (1 + 1) 255 < (missing .ramping 0 1).setup.mf ∧ (missing .ramping 0 2).setup.mf ≤ min (2 + 1) 255 :=
  ⟨⟨sound_miss _, rfl⟩, by decide +kernel, by decide +kernel, by decide +kernel⟩

theorem witness_OutageTakesTheTerminalDown :
    let i := (readMiss (miss 0#8).body).slot
    (RecordSound (miss 0#8) ∧ (miss 0#8).kind = 3#8) ∧ ((missing .inService 3 39).term i).state.serviced = true ∧
      (missing .inService 3 39).setup.mo ≤ min (((missing .inService 3 39).term i).window.misses + 1) 255 :=
  ⟨⟨sound_miss _, rfl⟩, by decide +kernel, by decide +kernel⟩

/-- Slot 5 RANGING in context 1, and nothing else bound. -/
theorem ranging_only (a : Attempt) (t : Terminal) :
    OnlyContext (ranging a t) 5 1 { a with terminal := 5 } := by
  have put (c : CtxNo) : (ranging a t).ctx c =
      ((Table.empty : Table 4 (none : Option Attempt)).put 1 (some { a with terminal := 5 })).get c := rfl
  refine ⟨by rw [put, Table.get_put, if_pos rfl], rfl, fun d b hd _ => ?_⟩
  by_contra h
  rw [put, Table.get_put, if_neg h] at hd
  cases hd

theorem witness_StrayReportsAreCounted :
    (RecordSound (burst 0#8 1#8 20) ∧ (burst 0#8 1#8 20).kind = 2#8 ∧ (up.term 5).state.serviced = false ∧
      (readBurst (burst 0#8 1#8 20).body).slot = 5 ∧ ∀ c, up.ctx c = none) ∧
    (RecordSound (miss 1#8) ∧ (miss 1#8).kind = 3#8 ∧ (readMiss (miss 1#8).body).frame = 100#16 ∧
      ((ranging { terminal := 5, stage := .proveWait, slotFrame := some 99#16 } {}).term 5).state = .ranging ∧
      (ranging { terminal := 5, stage := .proveWait, slotFrame := some 99#16 } {}).ctx 1 =
        some { terminal := 5, stage := .proveWait, slotFrame := some 99#16 }) ∧
    (RecordSound (report 0#8 30 0#16 0#8) ∧ (report 0#8 30 0#16 0#8).kind = 4#8) ∧
    RecordSound noRanging ∧ noRanging.kind = 5#8 ∧ slotAt noRanging.body 0 = 5 ∧
      (ranging { terminal := 5, stage := .proveWait } {}).ctx 1 = some { terminal := 5, stage := .proveWait } :=
  ⟨⟨sound_burst _ _ _ (.inl rfl), rfl, by decide +kernel, by decide +kernel, by decide +kernel⟩,
    ⟨sound_miss _, rfl, by decide +kernel, by decide +kernel, by decide +kernel⟩,
    ⟨sound_report _ _ _ _ (.inl rfl), rfl⟩, sound_noRanging, rfl, by decide +kernel, by decide +kernel⟩

/-- A context in INVITE_WAIT after some failures and adjust rounds. -/
def inviting (failures adjusts : Nat) : Attempt :=
  { terminal := 5, stage := .inviteWait, failures := failures, adjusts := adjusts, timer := some 0
    slotFrame := some 98#16 }

/-- A context in PROVE_WAIT for frame 100 after some failures. -/
def proving (failures : Nat) : Attempt :=
  { terminal := 5, stage := .proveWait, failures := failures, timer := some 0, slotFrame := some 100#16
    entryProfile := some 3, sample := some 130 }

/-- A frozen terminal of identity 7. -/
def frozen (x : Mac) : Terminal := { identity := some x, freeze := true, ceiling := 7 }

/-- A report at the edges of the windows: SNR 30, timing -8, power +6. -/
def atEdges : LinkRecord := report 0#8 30 (-8#16) 6#8

theorem witness_RangingReportIsAccepted :
    let s := ranging (inviting 2 4) (frozen 7#48)
    let b := readRanging atEdges.body
    (RecordSound atEdges ∧ atEdges.kind = 4#8) ∧ OnlyContext s b.slot 1 (inviting 2 4) ∧ b.crcGood = true ∧
      (s.term b.slot).freeze = true ∧ (s.term b.slot).identity = some b.identity ∧
      (s.profile 0).entry ≤ min b.snr 500 ∧ b.timing.natAbs ≤ s.setup.timingWindow ∧
      b.power.natAbs ≤ s.setup.powerWindow ∧
      ((ranging (inviting 2 4) { identity := some 8#48 }).term b.slot).freeze = false ∧
      ((ranging (inviting 2 4) { identity := some 8#48 }).term b.slot).identity ≠ some b.identity :=
  ⟨⟨sound_report _ _ _ _ (.inl rfl), rfl⟩, ranging_only _ _, by decide +kernel, by decide +kernel, by decide +kernel,
    by decide +kernel, by decide +kernel, by decide +kernel, by decide +kernel, by decide +kernel⟩

theorem witness_RangingReportIsAdjusted :
    let s := ranging (inviting 2 3) (frozen 7#48)
    let b := readRanging (report 0#8 30 0x800#16 6#8).body
    let d := readRanging (report 0#8 30 8#16 0x40#8).body
    (RecordSound (report 0#8 30 0x800#16 6#8) ∧ RecordSound (report 0#8 30 8#16 0x40#8)) ∧
      OnlyContext s b.slot 1 (inviting 2 3) ∧ (inviting 2 3).adjusts < 4 ∧
      (b.crcGood = true ∧ (s.term b.slot).identity = some b.identity ∧ (s.profile 0).entry ≤ min b.snr 500 ∧
        s.setup.timingWindow < b.timing.natAbs ∧ b.timing = -2048) ∧
      s.setup.powerWindow < d.power.natAbs ∧ d.power = -64 :=
  ⟨⟨sound_report _ _ _ _ (.inl rfl), sound_report _ _ _ _ (.inl rfl)⟩, ranging_only _ _, by decide, by decide +kernel,
    by decide +kernel⟩

theorem witness_FailureBelowThreeGoesOn :
    (OnlyContext (ranging (inviting 1 0) (frozen 7#48)) 5 1 (inviting 1 0) ∧ (inviting 1 0).parkPending = false ∧
      (inviting 1 0).failures < 2 ∧ (inviting 1 0).stage = .inviteWait ∧ (inviting 1 0).timer = some 0) ∧
    (OnlyContext (ranging (proving 1) {}) 5 1 (proving 1) ∧ (proving 1).failures < 2 ∧
      ((ranging (proving 1) {}).term 5).state = .ranging ∧ (proving 1).stage = .proveWait ∧
      (proving 1).timer = some 0) ∧
    (RecordSound (report 1#8 500 0#16 0#8) ∧ (readRanging (report 1#8 500 0#16 0#8).body).crcGood = false ∧
      (readRanging (report 1#8 500 0#16 0#8).body).slot = 5) ∧
    (RecordSound (report 0#8 29 0#16 0#8) ∧
      min (readRanging (report 0#8 29 0#16 0#8).body).snr 500 < (up.profile 0).entry ∧
      (readRanging (report 0#8 29 0#16 0#8).body).identity = 7#48) ∧
    (RecordSound noRanging ∧ slotAt noRanging.body 0 = 5) ∧
    (RecordSound (burst 0#8 1#8 104) ∧ (readBurst (burst 0#8 1#8 104).body).proving = true ∧
      (readBurst (burst 0#8 1#8 104).body).slot = 5 ∧
      (proving 1).slotFrame = some (readBurst (burst 0#8 1#8 104).body).frame ∧
      (readBurst (burst 0#8 1#8 104).body).snr < ((withExampleTable (ranging (proving 1) {})).profile 3).exit) ∧
    RecordSound (miss 1#8) ∧ (readMiss (miss 1#8).body).proving = true ∧
      (proving 1).slotFrame = some (readMiss (miss 1#8).body).frame :=
  ⟨⟨ranging_only _ _, rfl, by decide, rfl, rfl⟩, ⟨ranging_only _ _, by decide, by decide +kernel, rfl, rfl⟩,
    ⟨sound_report _ _ _ _ (.inr rfl), by decide +kernel, by decide +kernel⟩,
    ⟨sound_report _ _ _ _ (.inl rfl), by decide +kernel, by decide +kernel⟩, ⟨sound_noRanging, by decide +kernel⟩,
    ⟨sound_burst _ _ _ (.inl rfl), by decide +kernel, by decide +kernel, by decide +kernel, by decide +kernel⟩,
    sound_miss _, by decide +kernel, by decide +kernel⟩

theorem witness_FailureOutcomesEndTheAttempt :
    (OnlyContext (ranging (inviting 2 4) (frozen 8#48)) 5 1 (inviting 2 4) ∧ 2 ≤ (inviting 2 4).failures ∧
      4 ≤ (inviting 2 4).adjusts ∧ 0 < up.setup.backoff ∧ (inviting 2 4).parkPending = false) ∧
    (RecordSound (report 0#8 30 9#16 7#8) ∧ (readRanging (report 0#8 30 9#16 7#8).body).slot = 5 ∧
      (readRanging (report 0#8 30 9#16 7#8).body).crcGood = true ∧
      ((ranging (inviting 2 4) (frozen 8#48)).term 5).identity ≠
        some (readRanging (report 0#8 30 9#16 7#8).body).identity ∧
      ((ranging (inviting 2 4) (frozen 7#48)).term 5).identity =
        some (readRanging (report 0#8 30 9#16 7#8).body).identity ∧
      up.setup.timingWindow < (readRanging (report 0#8 30 9#16 7#8).body).timing.natAbs ∧
      (up.profile 0).entry ≤ min (readRanging (report 0#8 30 9#16 7#8).body).snr 500) ∧
    OnlyContext (ranging (proving 2) {}) 5 1 (proving 2) ∧ 2 ≤ (proving 2).failures ∧
      ((ranging (proving 2) {}).term 5).state = .ranging :=
  ⟨⟨ranging_only _ _, by decide, by decide, by decide, rfl⟩,
    ⟨sound_report _ _ _ _ (.inl rfl), by decide +kernel, by decide +kernel, by decide +kernel, by decide +kernel,
      by decide +kernel, by decide +kernel⟩, ranging_only _ _, by decide, by decide +kernel⟩

theorem witness_ProvingAdmitsTheTerminal :
    let s := ranging (proving 2) {}
    let r := burst 0#8 1#8 105
    (RecordSound r ∧ r.kind = 2#8 ∧ OnlyContext s (readBurst r.body).slot 1 (proving 2)) ∧
      (s.term (readBurst r.body).slot).state = .ranging ∧ (proving 2).stage = .proveWait ∧
      (proving 2).parkPending = false ∧ (readBurst r.body).proving = true ∧
      (proving 2).slotFrame = some (readBurst r.body).frame ∧ (readBurst r.body).crcGood = true ∧
      ((withExampleTable s).profile ((proving 2).entryProfile.getD 0)).exit ≤ (readBurst r.body).snr ∧
      (s.profile ((proving 2).entryProfile.getD 0)).exit ≤ (readBurst r.body).snr ∧
      ∀ f ∈ s.chain (readBurst r.body).slot, (s.flow f).state ≠ .admitted :=
  ⟨⟨sound_burst _ _ _ (.inl rfl), rfl, ranging_only _ _⟩, by decide +kernel⟩

theorem witness_ParkedStageIsResolved :
    (OnlyContext (ranging { inviting 0 0 with parkPending := true } {}) 5 1 { inviting 0 0 with parkPending := true } ∧
      (inviting 0 0).stage = .inviteWait ∧ (inviting 0 0).timer = some 0) ∧
    (OnlyContext (ranging { proving 0 with parkPending := true } {}) 5 1 { proving 0 with parkPending := true } ∧
      ((ranging { proving 0 with parkPending := true } {}).term 5).state = .ranging) ∧
    RecordSound atEdges ∧ (readRanging atEdges.body).slot = 5 ∧ RecordSound noRanging ∧
      slotAt noRanging.body 0 = 5 ∧ RecordSound (burst 1#8 1#8 0) ∧ RecordSound (miss 1#8) :=
  ⟨⟨ranging_only _ _, rfl, rfl⟩, ⟨ranging_only _ _, by decide +kernel⟩, sound_report _ _ _ _ (.inl rfl),
    by decide +kernel, sound_noRanging, by decide +kernel, sound_burst _ _ _ (.inr rfl), sound_miss _⟩

theorem witness_SectorReturnsOrRepeats :
    RecordSound (sector 1#8) ∧ (sector 1#8).kind = 6#8 ∧ byteAt (sector 1#8).body 0 = 1#8 ∧
      State.reset.link.sectorUp = false ∧ up.link.sectorUp = true :=
  ⟨sound_sector _ (.inr rfl), rfl, rfl, rfl, rfl⟩

theorem witness_SectorLossIsOneEvent :
    let s := withTerm 4 { state := .queued } (withTerm 9 (served .ramping 0) (ranging (inviting 0 0) {}))
    (RecordSound (sector 0#8) ∧ byteAt (sector 0#8).body 0 = 0#8 ∧ State.reset.link.sectorUp = false) ∧
      s.link.sectorUp = true ∧
      (ChainsSound priced ∧ LedgerSound priced ∧ priced.link.sectorUp = true ∧ (priced.flow 11).state = .admitted ∧
        11 ∈ priced.chain 3 ∧ (priced.term 3).state.serviced = true) ∧
      (s.term 9).state.serviced = true ∧ (s.term 4).state = .queued ∧ (s.term 5).state = .ranging ∧
      OnlyContext s 5 1 (inviting 0 0) ∧ (s.term 0).state = .absent :=
  ⟨⟨sound_sector _ (.inl rfl), rfl, rfl⟩, rfl,
    ⟨priced_chains, priced_ledger, rfl, by decide +kernel, by decide +kernel, by decide +kernel⟩,
    by decide +kernel, by decide +kernel, by decide +kernel, only_context _ _ _ _ (by decide +kernel) rfl (by decide +kernel), by decide +kernel⟩

theorem witness_TrunkPacketIsChecked :
    (64 ≤ twoCommands.length ∧ twoCommands.length ≤ 9216 ∧ fcsChecks twoCommands = true ∧
      word16At twoCommands 12 = 0x7A6C#16 ∧ word16At twoCommands 12 ≠ 0x8100#16 ∧
      macAt twoCommands 0 = 0xFFFFFFFFFFFF#48 ∧ up.mgmt.requests.length < 4) ∧
    (¬ 64 ≤ (List.replicate 63 0#8).length ∧ fcsChecks (List.replicate 64 0#8) = false) ∧
    4 ≤ brimming.mgmt.requests.length := by decide +kernel

theorem witness_DownstreamPacketIsClassified :
    (64 ≤ (tagged 100#16).length ∧ (tagged 100#16).length ≤ 9216 ∧ fcsChecks (tagged 100#16) = true ∧
      mapped.isManagement (tagged 100#16) = false ∧ word16At (tagged 100#16) 12 = 0x8100#16 ∧
      (word16At (tagged 100#16) 14).toNat % 4096 = 100 ∧ mapped.tags.get 100 = some 11 ∧
      (mapped.flow 11).dir = .down ∧ (mapped.flow 11).state = .admitted ∧ up.tags.get 100 = none) ∧
    ((withFlow 11 { dir := .up } mapped).flow 11).dir = .up ∧
      ((withFlow 11 {} mapped).flow 11).state = .disabled ∧
      ((withFlow 11 { policy := .shed, state := .waiting .new } mapped).flow 11).state.isWaiting = true ∧
      ((withFlow 11 { state := .waiting .new } mapped).flow 11).policy = .hold ∧
      fcsChecks (tagged 0#16) = true ∧ fcsChecks (tagged 4095#16) = true := by decide +kernel

/-- The cells that the queue of `mapped`'s flow 11 holds, written as the statement writes them. -/
theorem witness_EnqueueTestsLimitThenCells :
    let held := ((mapped.flow 11).queue.map fun e => (e.bytes.length + 255) / 256).sum
    held = 43 ∧ held + (5376 + 255) / 256 = (mapped.flow 11).limit ∧
      (mapped.flow 11).limit < held + (5377 + 255) / 256 ∧ (5376 + 255) / 256 ≤ mapped.buffer.freeCells ∧
      ({ mapped with buffer := { freeCells := 20 } } : State).buffer.freeCells < (5376 + 255) / 256 := by
  decide +kernel

theorem witness_QmonAndTmgrFrameEvents :
    let s : State := withTerm 5 { state := .down, timer := some 1 } (withTerm 6 { state := .down, timer := some 2 }
      { up with link := { up.link with announced := { qmon := [7#16], tmgr := [7#16] } } })
    (s.link.announced.qmon = 7#16 :: [] ∧ s.link.announced.tmgr = 7#16 :: []) ∧
      ((s.term 5).state = .down ∧ (s.term 5).timer = some 1 ∧ (s.term 6).timer = some 2) ∧
      ((withTerm 5 { state := .down, timer := some 0 } up).term 5).state = .down ∧
      ((withTerm 5 { state := .down, timer := some 0 } up).term 5).timer = some 0 ∧ up.link.sectorUp = true ∧
      (up.term 5).state ≠ .down ∧ up.link.announced.qmon = [] ∧ up.link.announced.tmgr = [] := by decide +kernel

/-- Terminals 4 and 6 QUEUED, a credit of 448 (512 with the pacer's 64), and frame event 100 to take with four contexts
bound: one as given, one PARKED pending, one in its second stage failure and one in its third. -/
def pacing (a : Attempt) : State :=
  withTerm 4 { state := .queued } <| withTerm 6 { state := .queued } <|
    withTerm 10 { state := .ranging } <| withTerm 11 { state := .ranging } <| withTerm 12 { state := .ranging } <|
      withTerm 13 { state := .ranging } <|
        withCtx 0 { a with terminal := 10 } <|
          withCtx 1 { inviting 2 0 with terminal := 11, timer := some 1, parkPending := true } <|
            withCtx 2 { proving 1 with terminal := 12, timer := some 1 } <|
              withCtx 3 { inviting 2 0 with terminal := 13, timer := some 1 }
                { up with
                  reentry := { queue := [4, 6], credit := 448 }
                  link := { up.link with announced := { reec := [100#16] } } }

/-- An attempt with two frame events left, and one whose invitation's frame is two above the event's. -/
def early : Attempt := { inviting 0 0 with terminal := 10, timer := some 2 }
def ahead : Attempt := { early with slotFrame := some 102#16 }

theorem witness_ReentryFrameEventPaces :
    let s := pacing early
    let x : Grant := ⟨0, 10, .ranging, 102#16⟩
    let taken (s : State) : State :=
      { s with link := { s.link with announced := { s.link.announced with reec := [] } } }.takeGrants
    let g := taken s
    ((s.reentry.grants = [] ∧ ({ s with reentry := { s.reentry with grants := [x] } } : State).reentry.grants = x :: []) ∧
      s.link.announced.reec = 100#16 :: [] ∧ 0 < s.setup.backoff ∧ s.link.sectorUp = true ∧
      ({ s with link := { s.link with sectorUp := false } } : State).link.sectorUp = false) ∧
    (∃ a, g.ctx 0 = some a ∧ Lowers 100#16 a 2 ∧ 1 < 2) ∧
    (∃ a, g.ctx 1 = some a ∧ Lowers 100#16 a 1 ∧ a.parkPending = true) ∧
    (∃ a, g.ctx 2 = some a ∧ Lowers 100#16 a 1 ∧ a.parkPending = false ∧ a.failures < 2) ∧
    (∃ a, g.ctx 3 = some a ∧ Lowers 100#16 a 1 ∧ a.parkPending = false ∧ 2 ≤ a.failures) ∧
    ((taken (pacing ahead)).ctx 0 = some ahead ∧ (∀ k, ¬ Lowers 100#16 ahead k) ∧
      ∀ a : Slot, a = 10 ∨ a = 11 ∨ a = 12 ∨ a = 13 ∨ ∀ c, (g.ctx c).all (fun b => decide (b.terminal ≠ a)) = true) ∧
    (min ((s.reentry.credit + s.setup.pacer) / 256) 2 = 2 ∧ s.reentry.queue[1]? = some 6) ∧
    ReentrySound s ∧ ReentrySound (pacing ahead) ∧ up.link.announced.reec = [] :=
  ⟨by decide +kernel, ⟨early, by decide +kernel⟩, ⟨_, rfl, by decide +kernel⟩, ⟨_, rfl, by decide +kernel⟩,
    ⟨_, rfl, by decide +kernel⟩, ⟨by decide +kernel, fun _ h => absurd rfl h.2.1, by decide +kernel⟩,
    by decide +kernel,
    reentry_sound _ (by decide +kernel) (by decide +kernel) (by decide +kernel) (by decide +kernel),
    reentry_sound _ (by decide +kernel) (by decide +kernel) (by decide +kernel) (by decide +kernel), rfl⟩

theorem witness_GrantIsTakenOrDropped :
    let g : Grant := ⟨1, 5, .ranging, 102#16⟩
    let s : State := ranging { terminal := 5 } {}
    let t : State := { s with reentry := { s.reentry with grants := [g] } }
    (t.reentry.grants = g :: [] ∧ t.ctx g.ctx = some { terminal := 5 } ∧
      ({ terminal := 5 } : Attempt).stage = .invitePending) ∧
    up.reentry.grants = [] ∧ up.ctx g.ctx = none ∧
      (ranging { terminal := 5, stage := .provePending } {}).ctx 1 = some { terminal := 5, stage := .provePending } := by
  decide +kernel

/-- The held backlog of spec/07 with its flow 11 WAITING, its terminal RAMPING and the needs and loads sound. -/
def backlogged : State :=
  withTerm 3 { (mapped.term 3) with state := .ramping } <|
    withFlow 11 { (mapped.flow 11) with state := .waiting .shed, marker := none } <|
      { mapped with
        ledger := { list := [11], loadUp := 12, loadDown := 0 }
        link := { mapped.link with announced := { cled := [7#16] } } }

theorem backlogged_chains : ChainsSound backlogged :=
  chains_sound backlogged 3 (by decide +kernel) (by decide +kernel) (by decide +kernel)
    (by unfold ChainOrder; decide +kernel) (by decide +kernel)

theorem backlogged_ledger : LedgerSound backlogged := by
  have idle : ∀ f, (backlogged.flow f).state ≠ .admitted := by decide +kernel
  have up : ∀ i, (backlogged.term i).need .up = backlogged.needWith i .up [] := by decide +kernel
  have down : ∀ i, (backlogged.term i).need .down = backlogged.needWith i .down [] := by decide +kernel
  refine ⟨fun f h => absurd h (idle f), fun i x => ?_, by decide +kernel⟩
  cases x
  · exact down i
  · exact up i

/-- The scan admits flow 11, whose need of 1632 symbols fits K_down, and its marker counts the six packets it holds. -/
theorem witness_ReadmissionIsHeadOfLine_admits :
    answers (exec .readmissionScan backlogged) (fun t => (t.flow 11).state == .admitted && t.ledger.list == [] &&
        t.ledger.loadDown == 1632 && (t.flow 11).marker == some ⟨6, 0, 0⟩ && (t.term 3).state == .inService) = true ∧
      ChainsSound backlogged ∧ LedgerSound backlogged :=
  ⟨by decide +kernel, backlogged_chains, backlogged_ledger⟩

theorem witness_ReadmissionIsHeadOfLine :
    waiting67.link.announced.cled = 1#16 :: [] ∧ waiting67.ledger.list = [41] ∧
      (waiting67.flow 41).bound = some 12 ∧ (waiting67.term 12).state.active = true ∧
      waiting67.setup.ceiling .up + 1242 < waiting67.load .up + waiting67.needWith 12 .up [41] ∧
      up.link.announced.cled = [] := by decide +kernel

theorem witness_ReleaseConservesPackets :
    (worked76.link.announced.pbr = 20363#16 :: [] ∧ up.link.announced.pbr = [] ∧ (up.flow 0).state ≠ .admitted) ∧
      ((worked76.flow 11).dir = .down ∧ (worked76.flow 11).state = .admitted ∧ (worked76.flow 11).bound = some 3 ∧
        (worked76.term 3).state.active = true) ∧
      (worked76.flow 11).queue[0]? = some ⟨List.replicate 1500 0#8, some 20002#16⟩ ∧
      (worked76.flow 11).holdAge < (20363#16 - 20002#16).toNat ∧
      (worked76.flow 11).queue[1]? = some ⟨List.replicate 1500 0#8, some 20004#16⟩ ∧
      (20363#16 - 20004#16).toNat ≤ (worked76.flow 11).holdAge := by decide +kernel

theorem witness_StaleHeadIsDiscarded :
    let s : State := { worked76 with buffer := { worked76.buffer with stamp := some 20363#16 } }
    (s.buffer.stamp = some 20363#16 ∧ (s.flow 11).dir = .down ∧
      (s.flow 11).queue.head? = some ⟨List.replicate 1500 0#8, some 20002#16⟩ ∧
      (s.flow 11).holdAge < (20363#16 - 20002#16).toNat ∧ (s.flow 11).marker = some ⟨6, 0, 0⟩) ∧
    worked76.buffer.stamp = some 20362#16 ∧ (20362#16 - 20002#16).toNat ≤ (worked76.flow 11).holdAge ∧
      up.buffer.stamp = none ∧ (up.flow 0).queue = [] := by decide +kernel

theorem witness_GrantListIsEndToEnd :
    let s : State := { ranging { terminal := 5 } {} with
      link := { up.link with announced := { gbld := [65535#16] } } }
    (s.link.announced.gbld = 65535#16 :: [] ∧ s.link.sectorUp = true ∧ s.ctx 1 = some { terminal := 5 }) ∧
      (priced.link.announced.gbld = 7#16 :: [] ∧ SetupSound priced ∧ LedgerSound priced) ∧
      State.reset.link.sectorUp = false ∧ up.link.announced.gbld = [] :=
  ⟨by decide +kernel, ⟨rfl, priced_setup, priced_ledger⟩, rfl, rfl⟩

/-- A management packet for the part with a header of version, kind, tag and command count. -/
def headed (src : Mac) (version kind count : Byte) : Packet :=
  managementPacket broadcastAddress src [version, kind, 0#8, 7#8, count, 0#8]

/-- A request of one SET_FLOW whose body length points one byte past the packet's last. -/
def overlong : Packet :=
  managementPacket broadcastAddress station [1#8, 1#8, 0#8, 7#8, 1#8, 0#8, 0x20#8, 0#8, 0#8, 37#8]

theorem witness_RequestIsTakenByItsForm :
    let asked (p : Packet) : State := { up with mgmt := { requests := [p] } }
    let plain := taggedRequestPacket broadcastAddress station 5#16 7#16 [⟨0x31#8, []⟩]
    ((asked twoCommands).mgmt.requests = twoCommands :: [] ∧ (asked twoCommands).mgmt.active = none ∧
      (asked twoCommands).mgmt.held = none ∧ isGroup station = false ∧
      (asked plain).mgmt.requests = plain :: [] ∧ plain.length = 64) ∧
    ((macAt (headed 0x010000000001#48 1#8 1#8 1#8) 6).getLsbD 40 = true ∧
      byteAt (payloadOf (headed station 1#8 2#8 1#8)) 0 = 1#8 ∧
      byteAt (payloadOf (headed station 1#8 2#8 1#8)) 1 ≠ 1#8) ∧
    ((macAt (headed station 1#8 1#8 17#8) 6).getLsbD 40 = false ∧
      byteAt (payloadOf (headed station 2#8 1#8 1#8)) 0 ≠ 1#8 ∧
      byteAt (payloadOf (headed station 1#8 1#8 17#8)) 1 = 1#8 ∧
      16 < (byteAt (payloadOf (headed station 1#8 1#8 17#8)) 4).toNat ∧
      byteAt (payloadOf (headed station 1#8 1#8 0#8)) 4 = 0#8) ∧
    (((payloadOf overlong).drop 6).length = 40 ∧ nat16At ((payloadOf overlong).drop 6) 2 = 37 ∧
      byteAt (payloadOf overlong) 0 = 1#8 ∧ byteAt (payloadOf overlong) 1 = 1#8 ∧ byteAt (payloadOf overlong) 4 = 1#8 ∧
      ¬ RecordsFit 1 ((payloadOf overlong).drop 6)) ∧
    RecordsFit 2 ((payloadOf twoCommands).drop 6) ∧
    up.tx.queue.length < 64 ∧ 64 ≤ brimming.tx.queue.length ∧ up.mgmt.requests = [] := by
  unfold RecordsFit RecordsFit RecordsFit
  decide +kernel

theorem witness_TrunkTransmitterServes :
    let s : State := { up with mgmt := { notices := [⟨0#16, none, .restart⟩], controller := some station } }
    (64 ≤ (tagged 0#16).length ∧ (tagged 0#16).length ≤ 9216 ∧ up.tx.queue.length < 64 ∧
      (List.replicate 63 0#8).length < 64 ∧ 64 ≤ brimming.tx.queue.length) ∧
    (brimming.tx.sending = some [] ∧ brimming.mgmt.held = none ∧ brimming.tx.queue.length ≤ 64 ∧
      ({ brimming with mgmt := { held := some [1#8] } } : State).mgmt.held = some [1#8]) ∧
    (s.mgmt.notices = ⟨0#16, none, .restart⟩ :: [] ∧ s.mgmt.controller = some station ∧ s.tx.sending = none ∧
        s.tx.queue = []) ∧
    (NoticeBody.restart.laid.2.2.2.length ≤ 34 ∧
      (NoticeBody.shed 11 (some 3) .up 2 (some 1) 76).laid.2.2.2.length ≤ 34) ∧
    up.mgmt.notices = [] ∧ brimming.tx.line ≠ [] := by decide +kernel

/-- The brimming state with the SECTOR class enabled. -/
def enabled : State := { brimming with setup := { brimming.setup with enable := { sector := true } } }

theorem witness_NoticeIsTaken :
    (enabled.setup.enable.has (NoticeBody.cls .restart) = true ∧ enabled.mgmt.controller ≠ none ∧
      32 ≤ enabled.mgmt.notices.length) ∧
    ({ enabled with mgmt := { enabled.mgmt with notices := enabled.mgmt.notices.tail } } : State).mgmt.notices.length
      < 32 ∧ brimming.setup.enable.has (NoticeBody.cls .restart) = false ∧ up.mgmt.controller = none := by
  decide +kernel

theorem witness_UnknownAndLengthAreAnswered :
    let c : Instr := .setFlow station (List.replicate 17 0#8)
    c.wellFormed = true ∧ commandRecord c = some (station, 0x20#8, List.replicate 17 0#8) ∧
      fixedLength 0x20#8 = some 16 ∧ (List.replicate 17 0#8).length ≠ 16 := by decide +kernel

theorem witness_ResultsGatherIntoTheResponse :
    let a : ActiveRequest := ⟨station, 7#16, [⟨0x43#8, []⟩], [⟨0xFF#8, .unknown, []⟩]⟩
    let s : State := { up with mgmt := { active := some a } }
    (s.mgmt.active = some a ∧ a.source = station ∧ a.todo = ⟨0x43#8, []⟩ :: [] ∧ s.tx.queue.length < 64) ∧
      ({ a with todo := [⟨0x43#8, []⟩, ⟨0x31#8, []⟩] } : ActiveRequest).todo = ⟨0x43#8, []⟩ :: [⟨0x31#8, []⟩] ∧
      64 ≤ brimming.tx.queue.length ∧ a.source ≠ broadcastAddress ∧ a.todo.head? ≠ some ⟨0x47#8, []⟩ := by
  decide +kernel

theorem witness_ProvisionParksTheSlot :
    (∀ f ∈ ([0#8, 1#8, 2#8, 3#8] : List Byte), ∀ k ∈ ([3#8, 4#8] : List Byte), ∀ p ∈ ([0#8, 1#8, 2#8] : List Byte),
      ∀ c ∈ ([11#8, 12#8] : List Byte), (terminalBody 5#8 f k p c).length = 12 ∧
        slotAt (terminalBody 5#8 f k p c) 0 = 5 ∧ bitAt (terminalBody 5#8 f k p c) 1 0 = f.getLsbD 0 ∧
        bitAt (terminalBody 5#8 f k p c) 1 1 = f.getLsbD 1 ∧ byteAt (terminalBody 5#8 f k p c) 9 = p ∧
        nat8At (terminalBody 5#8 f k p c) 8 = k.toNat ∧ nat8At (terminalBody 5#8 f k p c) 10 = c.toNat) ∧
    (up.term 5).state = .absent ∧ ((withTerm 5 { state := .parked } up).term 5).state ≠ .absent := by decide +kernel

theorem witness_SetTerminalRewrites :
    (terminalBody 5#8 3#8 1#8 0#8 2#8).length = 12 ∧ slotAt (terminalBody 5#8 3#8 1#8 0#8 2#8) 0 = 5 ∧
      ((withTerm 5 { state := .queued } { up with reentry := { queue := [5] } }).term 5).state = .queued ∧
      ((atThree 0 {}).term 5).state.serviced = true ∧ ((atThree 0 {}).term 5).current = some 3 ∧
      (2 : ProfIdx) < 3 ∧ (ranging (proving 0) {}).ctx 1 = some (proving 0) ∧ (proving 0).entryProfile = some 3 ∧
      (up.term 5).state = .absent ∧ byteAt (terminalBody 5#8 3#8 1#8 1#8 2#8) 9 = 1#8 ∧
      byteAt (terminalBody 5#8 3#8 1#8 2#8 2#8) 9 = 2#8 ∧ bitAt (terminalBody 5#8 2#8 1#8 0#8 2#8) 1 1 = true ∧
      bitAt (terminalBody 5#8 2#8 1#8 0#8 2#8) 1 0 = false ∧ bitAt (terminalBody 5#8 3#8 1#8 0#8 2#8) 1 0 = true ∧
      (3 : ProfIdx) ≤ 3 := by decide +kernel

theorem witness_SetTerminalRewrites_context : OnlyContext (ranging (proving 0) {}) 5 1 (proving 0) := ranging_only _ _

theorem witness_ParkTakesTheTerminalOut :
    ([5#8, 0#8] : List Byte).length = 2 ∧ slotAt [5#8, 0#8] 0 = 5 ∧ (up.term 5).state = .absent ∧
      (∀ st ∈ [TermState.parked, .down, .queued, .ramping, .inService, .fading],
        ((withTerm 5 { state := st } up).term 5).state = st) ∧
      OnlyContext (ranging { terminal := 5 } {}) 5 1 { terminal := 5 } ∧
      OnlyContext (ranging (inviting 0 0) {}) 5 1 (inviting 0 0) ∧
      ((ranging (inviting 0 0) {}).term 5).state = .ranging :=
  ⟨by decide, by decide, by decide +kernel, by decide +kernel, ranging_only _ _, ranging_only _ _, by decide +kernel⟩

theorem witness_ReleaseAndDeprovision :
    slotAt [5#8, 0#8] 0 = 5 ∧ (up.term 5).state = .absent ∧
      ((withTerm 5 { state := .parked } up).term 5).state = .parked ∧ up.link.sectorUp = true ∧
      State.reset.link.sectorUp = false ∧ ((withTerm 5 { state := .parked } up).term 5).chainHead = none ∧
      ((withTerm 5 { state := .parked, chainHead := some 3 } up).term 5).chainHead ≠ none ∧
      ((withTerm 5 { state := .down } up).term 5).state ≠ .parked := by decide +kernel

theorem witness_ForceProfileSetsTheProfile :
    ([5#8, 3#8] : List Byte).length = 2 ∧ slotAt [5#8, 3#8] 0 = 5 ∧ nat8At [5#8, 3#8] 1 = 3 ∧
      11 < nat8At [5#8, 12#8] 1 ∧ ((atThree 0 {}).term 5).state.serviced = true ∧
      ((atThree 0 {}).profile 3).valid = true ∧ 3 ≤ ((atThree 0 {}).term 5).ceiling ∧
      ((atThree 0 {}).term 5).current = some 3 ∧ ((atThree 0 {}).profile 8).valid = false ∧
      ((withTerm 5 (served .ramping 0) (atThree 0 {})).term 5).ceiling < 4 ∧
      ((full .fading 0).term 5).state = .fading ∧ (up.term 5).state.serviced = false ∧
      ((withTerm 5 { state := .queued } up).term 5).state ≠ .absent ∧
      ((atThree 0 {}).term 5).current ≠ some 0 ∧ ((atThree 0 {}).profile 0).valid = true := by decide +kernel

/-- A step that answers with a property has a next state with it. -/
theorem next_with (o : Host.Outcome State Fault Refusal) (p : State → Bool) (h : answers o p = true) :
    ∃ t, o = .next t ∧ p t = true := by
  cases o with
  | next t => exact ⟨t, rfl, h⟩
  | fault r => cases r
  | refused r => cases h

/-- Terminal 3 forced to profile 0, where flow 11's need of 9648 symbols does not fit D = 8000 and is shed. -/
theorem witness_SheddingEndsWhereTheLoadFits_general :
    (∃ t, exec (.forceProfile station [3#8, 0#8]) priced = .next t ∧
      ((t.term 3).state.serviced && (t.term 3).current != (priced.term 3).current &&
        (t.flow 11).state != .admitted) = true) ∧
      ChainsSound priced ∧ NeedsSound priced ∧ LoadsSound priced ∧
      ∀ j x, priced.needWith j x [] ≤ (priced.term j).need x :=
  ⟨next_with _ _ (by decide +kernel), priced_chains, priced_ledger.2.1, ⟨priced_ledger.2.2.1, priced_ledger.2.2.2.1⟩, fun j x => Nat.le_of_eq (priced_ledger.2.1 j x).symm⟩

theorem witness_SheddingEndsWhereTheLoadFits :
    ([12#8, 5#8] : List Byte).length = 2 ∧ (5 : ProfIdx).val = nat8At [12#8, 5#8] 1 ∧ slotAt [12#8, 5#8] 0 = 12 ∧
      (worked67.term 12).state.serviced = true ∧ (worked67.profile 5).valid = true ∧
      5 ≤ (worked67.term 12).ceiling ∧ (worked67.term 12).state ≠ .fading ∧ (worked67.term 12).current ≠ some 5 ∧
      ∀ j x, worked67.needWith j x [] ≤ (worked67.term j).need x := by
  refine ⟨rfl, rfl, rfl, by decide +kernel, by decide +kernel, by decide +kernel, by decide +kernel,
    by decide +kernel, fun j x => ?_⟩
  cases x <;> revert j <;> decide +kernel

/-- A WRITE_PROFILE body. -/
def profileBody (index density dwell : Byte) (overhead entry exit : Nat) : List Byte :=
  [index, 0#8, density, dwell] ++ num16 overhead ++ num16 entry ++ num16 exit

theorem witness_ProfileTableIsEdited :
    (∀ b ∈ [profileBody 3#8 4#8 1#8 8 500 499, profileBody 3#8 3#8 16#8 7 501 499, profileBody 3#8 80#8 15#8 1023 501 500],
      b.length = 10 ∧ nat8At b 0 = 3) ∧
    min 500 (nat16At (profileBody 3#8 4#8 1#8 8 500 499) 8) < min 500 (nat16At (profileBody 3#8 4#8 1#8 8 500 499) 6) ∧
    min 500 (nat16At (profileBody 3#8 80#8 15#8 1023 501 500) 6) ≤
      min 500 (nat16At (profileBody 3#8 80#8 15#8 1023 501 500) 8) ∧
    11 < nat8At (profileBody 12#8 4#8 1#8 8 500 499) 0 ∧ 11 < nat8At [12#8, 0#8] 0 ∧ ([3#8, 0#8] : List Byte).length = 2 ∧
    (∀ i, (up.term i).current ≠ some 3) ∧ (∀ c, up.ctx c = none) ∧ ((atThree 0 {}).term 5).current = some 3 ∧
    (ranging (proving 0) {}).ctx 1 = some (proving 0) ∧ (proving 0).entryProfile = some 3 ∧
    (3 : ProfIdx) ≠ 0 ∧ 3 ≠ up.setup.defaultProfile := by decide +kernel

/-- A SET_FLOW body for terminal 3: a flow index, the presence flag, direction, class and policy codes, and CB, PB,
limit and hold age. -/
def flowBody (index : Nat) (given dir cls policy : Byte) (cb pb limit age : Nat) : List Byte :=
  num16 index ++ [given, 3#8, dir, cls, policy, 0#8] ++ num16 cb ++ num16 pb ++ num16 limit ++ num16 age

/-- Terminal 3 PARKED with flows 100 to 115, sixteen of them, in its chain. -/
def crowded : State :=
  (([100, 101, 102, 103, 104, 105, 106, 107, 108, 109, 110, 111, 112, 113, 114, 115] : List FlowIdx)).foldl
    (fun s f => (s.modFlow f fun x => { x with bound := some 3 }).linkFlow 3 f) (withTerm 3 { state := .parked } up)

theorem witness_SetFlowWritesTheFlow :
    (∀ b ∈ [flowBody 11 1#8 0#8 2#8 0#8 1201 3000 42 360,
        flowBody 11 0#8 0#8 2#8 0#8 1200 3000 42 360, flowBody 11 0#8 0#8 2#8 1#8 16384 0 4097 0,
        flowBody 11 0#8 1#8 8#8 1#8 1 1 1 1],
      b.length = 16 ∧ nat16At b 0 = 11 ∧ (byteAt b 4 = 0#8 ∨ byteAt b 4 = 1#8) ∧ (byteAt b 6 = 0#8 ∨ byteAt b 6 = 1#8)) ∧
    (1023 < nat16At (flowBody 1024 0#8 0#8 0#8 0#8 1 1 1 1) 0 ∧ byteAt (flowBody 11 0#8 2#8 0#8 0#8 1 1 1 1) 4 = 2#8) ∧
    ((worked76.flow 11).state = .admitted ∧ (worked76.flow 11).bound = some 3 ∧ (worked76.flow 11).dir = .down ∧
      (worked76.flow 11).cls = 2 ∧ (worked76.flow 11).cb ≠ 1201 ∧ 42 < (worked76.flow 11).limit ∧
      (worked76.flow 11).limit ≤ 64 ∧ 42 < (worked76.flow 11).cellsHeld) ∧
    ((crowded.term 3).state ≠ .absent ∧ (crowded.chain 3).length = 16 ∧ (crowded.flow 11).bound = none ∧
      (crowded.flow 11).state = .disabled) ∧
    ((worked76.flow 12).bound = none ∧ (worked76.flow 12).state = .disabled ∧ worked76.chain 3 = [11]) ∧
    (up.term 3).state = .absent := by decide +kernel

theorem witness_SetFlowWritesTheFlow_chains : ChainsSound priced ∧ (priced.flow 12).bound ≠ some 3 :=
  ⟨priced_chains, by decide +kernel⟩

/-- R90 and R141: a limit of 6 cells on the held backlog leaves its first packet, and the marker counts the five
discarded; a limit of 1 leaves none, and the marker is drained. -/
theorem test_setFlow_trims_to_the_limit :
    answers (exec (.setFlow station (flowBody 11 0#8 0#8 2#8 0#8 1200 3000 6 360)) worked76) (fun t =>
        (t.flow 11).queue.length == 1 && (t.flow 11).counters.full == 5 && (t.flow 11).marker == some ⟨1, 0, 5⟩ &&
          t.buffer.freeCells == 32768 - 6) = true ∧
      answers (exec (.setFlow station (flowBody 11 0#8 0#8 2#8 0#8 1200 3000 1 360)) worked76) (fun t =>
        (t.flow 11).queue == [] && (t.flow 11).marker == none && (t.flow 11).state == .admitted &&
          t.mgmt.flags.backlog) = true := by decide +kernel

theorem witness_FlowIsUnboundEnabledDisabled :
    ([0#8, 11#8] : List Byte).length = 2 ∧ (11 : FlowIdx).val = nat16At [0#8, 11#8] 0 ∧
      1023 < nat16At [4#8, 0#8] 0 ∧ (worked76.flow 11).state = .admitted ∧ (worked76.flow 11).bound = some 3 ∧
      (up.flow 11).state = .disabled ∧ (up.flow 11).bound = none ∧ (crowded.flow 100).state = .disabled ∧
      (crowded.flow 100).bound = some 3 ∧ (crowded.chain 3).Nodup ∧ (waiting67.flow 41).state.isWaiting = true ∧
      (withFlow 11 { bound := some 3 } worked76).chain 3 = [11] ∧
      ((withFlow 11 { bound := some 3 } worked76).term 3).state = .inService ∧
      ((full .fading 0).term 5).state = .fading := by decide +kernel

theorem witness_MapTagsWritesTheBlock :
    (∀ b ∈ ([[0x0F#8, 0xFF#8, 8#8, 1#8, 0#8, 11#8], [0x0F#8, 0xFF#8, 9#8, 0#8, 0xFF#8, 0xFF#8]] : List (List Byte)),
      b.length = 6 ∧ nat16At b 0 = 4095) ∧
    (bitAt [0x0F#8, 0xFF#8, 8#8, 1#8, 0#8, 11#8] 3 0 = true ∧ nat16At [0x0F#8, 0xFF#8, 8#8, 1#8, 0#8, 11#8] 4 = 11 ∧
      (worked76.flow 11).bound ≠ none ∧ (up.flow 11).bound = none) ∧
    bitAt [0x0F#8, 0xFF#8, 9#8, 0#8, 0xFF#8, 0xFF#8] 3 0 = false ∧
    1023 < nat16At [0x0F#8, 0xFF#8, 8#8, 1#8, 4#8, 0#8] 4 ∧ 4095 < nat16At [0x10#8, 0#8, 0#8, 0#8, 0#8, 0#8] 0 := by
  decide +kernel

/-- A SET_SECTOR body of a default profile, by its mask bit alone. -/
def defaultBody (p : Byte) : List Byte := setupBody 0x10000#32 (List.replicate 22 0#8 ++ [p])

theorem witness_SetSectorWritesTheSetup :
    ((setupBody 0#32 []).length = 34 ∧ (defaultBody 3#8).length = 34 ∧
      (word32At (defaultBody 3#8) 0).getLsbD 16 = true ∧ (word32At (setupBody 0#32 []) 0).getLsbD 16 = false ∧
      nat8At (defaultBody 3#8) 26 = 3) ∧
    (11 < nat8At (defaultBody 12#8) 26 ∧ (up.profile 3).valid = false ∧ ((atThree 0 {}).profile 3).valid = true) ∧
    ((word32At (setupBody 1#32 (num16 3711)) 0).getLsbD 0 = true ∧
      setupField true 1024 65535 (nat16At (setupBody 1#32 (num16 3711)) 4) up.setup.u < 256 * up.setup.m + 4 * up.setup.rs ∧
      256 * up.setup.m + 4 * up.setup.rs ≤ setupField true 1024 65535 3712 up.setup.u) ∧
    (word32At (setupBody 0x80#32 (List.replicate 10 0#8 ++ [15#8])) 0).getLsbD 7 = true ∧
      nat8At (setupBody 0x80#32 (List.replicate 10 0#8 ++ [15#8])) 14 = 15 ∧ ¬ up.setup.mo ≤ 15 ∧
    (word32At (setupBody 0x100#32 (List.replicate 11 0#8 ++ [3#8])) 0).getLsbD 8 = true ∧
      nat8At (setupBody 0x100#32 (List.replicate 11 0#8 ++ [3#8])) 15 ≤ up.setup.mf := by decide +kernel

/-- A SET_SECTOR that lowers D from 8000 to 1024. -/
theorem witness_SetSectorWritesTheSetup_reprices :
    setupField ((word32At (setupBody 2#32 (num16 0 ++ num16 1024)) 0).getLsbD 1) 1024 65535
        (nat16At (setupBody 2#32 (num16 0 ++ num16 1024)) 6) priced.setup.d ≠ priced.setup.d ∧
      (∀ j x, priced.needWith j x [] ≤ (priced.term j).need x) ∧ ChainsSound priced ∧ LedgerSound priced :=
  ⟨by decide +kernel, fun j x => Nat.le_of_eq (priced_ledger.2.1 j x).symm, priced_chains, priced_ledger⟩

theorem witness_RestartPlacesEveryTerminal :
    let s := withTerm 4 { state := .queued } (withTerm 9 (served .ramping 0) (ranging (inviting 0 0) {}))
    (s.term 0).state = .absent ∧ (s.term 4).state = .queued ∧ (s.term 9).state.serviced = true ∧
      (s.term 5).state = .ranging ∧ OnlyContext s 5 1 (inviting 0 0) ∧ (worked76.flow 11).counters.flush ≤ 4294967295 :=
  ⟨by decide +kernel, by decide +kernel, by decide +kernel, by decide +kernel,
    only_context _ _ _ _ (by decide +kernel) rfl (by decide +kernel), by decide +kernel⟩

theorem witness_ReadsOnlyAnswer :
    (nat16At [4#8, 0#8] 0 = 1024 ∧ nat16At [3#8, 0xFF#8] 0 = 1023 ∧ nat8At [12#8, 0#8] 0 = 12 ∧ nat8At [11#8, 0#8] 0 = 11) ∧
      nat16At [0x0F#8, 0xFF#8, 65#8, 0#8] 0 = 4095 ∧ nat8At [0x0F#8, 0xFF#8, 65#8, 0#8] 2 = 65 ∧
      nat16At [0x10#8, 0#8, 64#8, 0#8] 0 = 4096 ∧ ([0x10#8, 0#8, 64#8, 0#8] : List Byte).length = 4 := by decide +kernel

theorem witness_ReadResultsAreLaidOut :
    ([0#8, 0#8, 33#8, 0#8] : List Byte).length = 4 ∧ nat16At [0#8, 0#8, 33#8, 0#8] 0 = 0 ∧
      0 < min (nat8At [0#8, 0#8, 33#8, 0#8] 2) 32 ∧ reentering.reentry.queue[0 + 0]? = some 4 ∧
      waiting67.ledger.list[0 + 0]? = some 41 ∧ (0 : Tag).val = 0 + 0 ∧
      reentering.ctx 1 = some { terminal := 5, stage := .inviteWait, timer := some 1 } ∧ reentering.ctx 0 = none ∧
      (11 : FlowIdx).val = nat16At [0#8, 11#8] 0 ∧ (3 : ProfIdx).val = nat8At [3#8, 0#8] 0 := by decide +kernel

theorem witness_CountersAndFlagsAreCleared :
    (∀ k ∈ ([0#8, 1#8, 2#8, 3#8] : List Byte), ([k, 0#8, 0#8, 12#8] : List Byte).length = 4 ∧
      byteAt [k, 0#8, 0#8, 12#8] 0 = k ∧ slotAt [k, 0#8, 0#8, 12#8] 3 = 12 ∧ nat16At [k, 0#8, 0#8, 12#8] 2 = 12) ∧
    1023 < nat16At [1#8, 0#8, 4#8, 0#8] 2 ∧ (up.term 12).state = .absent ∧ (worked67.term 12).state ≠ .absent := by
  decide +kernel

/-- The results of the reads have the lengths of spec/11. -/
theorem test_read_result_lengths :
    ([.readTerminal station [12#8, 0#8], .readFlow station [0#8, 41#8], .readProfile station [7#8, 0#8],
        .readSector station [], .readContexts station [], .readLedger station []] : List Instr).map (fun c =>
      match exec c waiting67 with
      | .next t => (t.mgmt.lastResult.map fun r => r.body.length)
      | .fault _ | .refused _ => none) =
      [some 62, some 62, some 10, some 88, some 48, some 18] := by decide +kernel

/-- R179: READ_LEDGER gives the loads, U_d, the ceilings, the free cells and the credit. -/
theorem test_readLedger_figures :
    answers (exec (.readLedger station []) worked67) (fun t => t.mgmt.lastResult ==
      some ⟨0x48#8, .ok, num32 4739 ++ num32 0 ++ num16 5360 ++ num16 4824 ++ num16 7200 ++ num16 32768 ++ num16 0⟩) =
      true := by decide +kernel

end Sys2Proof.Tests
end

namespace Sys2Proof.Machine

/-! ### The records that arrive -/

/-- The two bytes of a two-byte number make it up. -/
theorem word16_of_bytes (w : Word16) : (w.extractLsb' 8 8 ++ w.extractLsb' 0 8 : Word16) = w := by
  apply BitVec.eq_of_getLsbD_eq
  intro i hi
  simp only [BitVec.getLsbD_append, BitVec.getLsbD_extractLsb']
  split <;> (rw [decide_eq_true (by omega), Bool.true_and]; congr 1; omega)

/-- A two-byte number written in front of some bytes is read back. -/
theorem nat16At_num16 (n : Nat) (h : n < 65536) (l : List Byte) : nat16At (num16 n ++ l) 0 = n := by
  have e : word16At (num16 n ++ l) 0 = BitVec.ofNat 16 n := word16_of_bytes _
  rw [nat16At, e, BitVec.toNat_ofNat, Nat.mod_eq_of_lt h]

/-- Packets laid out as a burst report carries them are split into themselves. -/
theorem splitPayload_payloadBytes (ps : List Packet) (h : ∀ p ∈ ps, p.length < 65536) :
    splitPayload ps.length (payloadBytes ps) = some ps := by
  induction ps with
  | nil => rfl
  | cons p rest ih =>
    have hb : payloadBytes (p :: rest) = num16 p.length ++ (p ++ payloadBytes rest) := by
      simp [payloadBytes, List.append_assoc]
    have hn := nat16At_num16 p.length (h p (by simp)) (p ++ payloadBytes rest)
    have hd : (num16 p.length ++ (p ++ payloadBytes rest)).drop 2 = p ++ payloadBytes rest := rfl
    have hl : ¬ (num16 p.length ++ (p ++ payloadBytes rest)).length < 2 + p.length := by
      simp [num16, be16]; omega
    rw [List.length_cons, splitPayload, hb, hn, if_neg hl, ← List.drop_drop, hd, List.drop_left,
      List.take_left, ih fun q hq => h q (by simp [hq])]
    rfl

/-- A byte of no more than 6 and no less than 1 is one of the six incoming kinds. -/
theorem knownKind_of_range (k : Byte) (h : 1 ≤ k.toNat ∧ k.toNat ≤ 6) : knownKind k = true := by
  revert k; decide

/-- The body of a sound record has the length its kind requires. -/
theorem RecordSound.lengthFits {r : LinkRecord} (h : RecordSound r) : lengthFits r.kind r.body = true := by
  obtain ⟨-, hk, -, h1, h2, h3, h4, h5, h6, -⟩ := h
  unfold Machine.lengthFits
  split_ifs with k1 k2 k3 k4
  · simpa using h1 k1
  · obtain ⟨hlen, ps, hn, hb, hp⟩ := h2 k2
    rw [← hn, hb, splitPayload_payloadBytes ps hp]
    simpa using hlen
  · simpa using h3 k3
  · simpa using h4 k4
  · have k : r.kind = 5#8 ∨ r.kind = 6#8 := by
      revert hk k1 k2 k3 k4; generalize r.kind = k; revert k; decide
    simpa using k.elim h5 h6

/-- A sound record passes the checks of R160. -/
theorem RecordSound.checks {r : LinkRecord} (h : RecordSound r) : recordChecks r = true := by
  have hf := h.lengthFits
  obtain ⟨⟨hlen, hcrc⟩, hk, hl, -, -, -, -, -, -, e2, e4, e6⟩ := h
  have he : enumsDefined r.kind r.body = true := by
    unfold enumsDefined isZeroOrOne
    split_ifs with k2 k4 k6
    · simpa using e2 k2
    · simpa using e4 k4
    · simpa using e6 k6
    · rfl
  simp [recordChecks, LinkRecord.isFramed, frameBytes, hlen, hcrc, knownKind_of_range _ hk, hl, hf, he]

/-- A sound record is taken as the rule for its kind. -/
theorem RecordSound.taken {r : LinkRecord} (h : RecordSound r) (s : State) : s.takeRecord r = s.takeChecked r := by
  rw [State.takeRecord, if_pos h.checks]

/-- A sound BURST_REPORT is dispatched (R165). -/
theorem exec_burstReport {r : LinkRecord} (h : RecordSound r) (k : r.kind = 2#8) (s : State) :
    exec (.burstReport r) s = .next (s.takeBurst (readBurst r.body)) := by
  show Host.Outcome.next (s.takeRecord r) = _
  rw [h.taken, State.takeChecked, k]; rfl

/-- A sound MISS_REPORT is dispatched (R166). -/
theorem exec_missReport {r : LinkRecord} (h : RecordSound r) (k : r.kind = 3#8) (s : State) :
    exec (.missReport r) s = .next (s.takeMissReport (readMiss r.body)) := by
  show Host.Outcome.next (s.takeRecord r) = _
  rw [h.taken, State.takeChecked, k]; rfl

/-- A sound RANGING_REPORT is dispatched (R167). -/
theorem exec_rangingReport {r : LinkRecord} (h : RecordSound r) (k : r.kind = 4#8) (s : State) :
    exec (.rangingReport r) s = .next (s.takeRanging (readRanging r.body)) := by
  show Host.Outcome.next (s.takeRecord r) = _
  rw [h.taken, State.takeChecked, k]; rfl

/-- A sound RANGING_MISS is dispatched (R167). -/
theorem exec_rangingMiss {r : LinkRecord} (h : RecordSound r) (k : r.kind = 5#8) (s : State) :
    exec (.rangingMiss r) s = .next (s.takeRangingMiss (slotAt r.body 0)) := by
  show Host.Outcome.next (s.takeRecord r) = _
  rw [h.taken, State.takeChecked, k]; rfl

/-- A sound SECTOR_STATE is taken (R163, R164). -/
theorem exec_sectorState {r : LinkRecord} (h : RecordSound r) (k : r.kind = 6#8) (s : State) :
    exec (.sectorState r) s = .next (s.takeSectorState (byteAt r.body 0 == 1#8)) := by
  show Host.Outcome.next (s.takeRecord r) = _
  rw [h.taken, State.takeChecked, k]; rfl

/-! ### The shape of a write command (R178) -/

/-- The state with a source as its controller, in which a command taken has its effects (R178). -/
def State.controlledBy (s : State) (src : Mac) : State := { s with mgmt := s.mgmt.controlledBy src }

section
variable (s : State) (src : Mac)

@[simp] theorem State.controlledBy_setup : (s.controlledBy src).setup = s.setup := rfl
@[simp] theorem State.controlledBy_profiles : (s.controlledBy src).profiles = s.profiles := rfl
@[simp] theorem State.controlledBy_terms : (s.controlledBy src).terms = s.terms := rfl
@[simp] theorem State.controlledBy_flows : (s.controlledBy src).flows = s.flows := rfl
@[simp] theorem State.controlledBy_link : (s.controlledBy src).link = s.link := rfl
@[simp] theorem State.controlledBy_reentry : (s.controlledBy src).reentry = s.reentry := rfl
@[simp] theorem State.controlledBy_ledger : (s.controlledBy src).ledger = s.ledger := rfl
@[simp] theorem State.controlledBy_buffer : (s.controlledBy src).buffer = s.buffer := rfl
@[simp] theorem State.controlledBy_mgmt : (s.controlledBy src).mgmt = s.mgmt.controlledBy src := rfl
@[simp] theorem State.controlledBy_counters : (s.controlledBy src).counters = s.counters := rfl
@[simp] theorem State.controlledBy_term (i : Slot) : (s.controlledBy src).term i = s.term i := rfl
@[simp] theorem State.controlledBy_flow (f : FlowIdx) : (s.controlledBy src).flow f = s.flow f := rfl
@[simp] theorem State.controlledBy_ctx (c : CtxNo) : (s.controlledBy src).ctx c = s.ctx c := rfl
@[simp] theorem State.controlledBy_profile (p : ProfIdx) : (s.controlledBy src).profile p = s.profile p := rfl
@[simp] theorem State.controlledBy_chain (i : Slot) : (s.controlledBy src).chain i = s.chain i := by
  have walk (n : Nat) : ∀ h, (s.controlledBy src).walkChain n h = s.walkChain n h := by
    induction n with
    | zero => exact fun _ => rfl
    | succ n ih =>
      intro h
      cases h with
      | none => rfl
      | some f => exact congrArg (f :: ·) (ih _)
  exact walk _ _

theorem State.controlledBy_same : SameBut [.mgmt] s (s.controlledBy src) := by
  intro p hp
  cases p <;> first | rfl | exact absurd (by decide) hp

end

/-- A write command whose checks refuse it is answered and changes nothing (R175, R178). -/
theorem State.runWrite_refuse {s : State} {src : Mac} {code : Byte} {len : Nat} {body : List Byte}
    {check : State → Verdict} {st : Status} (hl : body.length = len) (hc : check s = .refuse st) :
    s.runWrite src code len body check = s.complete src body ⟨code, st, []⟩ := by
  simp only [State.runWrite, hl, ne_eq, not_true_eq_false, if_false, hc]

/-- A write command that passes its checks takes its effect with its source the controller, and is answered (R178). -/
theorem State.runWrite_take {s : State} {src : Mac} {code : Byte} {len : Nat} {body : List Byte}
    {check : State → Verdict} {st : Status} {effect : State → State} {result : List Byte}
    (hl : body.length = len) (hc : check s = .take st effect result) :
    s.runWrite src code len body check =
      (effect (s.controlledBy src)).complete src body ⟨code, st, result⟩ := by
  simp only [State.runWrite, hl, ne_eq, not_true_eq_false, if_false, hc]
  rfl

/-- What a refused write command answers. -/
theorem answer_refuse {s : State} {src : Mac} {code : Byte} {len : Nat} {body : List Byte}
    {check : State → Verdict} {st : Status} (hl : body.length = len) (hc : check s = .refuse st) :
    (Host.Outcome.next (s.runWrite src code len body check) : Answer) = .next (s.complete src body ⟨code, st, []⟩) :=
  congrArg _ (State.runWrite_refuse hl hc)

/-- What a write command that passes its checks answers. -/
theorem answer_take {s : State} {src : Mac} {code : Byte} {len : Nat} {body : List Byte}
    {check : State → Verdict} {st : Status} {effect : State → State} {result : List Byte}
    (hl : body.length = len) (hc : check s = .take st effect result) :
    (Host.Outcome.next (s.runWrite src code len body check) : Answer) =
      .next ((effect (s.controlledBy src)).complete src body ⟨code, st, result⟩) :=
  congrArg _ (State.runWrite_take hl hc)

/-- A number below 1024 names a flow. -/
theorem flowOf_eq_some {n : Nat} {f : FlowIdx} (h : f.val = n) : flowOf n = some f := by
  subst h
  simp [flowOf]

/-- A number above 1023 names no flow. -/
theorem flowOf_eq_none {n : Nat} (h : 1023 < n) : flowOf n = none := by
  simp [flowOf]; omega

/-- A number below 12 names a profile. -/
theorem profileOf_eq_some {n : Nat} {p : ProfIdx} (h : p.val = n) : profileOf n = some p := by
  subst h
  simp [profileOf]

/-- A number above 11 names no profile. -/
theorem profileOf_eq_none {n : Nat} (h : 11 < n) : profileOf n = none := by
  simp [profileOf]; omega

/-! ### One record changed -/

theorem State.modTerm_others (s : State) (i : Slot) (f : Terminal → Terminal) : OtherTerms i s (s.modTerm i f) :=
  fun _ h => s.modTerm_term_other f h

theorem State.modFlow_others (s : State) (i : FlowIdx) (f : Flow → Flow) : OtherFlows i s (s.modFlow i f) :=
  fun _ h => s.modFlow_flow_other f h

theorem term_of_terms {s t : State} (h : t.terms = s.terms) (i : Slot) : t.term i = s.term i :=
  congrArg (fun x => x.get i) h

theorem flow_of_flows {s t : State} (h : t.flows = s.flows) (f : FlowIdx) : t.flow f = s.flow f :=
  congrArg (fun x => x.get f) h

theorem ctx_of_reentry {s t : State} (h : t.reentry = s.reentry) (c : CtxNo) : t.ctx c = s.ctx c :=
  congrArg (fun x => x.contexts.get c) h

theorem profile_of_profiles {s t : State} (h : t.profiles = s.profiles) (p : ProfIdx) : t.profile p = s.profile p :=
  congrArg (fun x => x.get p) h

theorem OtherTerms.trans {i : Slot} {s t u : State} (h : OtherTerms i s t) (k : OtherTerms i t u) :
    OtherTerms i s u := fun j hj => (k j hj).trans (h j hj)

/-! ### Reset and the clears -/

/-- Settles O4: the state of a reset is written out by its definition; only the tables are read. -/
theorem deviceResetLeaves : Obligations.DeviceResetLeaves := by
  intro straps s
  have hp (p : ProfIdx) : ({ State.resetWith straps with pending := s.pending } : State).profile p =
      if p = 0 then Profile.zeroReset else Profile.reset := Table.get_put ..
  refine ⟨{ State.resetWith straps with pending := s.pending }, rfl, rfl, rfl, fun _ => rfl, hp 0,
    fun p h => (hp p).trans (if_neg h), fun _ => rfl, fun _ => rfl, rfl, fun _ => rfl, ?_⟩
  exact ⟨rfl, rfl, rfl, rfl, rfl, rfl, rfl, rfl, rfl, rfl, rfl, rfl, rfl, rfl, rfl, rfl, rfl⟩

/-- Settles O60: the checks of CLEAR_COUNTERS by scope, and CLEAR_FLAGS. -/
theorem countersAndFlagsAreCleared : Obligations.CountersAndFlagsAreCleared := by
  intro src s
  refine ⟨fun body hl => ?_, (s.controlledBy src).clearFlags,
    answer_take (effect := State.clearFlags) rfl rfl, rfl,
    fun j => State.clearFlags_term _ j, (s.controlledBy_same src).then (State.clearFlags_same _) rfl rfl⟩
  refine ⟨fun h0 ha => ?_, fun h0 ha => ?_, fun h1 hn => ?_, fun f h1 hn => ?_, fun h2 => ?_, fun h => ?_⟩
  · exact answer_refuse hl (by simp [checkClearCounters, h0, ha])
  · exact ⟨_, ⟨answer_take (effect := fun s => s.clearTerminal (slotAt body 3)) hl (by simp [checkClearCounters, h0, ha]), rfl⟩,
      State.modTerm_term_same .., State.modTerm_others _ _ _, (s.controlledBy_same src).then (State.clearTerminal_same _ _) rfl rfl⟩
  · exact answer_refuse hl (by simp [checkClearCounters, h1, flowOf_eq_none hn])
  · exact ⟨_, ⟨answer_take (effect := fun s => s.clearFlow f) hl (by simp [checkClearCounters, h1, flowOf_eq_some hn]), rfl⟩,
      State.modFlow_flow_same .., State.modFlow_others _ _ _, (s.controlledBy_same src).then (State.clearFlow_same _ _) rfl rfl⟩
  · exact ⟨_, ⟨answer_take (effect := State.clearAllCounters) hl (by simp [checkClearCounters, h2]), rfl⟩,
      fun j => State.clearAllCounters_term _ j, fun f => State.clearAllCounters_flow _ f, rfl,
      (s.controlledBy_same src).then (State.clearAllCounters_same _) rfl rfl⟩
  · have hs : byteAt body 0 ≠ 0#8 ∧ byteAt body 0 ≠ 1#8 ∧ byteAt body 0 ≠ 2#8 := by
      refine ⟨fun e => ?_, fun e => ?_, fun e => ?_⟩ <;> simp [nat8At, e] at h
    exact answer_refuse hl (by simp [checkClearCounters, hs])

end Sys2Proof.Machine

namespace Sys2Proof.Machine

/-! ### PROVISION_TERMINAL, RELEASE_TERMINAL and DEPROVISION_TERMINAL -/

/-- The policy byte names a policy exactly where it is 0 or 1. -/
theorem policyOf_eq_some {b : Byte} (h : b = 0#8 ∨ b = 1#8) :
    policyOf b = some (if b = 0#8 then .last else .sectorDefault) := by
  rcases h with rfl | rfl <;> rfl

theorem policyOf_eq_none {b : Byte} (h0 : b ≠ 0#8) (h1 : b ≠ 1#8) : policyOf b = none := by
  rw [policyOf, if_neg h0, if_neg h1]

/-- A result is CLAMPED where a field was clamped and OK where none was (R176). -/
theorem okOr_true {c : Bool} (h : c = true) : okOr c = .clamped := by rw [okOr, if_pos h]

theorem okOr_false {c : Bool} (h : c = false) : okOr c = .ok := by simp [okOr, h]

/-- Whether the fields of a terminal body are clamped (R6). -/
theorem readTerminalBody_clamped (body : List Byte) :
    (readTerminalBody body).clamped = decide (3 < nat8At body 8 ∨ 11 < nat8At body 10) := by
  rw [TerminalBody.clamped, Bool.decide_or]
  rfl

/-- Settles O46: the checks of PROVISION_TERMINAL in their order. -/
theorem provisionParksTheSlot : Obligations.ProvisionParksTheSlot := by
  intro src body s hl i identity freeze
  refine ⟨fun hs => answer_refuse hl (if_pos hs), fun hs h0 h1 => answer_refuse hl ?_,
    fun hs hp hf hi => answer_refuse hl ?_, fun hs hp hf => ?_⟩
  · simp [checkProvision, readTerminalBody, i, hs, policyOf_eq_none h0 h1]
  · simp [checkProvision, readTerminalBody, i, hs, policyOf_eq_some hp, identity, freeze] at hi hf ⊢
    simp [hi, hf]
  · have hc : checkProvision (readTerminalBody body) s = .take (okOr (readTerminalBody body).clamped)
        (fun s => s.modTerm i (provisionedRecord (readTerminalBody body)
          (if byteAt body 9 = 0#8 then .last else .sectorDefault))) [] := by
      have hs' : (s.term (readTerminalBody body).slot).state = .absent := hs
      have hp' : (readTerminalBody body).policy = _ := policyOf_eq_some hp
      have hn : ¬ ((readTerminalBody body).freeze = true ∧ (readTerminalBody body).identity = none) := by
        rintro ⟨hy, hn⟩
        exact hf.elim (fun h => by rw [show freeze = true from hy] at h; cases h) (fun h => h hn)
      rw [checkProvision, if_neg (not_not.mpr hs'), hp']
      exact if_neg hn
    refine ⟨(s.controlledBy src).modTerm i _, clampClass (nat8At body 8), clampCeiling (nat8At body 10), _,
      answer_take hl hc, rfl, rfl, fun h => okOr_true ?_, fun h3 h11 => okOr_false ?_,
      State.modTerm_term_same _ _ _, State.modTerm_others _ _ _, rfl,
      (s.controlledBy_same src).then (State.modTerm_same _ _ _) rfl rfl⟩
    · rw [readTerminalBody_clamped]; exact decide_eq_true h
    · rw [readTerminalBody_clamped]; exact decide_eq_false (by omega)

/-- A terminal becomes QUEUED (R5, R59): its record, and its place behind its own and better classes. -/
theorem State.makeQueued_term (s : State) (i : Slot) :
    (s.makeQueued i).term i = { s.term i with state := .queued, timer := none } := by
  simp [State.makeQueued]

theorem State.makeQueued_others (s : State) (i : Slot) : OtherTerms i s (s.makeQueued i) := by
  intro j hj
  simp [State.makeQueued, State.modTerm_term, hj]

/-- A change of one terminal that keeps its class keeps every class. -/
theorem State.modTerm_classes (s : State) (i : Slot) {f : Terminal → Terminal} (h : ∀ t, (f t).cls = t.cls) :
    (fun j => ((s.modTerm i f).term j).cls.val) = fun j => (s.term j).cls.val := by
  funext j
  rw [State.modTerm_term]
  split
  · next e => rw [h, e]
  · rfl

theorem State.makeQueued_queue (s : State) (i : Slot) :
    (s.makeQueued i).reentry.queue = placeByClass (fun j => (s.term j).cls.val) i s.reentry.queue := by
  show placeByClass (fun j => ((s.modTerm i _).term j).cls.val) i s.reentry.queue = _
  exact congrArg (fun k => placeByClass k i s.reentry.queue) (s.modTerm_classes i fun _ => rfl)

/-- Settles O49: the checks of the two commands by the state of the slot. -/
theorem releaseAndDeprovision : Obligations.ReleaseAndDeprovision := by
  intro src body s hl i
  refine ⟨fun hs => ⟨answer_refuse hl ?_, answer_refuse hl (if_pos hs)⟩,
    fun ha hp => ⟨answer_refuse hl ?_, answer_refuse hl ?_⟩, fun hs => ⟨fun hu => ?_, fun hu => ?_, fun hc => ?_, fun hc => ?_⟩⟩
  · simp [checkRelease, show slotAt body 0 = i from rfl, hs]
  · rw [checkRelease]
    split
    · next h => exact absurd h ha
    · next h => exact absurd h hp
    all_goals rfl
  · rw [checkDeprovision, if_neg ha, if_neg fun h => hp h.1]
  · have hr : (s.controlledBy src).releaseTerminal i = (s.controlledBy src).makeQueued i := if_pos hu
    refine ⟨_, answer_take hl (effect := fun s => s.releaseTerminal i)
      (by simp [checkRelease, show slotAt body 0 = i from rfl, hs]), ?_⟩
    rw [hr]
    refine ⟨State.makeQueued_term _ i, State.makeQueued_others _ i, ?_, rfl, rfl, rfl, rfl,
      (s.controlledBy_same src).then (State.makeQueued_same _ i) rfl rfl⟩
    rw [State.makeQueued_queue]
    exact placeByClass_placed _ _ _
  · have hr : (s.controlledBy src).releaseTerminal i = ((s.controlledBy src).modTerm i fun t =>
        { t with state := .down, timer := some 0, outageSeen := true }).raise (.down i) := by
      simp [State.releaseTerminal, State.enterDown, hu]
    refine ⟨_, answer_take hl (effect := fun s => s.releaseTerminal i)
      (by simp [checkRelease, show slotAt body 0 = i from rfl, hs]), ?_⟩
    rw [hr]
    exact ⟨by simp, fun j hj => by simp [State.modTerm_term, hj], rfl,
      ((s.controlledBy_same src).then (State.modTerm_same _ i _) (rs := [.terms, .mgmt]) rfl rfl).then
        (State.raise_same _ _) rfl rfl⟩
  · exact answer_refuse hl (by simp [checkDeprovision, show slotAt body 0 = i from rfl, hs, hc])
  · exact ⟨_, answer_take hl (effect := fun s => s.modTerm i fun _ => Terminal.reset)
      (by simp [checkDeprovision, show slotAt body 0 = i from rfl, hs, hc]), State.modTerm_term_same _ _ _,
      State.modTerm_others _ _ _, rfl, (s.controlledBy_same src).then (State.modTerm_same _ i _) rfl rfl⟩

end Sys2Proof.Machine

namespace Sys2Proof.Machine

/-! ### Contexts that answer a report -/

/-- A ranging report or miss answers the only context of its terminal in INVITE_WAIT (R167). -/
theorem invitedContext_of_only {s : State} {i : Slot} {c : CtxNo} {a : Attempt} (h : OnlyContext s i c a)
    (hw : a.stage = .inviteWait) : s.invitedContext i = some (c, a) := by
  simp [State.invitedContext, contextOf_of_only h, hw]

/-- A proving report answers the only context of its RANGING terminal in PROVE_WAIT at its slot frame (R165, R166). -/
theorem provingContext_of_only {s : State} {i : Slot} {c : CtxNo} {a : Attempt} {frame : FrameNo} (h : OnlyContext s i c a)
    (hs : (s.term i).state = .ranging) (hw : a.stage = .proveWait) (hf : a.slotFrame = some frame) :
    s.provingContext i true frame = some (c, a) := by
  simp [State.provingContext, contextOf_of_only h, hs, hw, hf]

section
variable {s : State} {c : CtxNo} {a : Attempt}

/-- A ranging report for a context in INVITE_WAIT is judged (R167). -/
theorem takeRanging_of_only {r : RangingReport} (h : OnlyContext s r.slot c a) (hw : a.stage = .inviteWait) :
    s.takeRanging r = s.judgeRanging c a r := by
  rw [State.takeRanging, invitedContext_of_only h hw]

/-- A ranging miss for a context in INVITE_WAIT is judged (R167). -/
theorem takeRangingMiss_of_only {i : Slot} (h : OnlyContext s i c a) (hw : a.stage = .inviteWait) :
    s.takeRangingMiss i = s.judgeRangingMiss c a := by
  rw [State.takeRangingMiss, invitedContext_of_only h hw]

/-- A proving burst for a context in PROVE_WAIT is judged, its payload dropped (R99, R165). -/
theorem takeBurst_of_only {r : BurstReport} (h : OnlyContext s r.slot c a) (hs : (s.term r.slot).state = .ranging)
    (hw : a.stage = .proveWait) (hp : r.proving = true) (hf : a.slotFrame = some r.frame) :
    s.takeBurst r = (s.judgeProving c a r.snr r.crcGood).dropPayload r.payload.length := by
  rw [State.takeBurst, hs, hp, provingContext_of_only h hs hw hf]; rfl

/-- A proving miss for a context in PROVE_WAIT is judged (R166). -/
theorem takeMissReport_of_only {r : MissReport} (h : OnlyContext s r.slot c a) (hs : (s.term r.slot).state = .ranging)
    (hw : a.stage = .proveWait) (hp : r.proving = true) (hf : a.slotFrame = some r.frame) :
    s.takeMissReport r = s.judgeProvingMiss c a := by
  rw [State.takeMissReport, hs, hp, provingContext_of_only h hs hw hf]; rfl

end

/-! ### How a ranging report and a proving burst are judged -/

section
variable {s : State} {c : CtxNo} {a : Attempt}

/-- A failure below the third returns the context to its pending stage (R74). -/
theorem failContext_low (h : a.failures < 2) (o : AttemptOutcome) (st : Stage) :
    s.failContext c a o st = s.setCtx c (some { a.backTo st with failures := a.failures + 1 }) :=
  if_pos (by show a.failures + 1 < 3; omega)

/-- A third failure ends the attempt (R74). -/
theorem failContext_third (h : 2 ≤ a.failures) (o : AttemptOutcome) (st : Stage) :
    s.failContext c a o st = s.endAttempt c a o false :=
  if_neg (by show ¬ a.failures + 1 < 3; omega)

variable {r : RangingReport}

theorem judgeRanging_parked (hp : a.parkPending = true) : s.judgeRanging c a r = s.endAttempt c a .parked false := by
  simp [State.judgeRanging, hp]

theorem judgeRanging_corrupt (hp : a.parkPending = false) (hc : r.crcGood = false) :
    s.judgeRanging c a r = s.failContext c a .corrupt .invitePending := by
  simp [State.judgeRanging, hp, hc]

theorem judgeRanging_mismatch (hp : a.parkPending = false) (hc : r.crcGood = true)
    (hf : (s.term a.terminal).freeze = true) (hi : (s.term a.terminal).identity ≠ some r.identity) :
    s.judgeRanging c a r = s.endAttempt c a .identityMismatch false := by
  simp [State.judgeRanging, hp, hc, hf, hi]

variable (hp : a.parkPending = false) (hc : r.crcGood = true)
  (hi : (s.term a.terminal).freeze = true → (s.term a.terminal).identity = some r.identity)
include hp hc hi

theorem judgeRanging_weak (hq : sampleOf r.snr < (s.profile 0).entry) :
    s.judgeRanging c a r = s.failContext c a .weak .invitePending := by
  simp only [State.judgeRanging, hp, hc, hq, if_true]
  simpa using fun h h' => absurd (hi h) h'

theorem judgeRanging_outside (hq : (s.profile 0).entry ≤ sampleOf r.snr)
    (hw : s.setup.timingWindow < r.timing.natAbs ∨ s.setup.powerWindow < r.power.natAbs) :
    s.judgeRanging c a r = s.adjust c a r.timing r.power := by
  simp only [State.judgeRanging, hp, hc, not_lt.mpr hq, hw, if_true, if_false]
  simpa using fun h h' => absurd (hi h) h'

theorem judgeRanging_accept (hq : (s.profile 0).entry ≤ sampleOf r.snr)
    (ht : r.timing.natAbs ≤ s.setup.timingWindow) (hw : r.power.natAbs ≤ s.setup.powerWindow) :
    s.judgeRanging c a r = s.acceptRanging c a r := by
  simp only [State.judgeRanging, hp, hc, not_lt.mpr hq, not_lt.mpr ht, not_lt.mpr hw, or_self, if_false]
  simpa using fun h h' => absurd (hi h) h'

end

/-! ### The end of an attempt -/

/-- The second state is the first with a terminal's counters replaced. -/
def CountedAt (s u : State) (i : Slot) (k : TermCounters) : Prop :=
  u.term i = { s.term i with counters := k } ∧ OtherTerms i s u ∧ SameBut [.terms] s u

theorem CountedAt.refl (s : State) (i : Slot) : CountedAt s s i (s.term i).counters :=
  ⟨rfl, fun _ _ => rfl, SameBut.refl _ s⟩

theorem countedAt_modTerm (s : State) (i : Slot) (f : TermCounters → TermCounters) :
    CountedAt s (s.modTerm i fun t => { t with counters := f t.counters }) i (f (s.term i).counters) :=
  ⟨s.modTerm_term_same i _, s.modTerm_others i _, s.modTerm_same i _⟩

section
variable {s u : State} {c : CtxNo} {i : Slot} {a : Attempt} {k : TermCounters} {o : AttemptOutcome}

/-- An attempt that ends PARKED parks its terminal and frees its context (R10, R77). -/
theorem CountedAt.parked (h : CountedAt s u i k) (ha : a.terminal = i) :
    AttemptParked s (u.endAttempt c a .parked false) c i k ∧
      SameBut [.terms, .reentry] s (u.endAttempt c a .parked false) := by
  obtain ⟨ht, ho, hs⟩ := h
  subst ha
  have e : u.endAttempt c a .parked false = (((u.setCtx c none).modTerm a.terminal
      fun t => { t with lastOutcome := some .parked }).modTerm a.terminal fun t => { t with state := .parked }) := rfl
  have hr : u.reentry = s.reentry := hs .reentry (by decide)
  rw [e]
  refine ⟨⟨by simp, fun d hd => ?_, by simp [SameReentryBut, hr], by simp [ht],
    fun j hj => by simp [State.modTerm_term, hj, ho j hj], hs .mgmt (by decide)⟩,
    ((hs.then (u.setCtx_same c none) (rs := [.terms, .reentry]) rfl rfl).then (State.modTerm_same _ _ _)
      (rs := [.terms, .reentry]) rfl rfl).then (State.modTerm_same _ _ _) rfl rfl⟩
  simp only [State.modTerm_ctx, State.setCtx_ctx_other _ _ hd]
  exact ctx_of_reentry hr d

/-- The backoff of a positive base is positive (R13). -/
theorem backoffFor_pos {base : Nat} (h : 0 < base) (n : Nat) : backoffFor base n ≠ 0 :=
  (Nat.mul_pos h (Nat.two_pow_pos _)).ne'

/-- A terminal enters DOWN with a timer above 0 (R13). -/
theorem State.enterDown_pos (s : State) (i : Slot) {n : Nat} (h : n ≠ 0) (b : Bool) :
    s.enterDown i n b =
      (s.modTerm i fun t => { t with state := .down, timer := some n, outageSeen := true }).raise (.down i) := by
  simp [State.enterDown, h]

/-- A failure outcome is taken as such by the TMGR (R16). -/
theorem State.takeOutcome_failure (s : State) (i : Slot) (e : Option ProfIdx) (b : Bool) (ho : o.isFailure = true) :
    s.takeOutcome i o e b = (s.modTerm i fun t => { t with lastOutcome := some o }).failedDown i := by
  cases o <;> first | rfl | cases ho

/-- An attempt that ends with a failure outcome leaves its terminal DOWN with its backoff (R13, R16, R75). -/
theorem CountedAt.failed (h : CountedAt s u i k) (ha : a.terminal = i) (ho : o.isFailure = true)
    (hb : 0 < s.setup.backoff) :
    AttemptFailed s (u.endAttempt c a o false) c i o k ∧
      SameBut [.terms, .reentry, .mgmt] s (u.endAttempt c a o false) := by
  obtain ⟨ht, hot, hs⟩ := h
  subst ha
  have hr : u.reentry = s.reentry := hs .reentry (by decide)
  have hu : u.setup = s.setup := hs .setup (by decide)
  have hl : u.link = s.link := hs .link (by decide)
  have hm : u.mgmt = s.mgmt := hs .mgmt (by decide)
  have hp := backoffFor_pos hb (min ((s.term a.terminal).failedAttempts + 1) 255)
  have e : u.endAttempt c a o false = ((((u.setCtx c none).modTerm a.terminal
      fun t => { t with lastOutcome := some o }).failedDown a.terminal).raise
        (.attempt a.terminal c o (min ((s.term a.terminal).failedAttempts + 1) 255))) := by
    simp only [State.endAttempt, ho, if_true, State.takeOutcome_failure _ _ _ _ ho]
    congr 2
    simp [State.failedDown, State.enterDown_pos, hu, hp, ht]
  have d : (((u.setCtx c none).modTerm a.terminal fun t => { t with lastOutcome := some o }).failedDown a.terminal) =
      ((((u.setCtx c none).modTerm a.terminal fun t => { t with lastOutcome := some o }).modTerm a.terminal fun t =>
        { t with failedAttempts := min (t.failedAttempts + 1) 255
                 counters := { t.counters with failed := satAdd t.counters.failed 1 } }).modTerm a.terminal fun t =>
        { t with state := .down
                 timer := some (backoffFor s.setup.backoff (min ((s.term a.terminal).failedAttempts + 1) 255))
                 outageSeen := true }).raise (.down a.terminal) := by
    simp [State.failedDown, State.enterDown_pos, hu, hp, ht]
  rw [e]
  refine ⟨?_, (((hs.then (u.setCtx_same c none) (rs := [.terms, .reentry]) rfl rfl).then (State.modTerm_same _ _ _)
    (rs := [.terms, .reentry]) rfl rfl).then (State.failedDown_same _ _) (rs := [.terms, .reentry, .mgmt]) rfl rfl).then
      (State.raise_same _ _) rfl rfl⟩
  · rw [d]
    refine ⟨by simp, fun x hx => ?_, by simp [SameReentryBut, hr], by simp [ht, backoffFor, satAdd, Config.counterMax],
      fun j hj => by simp [State.modTerm_term, hj, hot j hj], ?_⟩
    · simp only [State.raise_ctx, State.modTerm_ctx, State.setCtx_ctx_other _ _ hx]
      exact ctx_of_reentry hr x
    · simp [State.raise, State.notified, hu, hl, hm]

end

/-! ### The settled statements on attempts -/

/-- A context's timeout by its stage (R67, R77). -/
theorem timeout_invite {s : State} {c : CtxNo} {a : Attempt} (h : s.ctx c = some a) (ht : a.timer = some 0)
    (hw : a.stage = .inviteWait) : s.timeout c =
      if a.parkPending then s.endAttempt c a .parked false else s.failContext c a .noResponse .invitePending := by
  simp [State.timeout, h, ht, hw]

theorem timeout_prove {s : State} {c : CtxNo} {a : Attempt} (h : s.ctx c = some a) (ht : a.timer = some 0)
    (hw : a.stage = .proveWait) : s.timeout c =
      if a.parkPending then s.endAttempt c a .parked false else s.failProving c a := by
  simp [State.timeout, h, ht, hw]

/-- A proving report of a parked stage ends the attempt PARKED (R77). -/
theorem judgeProving_parked {s : State} {c : CtxNo} {a : Attempt} (hp : a.parkPending = true) (snr : Nat) (good : Bool) :
    s.judgeProving c a snr good =
      (s.modTerm a.terminal fun t => { t with counters := t.counters.burst good }).endAttempt c a .parked false := by
  rw [State.judgeProving, if_pos hp]

theorem judgeProvingMiss_parked {s : State} {c : CtxNo} {a : Attempt} (hp : a.parkPending = true) :
    s.judgeProvingMiss c a =
      (s.modTerm a.terminal fun t => { t with counters := t.counters.miss }).endAttempt c a .parked false := by
  rw [State.judgeProvingMiss, if_pos hp]

/-- A proving miss is a failure (R73). -/
theorem judgeProvingMiss_fails {s : State} {c : CtxNo} {a : Attempt} (hp : a.parkPending = false) :
    s.judgeProvingMiss c a =
      (s.modTerm a.terminal fun t => { t with counters := t.counters.miss }).failProving c a := by
  rw [State.judgeProvingMiss, if_neg (by simp [hp])]

/-- A proving burst that does not meet its bar is a failure (R73). -/
theorem judgeProving_fails {s : State} {c : CtxNo} {a : Attempt} {snr : Nat} {good : Bool} (hp : a.parkPending = false)
    (h : good = false ∨ snr < (s.profile (a.entryProfile.getD 0)).exit) :
    s.judgeProving c a snr good =
      (s.modTerm a.terminal fun t => { t with counters := t.counters.burst good }).failProving c a := by
  have hn : ¬ (good = true ∧ (s.modTerm a.terminal fun t =>
      { t with counters := t.counters.burst good }).provingExit a ≤ snr) := by
    rintro ⟨hg, hq⟩
    exact h.elim (fun e => by rw [hg] at e; cases e) (fun e => absurd hq (not_le.mpr e))
  simp only [State.judgeProving, hp, hn, if_false]
  rfl

section
variable {s : State} {c : CtxNo} {a : Attempt} {r : LinkRecord} (hr : RecordSound r)
include hr

/-- A sound proving burst for a context in PROVE_WAIT, where its judgement is known (R99, R165). -/
theorem exec_provingBurst (hk : r.kind = 2#8) {v : State} (h : OnlyContext s (readBurst r.body).slot c a)
    (hs : (s.term (readBurst r.body).slot).state = .ranging) (hw : a.stage = .proveWait)
    (hp : (readBurst r.body).proving = true) (hf : a.slotFrame = some (readBurst r.body).frame)
    (hv : s.judgeProving c a (readBurst r.body).snr (readBurst r.body).crcGood = v) :
    exec (.burstReport r) s = .next (v.dropPayload (readBurst r.body).payload.length) := by
  rw [exec_burstReport hr hk, takeBurst_of_only h hs hw hp hf, hv]

/-- A sound proving miss for a context in PROVE_WAIT, where its judgement is known (R166). -/
theorem exec_provingMiss (hk : r.kind = 3#8) {v : State} (h : OnlyContext s (readMiss r.body).slot c a)
    (hs : (s.term (readMiss r.body).slot).state = .ranging) (hw : a.stage = .proveWait)
    (hp : (readMiss r.body).proving = true) (hf : a.slotFrame = some (readMiss r.body).frame)
    (hv : s.judgeProvingMiss c a = v) : exec (.missReport r) s = .next v := by
  rw [exec_missReport hr hk, takeMissReport_of_only h hs hw hp hf, hv]

/-- A sound ranging report for a context in INVITE_WAIT, where its judgement is known (R167). -/
theorem exec_invitedReport (hk : r.kind = 4#8) {v : State} (h : OnlyContext s (readRanging r.body).slot c a)
    (hw : a.stage = .inviteWait) (hv : s.judgeRanging c a (readRanging r.body) = v) :
    exec (.rangingReport r) s = .next v := by
  rw [exec_rangingReport hr hk, takeRanging_of_only h hw, hv]

end

/-- A dropped payload is counted, nothing else of the counters having changed (R99). -/
theorem dropPayload_counters {s u : State} (h : u.counters = s.counters) (n : Nat) :
    (u.dropPayload n).counters = { s.counters with upDropped := min (s.counters.upDropped + n) 4294967295 } := by
  rw [← h]; rfl

/-- Settles O28: each report or timeout of a parked stage ends the attempt PARKED, whatever it says. -/
theorem parkedStageIsResolved : Obligations.ParkedStageIsResolved := by
  intro s i c a h hp
  have hi : a.terminal = i := h.2.1
  have direct := (CountedAt.refl s i).parked (c := c) hi
  refine ⟨fun r hr hk hs hw => ?_, fun r hr hk hs hw => ?_, fun ht hw => ?_, fun r hr hk hs hst hw hpr hf => ?_,
    fun r hr hk hs hst hw hpr hf => ?_⟩
  · exact ⟨_, by rw [exec_rangingReport hr hk, takeRanging_of_only (hs ▸ h) hw, judgeRanging_parked hp], direct⟩
  · exact ⟨_, by rw [exec_rangingMiss hr hk, takeRangingMiss_of_only (hs ▸ h) hw, State.judgeRangingMiss, if_pos hp],
      direct⟩
  · refine ⟨_, ?_, direct⟩
    show Host.Outcome.next (s.timeout c) = _
    rcases hw with hw | hw
    · rw [timeout_invite h.1 ht hw, if_pos hp]
    · rw [timeout_prove h.1 ht hw, if_pos hp]
  · obtain ⟨hpark, hsame⟩ := (countedAt_modTerm s i fun k => k.burst (readBurst r.body).crcGood).parked (c := c) hi
    subst hi
    refine ⟨_, exec_provingBurst hr hk (hs ▸ h) (hs ▸ hst) hw hpr hf (judgeProving_parked hp _ _), hpark, ?_,
      hsame.then (State.dropPayload_same _ _) rfl rfl⟩
    exact dropPayload_counters (hsame .counters (by decide)) _
  · subst hi
    exact ⟨_, exec_provingMiss hr hk (hs ▸ h) (hs ▸ hst) hw hpr hf
      (judgeProvingMiss_parked hp), (countedAt_modTerm s a.terminal TermCounters.miss).parked rfl⟩

/-- Settles O25: below the third failure a context returns to its pending stage. -/
theorem failureBelowThreeGoesOn : Obligations.FailureBelowThreeGoesOn := by
  intro s i c a h hp hf invite prove
  have hi : a.terminal = i := h.2.1
  have park : ¬ a.parkPending = true := by simp [hp]
  have proving (t : State) : t.failProving c a = t.setCtx c prove :=
    failContext_low (a := { a with entryProfile := some 0 }) hf _ _
  subst hi
  refine ⟨fun r hr hk hs hw hq => ?_, fun r hr hk hs hw => ?_, fun ht hw => ?_, fun ht hw => ?_,
    fun r hr hk hs hst hw hpr hfr hq => ?_, fun r hr hk hs hst hw hpr hfr => ?_⟩
  · rw [exec_rangingReport hr hk, takeRanging_of_only (hs ▸ h) hw]
    by_cases hc : (readRanging r.body).crcGood = false
    · rw [judgeRanging_corrupt hp hc, failContext_low hf]; rfl
    · obtain ⟨hid, hweak⟩ := hq.resolve_left hc
      rw [judgeRanging_weak hp (by simpa using hc) hid hweak, failContext_low hf]; rfl
  · rw [exec_rangingMiss hr hk, takeRangingMiss_of_only (hs ▸ h) hw, State.judgeRangingMiss, if_neg park,
      failContext_low hf]; rfl
  · show Host.Outcome.next (s.timeout c) = _
    rw [timeout_invite h.1 ht hw, if_neg park, failContext_low hf]; rfl
  · show Host.Outcome.next (s.timeout c) = _
    rw [timeout_prove h.1 ht hw, if_neg park, proving]
  · refine ⟨_, exec_provingBurst hr hk (hs ▸ h) (hs ▸ hst) hw hpr hfr
      ((judgeProving_fails hp hq).trans (proving _)), State.setCtx_ctx_same _ _ _, fun d hd => State.setCtx_ctx_other _ _ hd, ⟨rfl, rfl, rfl⟩,
      by simp [State.dropPayload], fun j hj => by simp [State.dropPayload, State.modTerm_term, hj], rfl, ?_⟩
    exact ((s.modTerm_same _ _).then (State.setCtx_same _ _ _) (rs := [.terms, .reentry]) rfl rfl).then
      (State.dropPayload_same _ _) rfl rfl
  · refine ⟨_, exec_provingMiss hr hk (hs ▸ h) (hs ▸ hst) hw hpr hfr
      ((judgeProvingMiss_fails hp).trans (proving _)), State.setCtx_ctx_same _ _ _,
      fun d hd => State.setCtx_ctx_other _ _ hd, ⟨rfl, rfl, rfl⟩, by simp,
      fun j hj => by simp [State.modTerm_term, hj], (s.modTerm_same _ _).then (State.setCtx_same _ _ _) rfl rfl⟩

/-- A proving failure that is the third ends the attempt with PROVE_FAILED (R73, R74). -/
theorem CountedAt.provingFailed {s u : State} {c : CtxNo} {i : Slot} {a : Attempt} {k : TermCounters}
    (h : CountedAt s u i k) (ha : a.terminal = i) (hf : 2 ≤ a.failures) (hb : 0 < s.setup.backoff) :
    AttemptFailed s (u.failProving c a) c i .proveFailed k ∧ SameBut [.terms, .reentry, .mgmt] s (u.failProving c a) := by
  rw [State.failProving, failContext_third (a := { a with entryProfile := some 0 }) hf]
  exact h.failed ha rfl hb

/-- Settles O26: each way an attempt ends with a failure outcome. -/
theorem failureOutcomesEndTheAttempt : Obligations.FailureOutcomesEndTheAttempt := by
  intro s i c a h hp hb
  have hi : a.terminal = i := h.2.1
  have park : ¬ a.parkPending = true := by simp [hp]
  have direct {o : AttemptOutcome} (ho : o.isFailure = true) := (CountedAt.refl s i).failed (c := c) hi ho hb
  refine ⟨fun r o hr hk hs hw hq => ?_, fun r hf hr hk hs hw => ?_, fun o hf ht hw => ?_,
    fun r hf hr hk hs hst hw hpr hfr hq => ?_, fun r hf hr hk hs hst hw hpr hfr => ?_⟩
  · rw [exec_rangingReport hr hk, takeRanging_of_only (hs ▸ h) hw]
    subst hi
    rcases hq with ⟨hf, rfl, hc⟩ | ⟨rfl, hc, hfz, hid⟩ | ⟨hc, hid, hq⟩
    · exact ⟨_, by rw [judgeRanging_corrupt hp hc, failContext_third hf], direct rfl⟩
    · exact ⟨_, by rw [judgeRanging_mismatch hp hc hfz hid], direct rfl⟩
    · rcases hq with ⟨hf, rfl, hweak⟩ | ⟨hadj, rfl, hok, hout⟩
      · exact ⟨_, by rw [judgeRanging_weak hp hc hid hweak, failContext_third hf], direct rfl⟩
      · exact ⟨_, by rw [judgeRanging_outside hp hc hid hok hout, State.adjust,
          if_neg (show ¬ a.adjusts < Config.adjustLimit from not_lt.mpr hadj)], direct rfl⟩
  · exact ⟨_, by rw [exec_rangingMiss hr hk, takeRangingMiss_of_only (hs ▸ h) hw, State.judgeRangingMiss, if_neg park,
      failContext_third hf], direct rfl⟩
  · rcases hw with ⟨hw, rfl⟩ | ⟨hw, rfl⟩
    · exact ⟨_, congrArg Host.Outcome.next ((timeout_invite h.1 ht hw).trans
        ((if_neg park).trans (failContext_third hf _ _))), direct rfl⟩
    · exact ⟨_, congrArg Host.Outcome.next ((timeout_prove h.1 ht hw).trans (if_neg park)),
        (CountedAt.refl s i).provingFailed hi hf hb⟩
  · subst hi
    obtain ⟨hfail, hsame⟩ := (countedAt_modTerm s a.terminal fun k => k.burst (readBurst r.body).crcGood).provingFailed
      (c := c) rfl hf hb
    refine ⟨_, exec_provingBurst hr hk (hs ▸ h) (hs ▸ hst) hw hpr hfr
      (judgeProving_fails hp hq), hfail, ?_, hsame.then (State.dropPayload_same _ _) rfl rfl⟩
    exact dropPayload_counters (hsame .counters (by decide)) _
  · subst hi
    exact ⟨_, exec_provingMiss hr hk (hs ▸ h) (hs ▸ hst) hw hpr hfr
      (judgeProvingMiss_fails hp), (countedAt_modTerm s a.terminal TermCounters.miss).provingFailed rfl hf hb⟩

/-! ### A ranging report that is accepted -/

/-- A frozen identity is not learned (R2). -/
theorem learnIdentity_frozen {s : State} {i : Slot} (h : (s.term i).freeze = true) (id : Mac) :
    s.learnIdentity i id = s := by simp [State.learnIdentity, h]

section
variable {s : State} {i : Slot} (h : (s.term i).freeze = false) (id : Mac)
include h

/-- A learned identity is written (R2, R71). -/
theorem learnIdentity_terms : (s.learnIdentity i id).terms = (s.modTerm i fun t => { t with identity := some id }).terms := by
  rw [State.learnIdentity, if_neg (by simp [h])]
  cases (s.term i).identity with
  | none => rfl
  | some old =>
    by_cases e : old = id
    · simp only [if_pos e]
    · simp only [if_neg e]; rfl

/-- A learned identity raises a notice where it replaces a different one (R2). -/
theorem learnIdentity_mgmt_same (k : (s.term i).identity = none ∨ (s.term i).identity = some id) :
    (s.learnIdentity i id).mgmt = s.mgmt := by
  rcases k with k | k <;> simp [State.learnIdentity, h, k]

theorem learnIdentity_mgmt_other (k : (s.term i).identity ≠ none) (k' : (s.term i).identity ≠ some id) :
    (s.learnIdentity i id).mgmt = s.notified (.identity i id) := by
  cases e : (s.term i).identity with
  | none => exact absurd e k
  | some old =>
    have hne : old ≠ id := fun hh => k' (by rw [e, hh])
    simp [State.learnIdentity, h, e, hne, State.raise, State.notified]

end

/-- The entry profile of a ranging sample (R53), for a terminal record with its target and ceiling. -/
theorem entryProfileFor_spec (s : State) (t : Terminal) (q : Nat) :
    HighestValid s (fun p => p ≤ min (if t.policy = .last then t.resume.getD s.setup.defaultProfile
      else s.setup.defaultProfile) t.ceiling ∧ (s.profile p).entry ≤ q) (s.entryProfileFor t q) := by
  have hb : s.entryBound t = min (if t.policy = .last then t.resume.getD s.setup.defaultProfile
      else s.setup.defaultProfile) t.ceiling := by
    cases hp : t.policy <;> cases hr : t.resume <;> simp [State.entryBound, hp, hr]
  have := highestValid_spec s fun p => p ≤ s.entryBound t && (s.profile p).entry ≤ q
  simpa [hb, State.entryProfileFor] using this

/-- An accepted report learns the identity and moves the context to PROVE_PENDING (R71). -/
theorem acceptRanging_eq (s : State) (c : CtxNo) (a : Attempt) (r : RangingReport) :
    s.acceptRanging c a r = (s.learnIdentity a.terminal r.identity).setCtx c (some { a with
      stage := .provePending, timer := none, slotFrame := none, failures := 0, sample := some (sampleOf r.snr)
      entryProfile := some ((s.learnIdentity a.terminal r.identity).entryProfileFor
        ((s.learnIdentity a.terminal r.identity).term a.terminal) (sampleOf r.snr)) }) := rfl

/-- Settles O23: a report that passes every check is accepted. -/
theorem rangingReportIsAccepted : Obligations.RangingReportIsAccepted := by
  intro r s c a hr hk b x h hw hp hc hid hq ht hpw
  have hi : a.terminal = b.slot := h.2.1
  have hs := s.learnIdentity_same a.terminal b.identity
  have hprof (p : ProfIdx) := profile_of_profiles (hs.at .profiles (by decide)) p
  have hx : ((s.learnIdentity a.terminal b.identity).term a.terminal).policy = x.policy ∧
      ((s.learnIdentity a.terminal b.identity).term a.terminal).resume = x.resume ∧
      ((s.learnIdentity a.terminal b.identity).term a.terminal).ceiling = x.ceiling := by
    rw [hi]
    cases hf : x.freeze
    · simp [term_of_terms (learnIdentity_terms hf b.identity), x]
    · simp [learnIdentity_frozen hf, x]
  have he := entryProfileFor_spec (s.learnIdentity a.terminal b.identity)
    ((s.learnIdentity a.terminal b.identity).term a.terminal) (sampleOf b.snr)
  rw [hx.1, hx.2.1, hx.2.2, show (s.learnIdentity a.terminal b.identity).setup = s.setup from hs .setup (by decide)] at he
  refine ⟨_, _, exec_invitedReport hr hk h hw
    ((judgeRanging_accept hp hc (by rw [hi]; exact hid) hq ht hpw).trans (acceptRanging_eq s c a b)), ?_, State.setCtx_ctx_same _ _ _,
    fun d hd => ?_, ?_, fun hf => ?_, fun hf => ⟨?_, fun j hj => ?_, fun hn => ?_, fun hn hn' => ?_⟩,
    hs.then (State.setCtx_same _ _ _) rfl rfl⟩
  · simp only [HighestValid, hprof] at he ⊢
    exact he
  · rw [State.setCtx_ctx_other _ _ hd]
    exact ctx_of_reentry (hs .reentry (by decide)) d
  · have hre : (s.learnIdentity a.terminal b.identity).reentry = s.reentry := hs .reentry (by decide)
    simp [SameReentryBut, hre]
  · simp [hi, learnIdentity_frozen hf]
  · rw [State.setCtx_term, hi, term_of_terms (learnIdentity_terms hf b.identity), State.modTerm_term_same]
  · rw [State.setCtx_term, hi, term_of_terms (learnIdentity_terms hf b.identity), State.modTerm_term_other _ _ hj]
  · rw [State.setCtx_mgmt, hi, learnIdentity_mgmt_same hf _ hn]
  · rw [State.setCtx_mgmt, hi, learnIdentity_mgmt_other hf _ hn hn']

end Sys2Proof.Machine

namespace Sys2Proof.Machine

/-! ### Chains and needs read the same where what they read is the same -/

/-- A walk along chain next depends on the chain links alone. -/
theorem walkChain_congr {s t : State} (h : ∀ f, (t.flow f).chainNext = (s.flow f).chainNext) (n : Nat) :
    ∀ o, t.walkChain n o = s.walkChain n o := by
  induction n with
  | zero => exact fun _ => rfl
  | succ n ih =>
    intro o
    cases o with
    | none => rfl
    | some f => rw [State.walkChain, State.walkChain, h f, ih]

/-- A chain depends on its head and the chain links. -/
theorem chain_congr {s t : State} {i : Slot} (hh : (t.term i).chainHead = (s.term i).chainHead)
    (h : ∀ f, (t.flow f).chainNext = (s.flow f).chainNext) : t.chain i = s.chain i := by
  rw [State.chain, State.chain, hh, walkChain_congr h]

/-- Whether a flow is counted in a need of a direction: it is ADMITTED, or in the list of those counted besides (R107). -/
def State.counts (s : State) (x : Direction) (extra : List FlowIdx) (f : FlowIdx) : Prop :=
  (s.flow f).dir = x ∧ ((s.flow f).state = .admitted ∨ f ∈ extra)

/-- A sum of CB depends on the flows counted and their CB. -/
theorem sumCB_congr {s t : State} {x : Direction} {extra extra' l : List FlowIdx}
    (h : ∀ f ∈ l, (t.counts x extra' f ↔ s.counts x extra f) ∧ (t.flow f).cb = (s.flow f).cb) :
    t.sumCB x extra' l = s.sumCB x extra l := by
  refine congrArg List.sum (List.map_congr_left fun f hf => ?_)
  obtain ⟨hc, hb⟩ := h f hf
  simp only [State.counts] at hc
  simp only [hc, hb]

/-- A need depends on whether the terminal is serviced, its profile, M, and the flows of its chain that are counted. -/
theorem needWith_congr {s t : State} {i : Slot} {x : Direction} {extra extra' : List FlowIdx}
    (hs : (t.term i).state.serviced = (s.term i).state.serviced) (hc : (t.term i).current = (s.term i).current)
    (hl : t.chain i = s.chain i) (hm : t.setup.m = s.setup.m) (hp : t.profiles = s.profiles)
    (h : ∀ f ∈ s.chain i, (t.counts x extra' f ↔ s.counts x extra f) ∧ (t.flow f).cb = (s.flow f).cb) :
    t.needWith i x extra' = s.needWith i x extra := by
  have hpr : t.pricing i = s.pricing i := by
    simp only [State.pricing, hc, profile_of_profiles hp]
  simp only [State.needWith, hs, hl, hm, hpr, sumCB_congr h]

/-- A terminal that is not serviced needs nothing (R107). -/
theorem needWith_unserviced {s : State} {i : Slot} (h : (s.term i).state.serviced = false) (x : Direction)
    (extra : List FlowIdx) : s.needWith i x extra = 0 := by
  simp [State.needWith, h]

/-- The total of the needs of a direction, over every slot. -/
theorem total_need_eq_sum (s : State) (x : Direction) :
    s.terms.total (fun t => t.need x) = ((List.finRange 256).map fun i => (s.term i).need x).sum :=
  Table.total_eq_sum _ _ (by cases x <;> rfl)

/-- The loads are sound where each is the sum of the needs of its direction over every slot (R108). -/
theorem loadsSound_iff (s : State) :
    LoadsSound s ↔ ∀ x, s.load x = ((List.finRange 256).map fun i => (s.term i).need x).sum := by
  simp only [← total_need_eq_sum]
  exact ⟨fun ⟨hu, hd⟩ x => by cases x <;> assumption, fun h => ⟨h .up, h .down⟩⟩

/-- Loads stay sound where the ledger's loads and every need stay. -/
theorem LoadsSound.congr {s t : State} (h : LoadsSound s) (hl : ∀ x, t.load x = s.load x)
    (hn : ∀ i x, (t.term i).need x = (s.term i).need x) : LoadsSound t := by
  rw [loadsSound_iff] at h ⊢
  intro x
  simp only [hl, hn, h x]

theorem loadsSound_sumLoads (s : State) : LoadsSound s.sumLoads := ⟨rfl, rfl⟩

/-! ### Repricing -/

section
variable (s : State) (i : Slot)

/-- A terminal repriced: its needs are those of R107, and no other terminal changes (R108). -/
theorem reprice_term (j : Slot) : (s.reprice i).term j = if j = i then
    { s.term i with needUp := s.needWith i .up [], needDown := s.needWith i .down [] } else s.term j := by
  rw [State.reprice, State.sumLoads_term, State.modTerm_term]

theorem reprice_loadsSound : LoadsSound (s.reprice i) := loadsSound_sumLoads _

@[simp] theorem reprice_list : (s.reprice i).ledger.list = s.ledger.list := rfl

/-- Repricing changes no need as R107 counts it. -/
theorem reprice_needWith (j : Slot) (x : Direction) (extra : List FlowIdx) :
    (s.reprice i).needWith j x extra = s.needWith j x extra := by
  have h := reprice_term s i j
  have hs : ((s.reprice i).term j).state = (s.term j).state ∧ ((s.reprice i).term j).current = (s.term j).current ∧
      ((s.reprice i).term j).chainHead = (s.term j).chainHead := by
    rw [h]; split
    · next e => subst e; exact ⟨rfl, rfl, rfl⟩
    · exact ⟨rfl, rfl, rfl⟩
  exact needWith_congr (congrArg _ hs.1) hs.2.1 (chain_congr hs.2.2 fun _ => rfl) rfl rfl fun f _ => ⟨Iff.rfl, rfl⟩

/-- A terminal repriced holds the needs of R107. -/
theorem reprice_need (x : Direction) : ((s.reprice i).term i).need x = (s.reprice i).needWith i x [] := by
  rw [reprice_needWith, reprice_term, if_pos rfl]
  cases x <;> rfl

end

/-! ### A flow that enters WAITING -/

/-- The record of a terminal after a flow of it has entered WAITING (R19). -/
def Terminal.noted (t : Terminal) : Terminal :=
  { t with
    state := if t.state = .inService then .ramping else t.state
    beforeFade := if t.state = .fading then some .ramping else t.beforeFade }

theorem Terminal.noted_serviced (t : Terminal) : t.noted.state.serviced = t.state.serviced := by
  cases h : t.state <;> simp [Terminal.noted, h, TermState.serviced]

/-- The Management Agent after a flow of a terminal has entered WAITING (R19). -/
def State.notedMgmt (s : State) (i : Slot) : Management :=
  if (s.term i).state = .inService then s.notified (.ramping i) else s.mgmt

theorem noteWaiting_term (s : State) (i j : Slot) :
    (s.noteWaiting i).term j = if j = i then (s.term i).noted else s.term j := by
  have self : (s.term i).state ≠ .inService → (s.term i).state ≠ .fading → (s.term i).noted = s.term i :=
    fun h1 h2 => by simp [Terminal.noted, h1, h2]
  unfold State.noteWaiting
  split
  case h_1 h => simp [State.modTerm_term, Terminal.noted, h]
  case h_2 h => simp [State.modTerm_term, Terminal.noted, h]
  all_goals
    next h =>
      rw [self (by simp [h]) (by simp [h])]
      split
      · next e => rw [e]
      · rfl

theorem noteWaiting_mgmt (s : State) (i : Slot) : (s.noteWaiting i).mgmt = s.notedMgmt i := by
  unfold State.noteWaiting State.notedMgmt
  split
  case h_1 h => rw [if_pos h]; rfl
  all_goals
    next h => exact (if_neg (by simp [h])).symm

/-! ### A withdrawn flow -/

section
variable (s : State) (f : FlowIdx) (c : Cause)

theorem withdraw_flow (g : FlowIdx) : (s.withdraw f c).flow g =
    if g = f then { s.flow f with state := .waiting c, credit := 0, marker := none } else s.flow g := by
  simp only [State.withdraw, State.dropCredit, State.makeWaiting, State.modFlow_flow, State.placeReadmission_flow]
  split <;> simp

theorem withdraw_list : (s.withdraw f c).ledger.list = placeByClass (fun g => (s.flow g).cls.val) f s.ledger.list := by
  have h : (fun g => ((s.modFlow f fun r => { r with state := .waiting c }).flow g).cls.val) =
      fun g => (s.flow g).cls.val := by
    funext g
    rw [State.modFlow_flow]
    split
    · next e => rw [e]
    · rfl
  exact congrArg (fun k => placeByClass k f s.ledger.list) h

theorem withdraw_load (x : Direction) : (s.withdraw f c).load x = s.load x := by cases x <;> rfl

end

end Sys2Proof.Machine

namespace Sys2Proof.Machine

/-! ### One flow shed (R111) -/

/-- The record of a flow after it has been shed (R111). -/
def Flow.shedded (r : Flow) : Flow := { r with state := .waiting .shed, credit := 0, marker := none }

theorem raise_mgmt (s : State) (b : NoticeBody) : (s.raise b).mgmt = s.mgmt.take s.setup.enable s.link.frame b := rfl

section
variable (s : State) (x : Direction) (f : FlowIdx)

/-- The state of a shed before its notices are raised. -/
def State.shedQuiet (s : State) (f : FlowIdx) : State := (s.withdraw f .shed).repriceFlow f

theorem shedQuiet_flow (g : FlowIdx) :
    (s.shedQuiet f).flow g = if g = f then (s.flow f).shedded else s.flow g := by
  rw [State.shedQuiet, flow_of_flows ((State.repriceFlow_same _ f) .flows (by decide)), withdraw_flow]
  rfl

theorem shedQuiet_bound : (s.shedQuiet f).flow f = (s.flow f).shedded := by rw [shedQuiet_flow, if_pos rfl]

/-- The needs of the terminal of a flow withdrawn are recomputed, and no other terminal changes (R108). -/
theorem shedQuiet_term (j : Slot) : (s.shedQuiet f).term j = if (s.flow f).bound = some j then
    { s.term j with needUp := (s.withdraw f .shed).needWith j .up []
                    needDown := (s.withdraw f .shed).needWith j .down [] } else s.term j := by
  have hb : ((s.withdraw f .shed).flow f).bound = (s.flow f).bound := by rw [withdraw_flow, if_pos rfl]
  unfold State.shedQuiet State.repriceFlow
  rw [hb]
  cases h : (s.flow f).bound with
  | none => simp only [reduceCtorEq, if_false]; rfl
  | some i =>
    simp only [reprice_term, Option.some.injEq, eq_comm (a := j)]
    split
    · next e => subst e; rfl
    · rfl

theorem shedFlow_eq : s.shedFlow x f =
    ((s.shedQuiet f).raise (.shed f (s.flow f).bound x (s.flow f).cls (s.flowProfile f)
      ((s.shedQuiet f).load x))).noteFlowWaiting f := by
  have hp : (s.shedQuiet f).flowProfile f = s.flowProfile f := by
    simp only [State.flowProfile, shedQuiet_bound]
    cases h : (s.flow f).bound with
    | none => simp [Flow.shedded, h]
    | some i => simp [Flow.shedded, h, shedQuiet_term]
  have hb : ((s.shedQuiet f).flow f).bound = (s.flow f).bound := by rw [shedQuiet_bound]; rfl
  have hc : ((s.shedQuiet f).flow f).cls = (s.flow f).cls := by rw [shedQuiet_bound]; rfl
  rw [← hp, ← hb, ← hc]
  rfl

/-- What follows the notice of a flow that has entered WAITING, by its terminal (R19). -/
theorem noteFlowWaiting_some {s : State} {f : FlowIdx} {i : Slot} (h : (s.flow f).bound = some i) :
    s.noteFlowWaiting f = s.noteWaiting i := by rw [State.noteFlowWaiting, h]

theorem noteFlowWaiting_none {s : State} {f : FlowIdx} (h : (s.flow f).bound = none) :
    s.noteFlowWaiting f = s := by rw [State.noteFlowWaiting, h]

theorem shedFlow_flow (g : FlowIdx) : (s.shedFlow x f).flow g = if g = f then (s.flow f).shedded else s.flow g := by
  rw [shedFlow_eq, flow_of_flows ((State.noteFlowWaiting_same _ f) .flows (by decide)), State.raise_flow, shedQuiet_flow]

theorem shedFlow_list : (s.shedFlow x f).ledger.list = placeByClass (fun g => (s.flow g).cls.val) f s.ledger.list := by
  have h : (s.shedQuiet f).ledger.list = placeByClass (fun g => (s.flow g).cls.val) f s.ledger.list := by
    rw [← withdraw_list s f .shed, State.shedQuiet, State.repriceFlow]
    split <;> rfl
  rw [← h, shedFlow_eq]
  exact congrArg Ledger.list ((State.noteFlowWaiting_same _ f) .ledger (by decide))

theorem shedFlow_load (y : Direction) : (s.shedFlow x f).load y = (s.shedQuiet f).load y := by
  have h : (s.shedFlow x f).ledger = (s.shedQuiet f).ledger := by
    rw [shedFlow_eq]; exact (State.noteFlowWaiting_same _ f) .ledger (by decide)
  cases y <;> simp [State.load, h]

/-- The terminal of a flow shed is noted, its needs recomputed; no other terminal changes (R19, R111). -/
theorem shedFlow_term (j : Slot) : (s.shedFlow x f).term j = if (s.flow f).bound = some j then
    { (s.term j).noted with needUp := (s.withdraw f .shed).needWith j .up []
                            needDown := (s.withdraw f .shed).needWith j .down [] } else s.term j := by
  have hb (b : NoticeBody) : (((s.shedQuiet f).raise b).flow f).bound = (s.flow f).bound := by
    rw [State.raise_flow, shedQuiet_bound]; rfl
  rw [shedFlow_eq]
  cases h : (s.flow f).bound with
  | none => rw [noteFlowWaiting_none ((hb _).trans h)]; simp [shedQuiet_term, h]
  | some i =>
    rw [noteFlowWaiting_some ((hb _).trans h)]
    simp only [noteWaiting_term, State.raise_term, shedQuiet_term, h, Option.some.injEq, eq_comm (a := j)]
    split
    · next e => subst e; rw [if_pos trivial]; rfl
    · rfl

theorem shedFlow_mgmt : (s.shedFlow x f).mgmt =
    (NoticeBody.shed f (s.flow f).bound x (s.flow f).cls (s.flowProfile f) ((s.shedFlow x f).load x) ::
      (((s.flow f).bound.toList.filter fun i => decide ((s.term i).state = .inService)).map .ramping)).foldl
      (fun m b => m.take s.setup.enable s.link.frame b) s.mgmt := by
  have hb (b : NoticeBody) : (((s.shedQuiet f).raise b).flow f).bound = (s.flow f).bound := by
    rw [State.raise_flow, shedQuiet_bound]; rfl
  have hq : SameBut [.terms, .flows, .ledger] s (s.shedQuiet f) :=
    (s.withdraw_same f .shed).then (State.repriceFlow_same _ f) rfl rfl
  have hm : (s.shedQuiet f).mgmt = s.mgmt := hq .mgmt (by decide)
  have hu : (s.shedQuiet f).setup = s.setup := hq .setup (by decide)
  have hl : (s.shedQuiet f).link = s.link := hq .link (by decide)
  rw [shedFlow_load, shedFlow_eq]
  cases h : (s.flow f).bound with
  | none => rw [noteFlowWaiting_none ((hb _).trans h)]; simp [State.raise, hm, hu, hl]
  | some i =>
    rw [noteFlowWaiting_some ((hb _).trans h)]
    have hi : ((s.shedQuiet f).term i).state = (s.term i).state := by rw [shedQuiet_term, if_pos h]
    simp only [noteWaiting_mgmt, State.notedMgmt, State.notified, State.raise_term, hi, State.raise_setup, hu,
      State.raise_link, hl, raise_mgmt, hm]
    by_cases hs : (s.term i).state = .inService <;> simp [hs]

end

/-! ### A run of sheds -/

/-- Whether one of some flows is bound to a terminal. -/
def State.boundAmong (s : State) (l : List FlowIdx) (j : Slot) : Prop := ∃ f ∈ l, (s.flow f).bound = some j

/-- A terminal holds the needs that R107 gives it. -/
def State.holdsNeeds (s : State) (j : Slot) : Prop := ∀ d, (s.term j).need d = s.needWith j d []

/-- The flows of a list have been shed one after another between two states (R19, R111). -/
structure ShedRun (u v : State) (l : List FlowIdx) : Prop where
  flow : ∀ g, v.flow g = if g ∈ l then (u.flow g).shedded else u.flow g
  other : ∀ j, ¬ u.boundAmong l j → v.term j = u.term j
  term : ∀ j, u.boundAmong l j →
    v.term j = { (u.term j).noted with needUp := (v.term j).needUp, needDown := (v.term j).needDown }
  list : PlacedInTurn (fun g => (u.flow g).cls.val) l u.ledger.list v.ledger.list
  same : SameBut [.terms, .flows, .ledger, .mgmt] u v
  loads : LoadsSound u → LoadsSound v
  needs : ChainsSound u → ∀ j, u.holdsNeeds j ∨ u.boundAmong l j → v.holdsNeeds j

theorem Terminal.noted_noted (t : Terminal) : t.noted.noted = t.noted := by
  cases h : t.state <;> simp [Terminal.noted, h]

/-- Chains are sound alike where the links, bindings and classes are alike. -/
theorem ChainsSound.congr {s t : State} (h : ChainsSound s)
    (hf : ∀ f, (t.flow f).bound = (s.flow f).bound ∧ (t.flow f).cls = (s.flow f).cls ∧
      (t.flow f).chainNext = (s.flow f).chainNext)
    (hh : ∀ i, (t.term i).chainHead = (s.term i).chainHead) : ChainsSound t := by
  have hc (i : Slot) : t.chain i = s.chain i := chain_congr (hh i) fun f => (hf f).2.2
  have ho : ChainOrder t = ChainOrder s := by
    funext f g
    simp only [ChainOrder, (hf f).2.1, (hf g).2.1]
  obtain ⟨h1, h2, h3, h4⟩ := h
  refine ⟨fun i f => ?_, fun i => ?_, fun i f hl => ?_, fun f hb => ?_⟩
  · rw [hc, (hf f).1]; exact h1 i f
  · rw [hc, ho]; exact h2 i
  · rw [(hf f).2.2]; exact h3 i f (hc i ▸ hl)
  · rw [(hf f).2.2]; exact h4 f ((hf f).1 ▸ hb)

/-- Placing items one after another, in two parts. -/
theorem PlacedInTurn.append {α : Type} {cls : α → Nat} {xs ys : List α} :
    ∀ {l n m : List α}, PlacedInTurn cls xs l n → PlacedInTurn cls ys n m → PlacedInTurn cls (xs ++ ys) l m := by
  induction xs with
  | nil => intro l n m h k; cases h; exact k
  | cons x rest ih => intro l n m ⟨p, hp, hr⟩ k; exact ⟨p, hp, ih hr k⟩

section
variable {u v w : State} {l l' : List FlowIdx}

theorem ShedRun.fields (h : ShedRun u v l) (f : FlowIdx) : (v.flow f).bound = (u.flow f).bound ∧
    (v.flow f).cls = (u.flow f).cls ∧ (v.flow f).chainNext = (u.flow f).chainNext ∧ (v.flow f).dir = (u.flow f).dir ∧
    (v.flow f).cb = (u.flow f).cb := by
  rw [h.flow]; split <;> exact ⟨rfl, rfl, rfl, rfl, rfl⟩

theorem ShedRun.termFields (h : ShedRun u v l) (j : Slot) : (v.term j).chainHead = (u.term j).chainHead ∧
    (v.term j).current = (u.term j).current ∧ (v.term j).state.serviced = (u.term j).state.serviced := by
  by_cases hj : u.boundAmong l j
  · rw [h.term j hj]; exact ⟨rfl, rfl, Terminal.noted_serviced _⟩
  · rw [h.other j hj]; exact ⟨rfl, rfl, rfl⟩

theorem ShedRun.chain (h : ShedRun u v l) (j : Slot) : v.chain j = u.chain j :=
  chain_congr (h.termFields j).1 fun f => (h.fields f).2.2.1

theorem ShedRun.chainsSound (h : ShedRun u v l) (k : ChainsSound u) : ChainsSound v :=
  k.congr (fun f => ⟨(h.fields f).1, (h.fields f).2.1, (h.fields f).2.2.1⟩) fun i => (h.termFields i).1

theorem ShedRun.boundAmong_iff (h : ShedRun u v l) (j : Slot) : v.boundAmong l' j ↔ u.boundAmong l' j := by
  simp only [State.boundAmong, (h.fields _).1]

/-- The order of R111 reads what sheds do not change. -/
theorem ShedRun.order (h : ShedRun u v l) : ShedOrder v = ShedOrder u := by
  have hp (g : FlowIdx) : (v.flow g).bound.bind (fun j => (v.term j).current) =
      (u.flow g).bound.bind fun j => (u.term j).current := by
    rw [(h.fields g).1]
    exact congrArg _ (funext fun j => (h.termFields j).2.1)
  funext f g
  simp only [ShedOrder, hp, (h.fields f).2.1, (h.fields g).2.1]

/-- A need after sheds, the flows shed counted besides as far as they are of its direction. -/
theorem ShedRun.needWith (h : ShedRun u v l) {x : Direction} {extra : List FlowIdx}
    (hl : ∀ f ∈ l, (u.flow f).state = .admitted) (he : ∀ f, (u.flow f).dir = x → (f ∈ extra ↔ f ∈ l)) (j : Slot) :
    v.needWith j x extra = u.needWith j x [] := by
  refine needWith_congr (h.termFields j).2.2 (h.termFields j).2.1 (h.chain j)
    (congrArg Setup.m (h.same .setup (by decide))) (h.same .profiles (by decide))
    fun f _ => ⟨?_, (h.fields f).2.2.2.2⟩
  simp only [State.counts, (h.fields f).2.2.2.1]
  refine and_congr_right fun hd => ?_
  rw [he f hd, h.flow]
  by_cases hf : f ∈ l <;> simp [hf, hl]

theorem ShedRun.refl (u : State) : ShedRun u u [] where
  flow g := by simp
  other j _ := rfl
  term j h := by obtain ⟨f, hf, -⟩ := h; cases hf
  list := rfl
  same := SameBut.refl _ u
  loads h := h
  needs _ j h := h.elim id fun ⟨f, hf, _⟩ => by cases hf

theorem ShedRun.append (h : ShedRun u v l) (k : ShedRun v w l') : ShedRun u w (l ++ l') where
  flow g := by
    rw [k.flow, h.flow]
    by_cases h1 : g ∈ l <;> by_cases h2 : g ∈ l' <;> simp [h1, h2, Flow.shedded]
  other j hj := by
    have h1 : ¬ u.boundAmong l j := fun ⟨f, hf, hb⟩ => hj ⟨f, by simp [hf], hb⟩
    have h2 : ¬ v.boundAmong l' j := fun hh => by
      obtain ⟨f, hf, hb⟩ := (h.boundAmong_iff j).mp hh
      exact hj ⟨f, by simp [hf], hb⟩
    rw [k.other j h2, h.other j h1]
  term j hj := by
    by_cases h2 : v.boundAmong l' j
    · rw [k.term j h2]
      by_cases h1 : u.boundAmong l j
      · rw [h.term j h1]
        have e := Terminal.noted_noted (u.term j)
        simp only [Terminal.noted] at e ⊢
        simp only [Terminal.mk.injEq, true_and, and_true] at e ⊢
        exact e
      · rw [h.other j h1]
    · have h1 : u.boundAmong l j := by
        obtain ⟨f, hf, hb⟩ := hj
        rcases List.mem_append.mp hf with hf | hf
        · exact ⟨f, hf, hb⟩
        · exact absurd ((h.boundAmong_iff j).mpr ⟨f, hf, hb⟩) h2
      rw [k.other j h2, h.term j h1]
  list := by
    have hc : (fun g => (v.flow g).cls.val) = fun g => (u.flow g).cls.val :=
      funext fun g => congrArg Fin.val (h.fields g).2.1
    exact h.list.append (hc ▸ k.list)
  same := h.same.then k.same rfl rfl
  loads hu := k.loads (h.loads hu)
  needs hu j hj := by
    refine k.needs (h.chainsSound hu) j ?_
    rcases hj with hj | ⟨f, hf, hb⟩
    · exact .inl (h.needs hu j (.inl hj))
    · rcases List.mem_append.mp hf with hf | hf
      · exact .inl (h.needs hu j (.inr ⟨f, hf, hb⟩))
      · exact .inr ((h.boundAmong_iff j).mpr ⟨f, hf, hb⟩)

end

/-- One flow shed is a run of one. -/
theorem shedFlow_run (s : State) (x : Direction) (f : FlowIdx) : ShedRun s (s.shedFlow x f) [f] := by
  have among (j : Slot) : s.boundAmong [f] j ↔ (s.flow f).bound = some j := by simp [State.boundAmong]
  have hflow (g : FlowIdx) := shedFlow_flow s x f g
  have hterm (j : Slot) := shedFlow_term s x f j
  have hsame := s.shedFlow_same x f
  have hfields (g : FlowIdx) : ((s.shedFlow x f).flow g).chainNext = (s.flow g).chainNext ∧
      ((s.shedFlow x f).flow g).cb = (s.flow g).cb := by
    rw [hflow]; split
    · next e => subst e; exact ⟨rfl, rfl⟩
    · exact ⟨rfl, rfl⟩
  have hchain (j : Slot) : (s.shedFlow x f).chain j = s.chain j := by
    refine chain_congr ?_ fun g => (hfields g).1
    rw [hterm]; split <;> rfl
  refine ⟨fun g => ?_, fun j hj => ?_, fun j hj => ?_, ?_, hsame, fun hl => ?_, fun hc j hj => ?_⟩
  · rw [hflow]
    by_cases e : g = f
    · subst e; simp
    · simp [e]
  · rw [hterm, if_neg fun h => hj ((among j).mpr h)]
  · rw [hterm, if_pos ((among j).mp hj)]
  · exact ⟨_, shedFlow_list s x f ▸ placeByClass_placed _ _ _, rfl⟩
  · cases hb : (s.flow f).bound with
    | none =>
      refine hl.congr (fun y => ?_) fun i y => ?_
      · have : s.shedQuiet f = s.withdraw f .shed := by
          have hb' : ((s.withdraw f .shed).flow f).bound = none := by rw [withdraw_flow, if_pos rfl]; exact hb
          simp [State.shedQuiet, State.repriceFlow, hb']
        rw [shedFlow_load, this, withdraw_load]
      · rw [hterm, hb]; rfl
    | some i =>
      have hb' : ((s.withdraw f .shed).flow f).bound = some i := by rw [withdraw_flow, if_pos rfl]; exact hb
      have hq : s.shedQuiet f = (s.withdraw f .shed).reprice i := by simp [State.shedQuiet, State.repriceFlow, hb']
      refine (reprice_loadsSound (s.withdraw f .shed) i).congr (fun y => ?_) fun j y => ?_
      · rw [shedFlow_load, hq]
      · rw [← hq, hterm, shedQuiet_term]
        split <;> cases y <;> rfl
  · intro d
    by_cases hb : (s.flow f).bound = some j
    · have hw : (s.shedFlow x f).needWith j d [] = (s.withdraw f .shed).needWith j d [] := by
        have hwf (g : FlowIdx) : (s.shedFlow x f).flow g = (s.withdraw f .shed).flow g := by
          rw [hflow, withdraw_flow]; rfl
        have hwt : (s.withdraw f .shed).term j = s.term j :=
          term_of_terms ((s.withdraw_same f .shed) .terms (by decide)) j
        refine needWith_congr ?_ ?_ (chain_congr ?_ fun g => congrArg _ (hwf g)) (congrArg Setup.m (hsame .setup (by decide)))
          (hsame .profiles (by decide)) fun g _ => ?_
        · rw [hwt, hterm, if_pos hb]; exact Terminal.noted_serviced _
        · rw [hwt, hterm, if_pos hb]; rfl
        · rw [hwt, hterm, if_pos hb]; rfl
        · simp only [State.counts, hwf, and_self, iff_self]
      rw [hw, hterm, if_pos hb]
      cases d <;> rfl
    · have hf : f ∉ s.chain j := fun hh => hb ((hc.1 j f).mp hh)
      have ht : (s.shedFlow x f).term j = s.term j := by rw [hterm, if_neg hb]
      have hn : s.holdsNeeds j := hj.resolve_right fun h => hb ((among j).mp h)
      rw [ht, hn d]
      refine (needWith_congr (by rw [ht]) (by rw [ht]) (hchain j) (congrArg Setup.m (hsame .setup (by decide)))
        (hsame .profiles (by decide)) fun g hg => ?_).symm
      have hgf : g ≠ f := fun e => hf (e ▸ hg)
      simp only [State.counts, hflow, if_neg hgf, iff_self, and_self]

end Sys2Proof.Machine

namespace Sys2Proof.Machine

/-! ### The order of shedding (R111) -/

theorem shedProfile_eq (s : State) (f : FlowIdx) :
    s.shedProfile f = (((s.flow f).bound.bind fun j => (s.term j).current).map Fin.val).getD 0 := by
  unfold State.shedProfile State.flowProfile
  split
  · next h => rw [h]; rfl
  · next h => rw [h]; rfl

theorem shedBefore_iff (s : State) (f g : FlowIdx) : s.shedBefore f g = true ↔ ShedOrder s f g := by
  simp only [State.shedBefore, ShedOrder, ← shedProfile_eq]
  split_ifs with h1 h2
  · simp [h1, h2]
  · simp [h1, h2]
  · simp [h1]

theorem shedOrder_iff {s : State} {f g : FlowIdx} : ShedOrder s f g ↔ (s.flow g).cls.val < (s.flow f).cls.val ∨
    (s.flow f).cls.val = (s.flow g).cls.val ∧ (s.shedProfile f < s.shedProfile g ∨
      s.shedProfile f = s.shedProfile g ∧ g.val < f.val) := by
  simp only [ShedOrder, ← shedProfile_eq, Fin.lt_def, Fin.ext_iff]

theorem ShedOrder.trans {s : State} {f g h : FlowIdx} (h1 : ShedOrder s f g) (h2 : ShedOrder s g h) :
    ShedOrder s f h := by
  rw [shedOrder_iff] at *
  omega

theorem ShedOrder.total {s : State} {f g : FlowIdx} (h : f ≠ g) : ShedOrder s f g ∨ ShedOrder s g f := by
  have hne := Fin.val_ne_of_ne h
  rw [shedOrder_iff, shedOrder_iff]
  omega

theorem ShedOrder.irrefl (s : State) (f : FlowIdx) : ¬ ShedOrder s f f := by
  rw [shedOrder_iff]
  omega

/-- The first flow by the keys of R111 stands in the list, and every other one comes after it. -/
theorem shedFirst_spec (s : State) (l : List FlowIdx) : ∀ f, s.shedFirst l = some f →
    f ∈ l ∧ ∀ g ∈ l, g ≠ f → ShedOrder s f g := by
  induction l with
  | nil => intro f h; cases h
  | cons a rest ih =>
    intro f h
    rw [State.shedFirst] at h
    cases e : s.shedFirst rest with
    | none =>
      rw [e] at h
      cases h
      have hr : rest = [] := by
        cases rest with
        | nil => rfl
        | cons b r =>
          rw [State.shedFirst] at e
          cases hb : s.shedFirst r <;> simp [hb] at e
          split at e <;> cases e
      subst hr
      exact ⟨by simp, fun g hg hne => absurd (by simpa using hg) hne⟩
    | some b =>
      obtain ⟨hb, hord⟩ := ih b e
      rw [e] at h
      simp only at h
      split at h
      · next k =>
        cases h
        have hab := (shedBefore_iff s _ b).mp k
        refine ⟨by simp, fun g hg hne => ?_⟩
        have hg := (List.mem_cons.mp hg).resolve_left hne
        by_cases hgb : g = b
        · exact hgb ▸ hab
        · exact hab.trans (hord g hg hgb)
      · next k =>
        cases h
        refine ⟨by simp [hb], fun g hg hne => ?_⟩
        rcases List.mem_cons.mp hg with rfl | hg
        · exact (ShedOrder.total hne).resolve_left fun hh => k ((shedBefore_iff s _ _).mpr hh)
        · exact hord g hg hne

theorem mem_admittedFlows (s : State) (x : Direction) (f : FlowIdx) :
    f ∈ s.admittedFlows x ↔ (s.flow f).dir = x ∧ (s.flow f).state = .admitted := by
  rw [State.admittedFlows, Table.mem_keys _ _ _ (by simp [FlowState.isAdmitted])]
  rw [show s.flows.get f = s.flow f from rfl]
  cases (s.flow f).state <;> simp [FlowState.isAdmitted]

/-! ### The flows that a shedding takes -/

/-- The state after the flows of a list have been shed one after another, each in its direction. -/
def State.shedAll (s : State) (l : List FlowIdx) : State := l.foldl (fun s f => s.shedFlow (s.flow f).dir f) s

theorem shedAll_append (s : State) (l l' : List FlowIdx) : s.shedAll (l ++ l') = (s.shedAll l).shedAll l' :=
  List.foldl_append

theorem shedAll_run (l : List FlowIdx) : ∀ s : State, ShedRun s (s.shedAll l) l := by
  induction l with
  | nil => exact ShedRun.refl
  | cons f rest ih => exact fun s => (shedFlow_run s _ f).append (ih _)

/-- A bounded shedding takes some ADMITTED flows of its direction, in the order of R111. -/
theorem shedLoop_takes (x : Direction) (n : Nat) : ∀ s : State, ∃ l, State.shedLoop x n s = s.shedAll l ∧
    (∀ f ∈ l, (s.flow f).dir = x ∧ (s.flow f).state = .admitted) ∧ l.Pairwise (ShedOrder s) := by
  induction n with
  | zero => exact fun s => ⟨[], rfl, by simp, .nil⟩
  | succ n ih =>
    intro s
    rw [State.shedLoop]
    split
    · exact ⟨[], rfl, by simp, .nil⟩
    · split
      · exact ⟨[], rfl, by simp, .nil⟩
      · next f hf =>
        obtain ⟨hmem, hord⟩ := shedFirst_spec s _ f hf
        obtain ⟨hd, ha⟩ := (mem_admittedFlows s x f).mp hmem
        have run := shedFlow_run s x f
        obtain ⟨l, hl, htake, hpair⟩ := ih (s.shedFlow x f)
        have later (g : FlowIdx) (hg : g ∈ l) : g ≠ f ∧ (s.flow g).dir = x ∧ (s.flow g).state = .admitted := by
          have hg := htake g hg
          rw [run.flow] at hg
          by_cases e : g = f
          · subst e; simp [Flow.shedded] at hg
          · exact ⟨e, by simpa [e] using hg⟩
        refine ⟨f :: l, ?_, fun g hg => ?_, ?_⟩
        · rw [hl]; show _ = (s.shedFlow (s.flow f).dir f).shedAll l; rw [hd]
        · rcases List.mem_cons.mp hg with rfl | hg
          · exact ⟨hd, ha⟩
          · exact (later g hg).2
        · refine List.pairwise_cons.mpr ⟨fun g hg => ?_, run.order ▸ hpair⟩
          obtain ⟨hne, hg⟩ := later g hg
          exact hord g ((mem_admittedFlows s x g).mpr hg) hne

/-- The flows that a shedding takes: ADMITTED ones, upstream and then downstream, each in the order of R111. -/
structure Takes (s : State) (up down : List FlowIdx) : Prop where
  upTaken : ∀ f ∈ up, (s.flow f).dir = .up ∧ (s.flow f).state = .admitted
  downTaken : ∀ f ∈ down, (s.flow f).dir = .down ∧ (s.flow f).state = .admitted
  upOrder : up.Pairwise (ShedOrder s)
  downOrder : down.Pairwise (ShedOrder s)

theorem shedToFit_takes (s : State) : ∃ up down, s.shedToFit = s.shedAll (up ++ down) ∧ Takes s up down := by
  obtain ⟨up, hu, tu, ou⟩ := shedLoop_takes .up (s.admittedFlows .up).length s
  have hfit : s.fit .up = s.shedAll up := hu
  obtain ⟨down, hd, td, od⟩ := shedLoop_takes .down ((s.fit .up).admittedFlows .down).length (s.fit .up)
  have run : ShedRun s (s.fit .up) up := hfit ▸ shedAll_run up s
  refine ⟨up, down, ?_, tu, fun f hf => ?_, ou, run.order ▸ od⟩
  · rw [shedAll_append, ← hfit]; exact hd
  · have h := td f hf
    rw [run.flow] at h
    by_cases e : f ∈ up
    · simp [e, Flow.shedded] at h
    · simpa [e] using h

section
variable {s : State} {up down : List FlowIdx}

theorem Takes.admitted (h : Takes s up down) (f : FlowIdx) (hf : f ∈ up ++ down) : (s.flow f).state = .admitted :=
  (List.mem_append.mp hf).elim (fun k => (h.upTaken f k).2) fun k => (h.downTaken f k).2

theorem nodup_of_shedOrder {l : List FlowIdx} (h : l.Pairwise (ShedOrder s)) : l.Nodup :=
  List.Pairwise.imp (S := (· ≠ ·)) (fun {f _} k (e : f = _) => ShedOrder.irrefl s f (by rwa [← e] at k)) h

theorem Takes.nodup (h : Takes s up down) : (up ++ down).Nodup :=
  List.nodup_append.mpr ⟨nodup_of_shedOrder h.upOrder, nodup_of_shedOrder h.downOrder, fun f hf g hg e => by
    have h1 := (h.upTaken f hf).1
    rw [e, (h.downTaken g hg).1] at h1
    cases h1⟩

end

/-! ### What is told of a shedding -/

/-- The load that the CAPACITY notice of a flow carries: that after the flow has been shed (R111). -/
def State.loadAfter (s : State) (l : List FlowIdx) (f : FlowIdx) : Nat :=
  (s.shedAll (l.takeWhile (fun g => decide (g ≠ f)) ++ [f])).load (s.flow f).dir

theorem takeWhile_ne_of_nodup {pre post : List FlowIdx} {f : FlowIdx} (h : (pre ++ f :: post).Nodup) :
    (pre ++ f :: post).takeWhile (fun g => decide (g ≠ f)) = pre := by
  have hp : ∀ g ∈ pre, decide (g ≠ f) = true := by
    intro g hg
    exact decide_eq_true fun e => (List.nodup_append.mp h).2.2 g hg f (by simp) e
  rw [List.takeWhile_append_of_pos hp]
  simp

theorem loadAfter_eq {s : State} {pre post : List FlowIdx} {f : FlowIdx} (h : (pre ++ f :: post).Nodup) :
    s.loadAfter (pre ++ f :: post) f = (s.shedAll (pre ++ [f])).load (s.flow f).dir := by
  rw [State.loadAfter, takeWhile_ne_of_nodup h]

/-- The notices of a run of sheds, in their order, where what they read is as in the states given. -/
theorem shedAll_mgmt {s t : State} {load : FlowIdx → Nat} (l : List FlowIdx) : ∀ (earlier : List FlowIdx) (u : State),
    (∀ f ∈ l, (u.flow f).bound = (s.flow f).bound ∧ (u.flow f).dir = (s.flow f).dir ∧
      (u.flow f).cls = (s.flow f).cls) →
    (∀ j, (u.term j).current = (t.term j).current) →
    (∀ j, (u.term j).state = .inService ↔ (s.term j).state = .inService ∧ ∀ g ∈ earlier, (s.flow g).bound ≠ some j) →
    (∀ pre f post, l = pre ++ f :: post → load f = (u.shedAll (pre ++ [f])).load (s.flow f).dir) →
    (u.shedAll l).mgmt =
      (shedNotices s t load earlier l).foldl (fun m b => m.take u.setup.enable u.link.frame b) u.mgmt := by
  induction l with
  | nil => exact fun _ _ _ _ _ _ => rfl
  | cons f rest ih =>
    intro earlier u hf hc hs hl
    obtain ⟨hb, hd, hk⟩ := hf f (by simp)
    have run := shedFlow_run u (u.flow f).dir f
    have hload : load f = (u.shedFlow (u.flow f).dir f).load (u.flow f).dir := by
      rw [hl [] f rest rfl, ← hd]; rfl
    have hprof : u.flowProfile f = (s.flow f).bound.bind fun j => (t.term j).current := by
      rw [State.flowProfile, hb]
      exact congrArg _ (funext hc)
    have hfilter : ((u.flow f).bound.toList.filter fun i => decide ((u.term i).state = .inService)) =
        (s.flow f).bound.toList.filter fun i => decide ((s.term i).state = .inService) &&
          earlier.all fun g => decide ((s.flow g).bound ≠ some i) := by
      rw [hb]
      refine List.filter_congr fun i _ => ?_
      rw [Bool.eq_iff_iff]
      simp [hs i]
    have hfirst := shedFlow_mgmt u (u.flow f).dir f
    rw [hfilter, hprof, ← hload, hb, hk] at hfirst
    have hrest := ih (f :: earlier) (u.shedFlow (u.flow f).dir f) (fun g hg => ?_) (fun j => ?_) (fun j => ?_)
      (fun pre g post e => ?_)
    · show ((u.shedFlow (u.flow f).dir f).shedAll rest).mgmt = _
      rw [hrest, show (u.shedFlow (u.flow f).dir f).setup = u.setup from run.same .setup (by decide),
        show (u.shedFlow (u.flow f).dir f).link = u.link from run.same .link (by decide), hfirst, ← List.foldl_append,
        shedNotices, hd]
      rfl
    · have := run.fields g
      have hg := hf g (by simp [hg])
      exact ⟨this.1.trans hg.1, this.2.2.2.1.trans hg.2.1, this.2.1.trans hg.2.2⟩
    · rw [(run.termFields j).2.1, hc j]
    · by_cases hj : u.boundAmong [f] j
      · have hbj : (s.flow f).bound = some j := by
          obtain ⟨g, hg, hbg⟩ := hj
          rw [List.mem_singleton.mp hg] at hbg
          rw [← hb, hbg]
        have hne : ((u.shedFlow (u.flow f).dir f).term j).state ≠ .inService := by
          rw [run.term j hj]
          cases h : (u.term j).state <;> simp [Terminal.noted, h]
        simp [hne, hbj]
      · have hbj : (s.flow f).bound ≠ some j := fun e => hj ⟨f, by simp, by rw [hb, e]⟩
        rw [run.other j hj, hs j]
        simp [hbj]
    · rw [hl (f :: pre) g post (by rw [e]; rfl)]
      rfl

/-- The base from which a shedding begins reads like the state in which its command or event is taken: the flows, the
Readmission List, the chain heads, and which terminals are IN_SERVICE. -/
structure ShedBase (s b : State) : Prop where
  flows : b.flows = s.flows
  list : b.ledger.list = s.ledger.list
  link : b.link = s.link
  heads : ∀ j, (b.term j).chainHead = (s.term j).chainHead
  inService : ∀ j, (b.term j).state = .inService ↔ (s.term j).state = .inService
  needs : NeedsSound s → LoadsSound s → NeedsSound b ∧ LoadsSound b

section
variable {s b : State} {up down : List FlowIdx}

theorem ShedBase.flow (h : ShedBase s b) (f : FlowIdx) : b.flow f = s.flow f := flow_of_flows h.flows f

theorem ShedBase.wasShed (h : ShedBase s b) (k : Takes b up down) (f : FlowIdx) :
    WasShed s (b.shedAll (up ++ down)) f ↔ f ∈ up ++ down := by
  rw [WasShed, (shedAll_run _ b).flow, ← h.flow]
  split
  · next hf => simp [hf, k.admitted f hf, Flow.shedded]
  · next hf => simp [hf]

/-- The load in a notice, by the needs of the end with the flows shed after it counted (R111, R125). -/
theorem ShedBase.load_eq (h : ShedBase s b) (k : Takes b up down) (hc : ChainsSound s) (hn : NeedsSound s)
    (hl : LoadsSound s) {pre post later : List FlowIdx} {x : Direction}
    (e : up ++ down = pre ++ post) (he : ∀ f, (b.flow f).dir = x → (f ∈ later ↔ f ∈ post)) :
    (b.shedAll pre).load x = ((List.finRange 256).map fun i => (b.shedAll (up ++ down)).needWith i x later).sum := by
  obtain ⟨hnb, hlb⟩ := h.needs hn hl
  have hcb : ChainsSound b := hc.congr (fun f => by rw [h.flow]; exact ⟨rfl, rfl, rfl⟩) h.heads
  have first := shedAll_run pre b
  have second := shedAll_run post (b.shedAll pre)
  have disjoint : ∀ f ∈ post, f ∉ pre := fun f hf hp =>
    (List.nodup_append.mp (e ▸ k.nodup)).2.2 f hp f hf rfl
  have admitted : ∀ f ∈ post, ((b.shedAll pre).flow f).state = .admitted := fun f hf => by
    rw [first.flow, if_neg (disjoint f hf)]
    exact k.admitted f (e ▸ List.mem_append_right _ hf)
  rw [(loadsSound_iff _).mp (first.loads hlb), e, shedAll_append]
  refine congrArg List.sum (List.map_congr_left fun i _ => ?_)
  rw [second.needWith admitted fun f hf => he f ((first.fields f).2.2.2.1.symm.trans hf)]
  exact first.needs hcb i (.inl (hnb i)) x

/-- The flows shed are listed and told (R111, R125). -/
theorem ShedBase.told (h : ShedBase s b) (k : Takes b up down) :
    ShedTold s (b.shedAll (up ++ down)) b.mgmt (b.shedAll (up ++ down)).mgmt := by
  have run := shedAll_run (up ++ down) b
  have hmem (f : FlowIdx) := h.wasShed k f
  have hcls : (fun g => (b.flow g).cls.val) = fun g => (s.flow g).cls.val := funext fun g => by rw [h.flow]
  refine ⟨up, down, b.loadAfter (up ++ down), fun f => ?_, run.order ▸ k.upOrder, fun f => ?_, run.order ▸ k.downOrder,
    ?_, ?_, fun hc hn hl x f earlier later e => ?_⟩
  · rw [hmem, ← h.flow]
    refine ⟨fun hf => ⟨by simp [hf], (k.upTaken f hf).1⟩, fun ⟨hf, hd⟩ => (List.mem_append.mp hf).resolve_right fun hf => ?_⟩
    rw [(k.downTaken f hf).1] at hd; cases hd
  · rw [hmem, ← h.flow]
    refine ⟨fun hf => ⟨by simp [hf], (k.downTaken f hf).1⟩, fun ⟨hf, hd⟩ => (List.mem_append.mp hf).resolve_left fun hf => ?_⟩
    rw [(k.upTaken f hf).1] at hd; cases hd
  · rw [← hcls, ← h.list]; exact run.list
  · rw [show (b.shedAll (up ++ down)).setup = b.setup from run.same .setup (by decide), ← h.link]
    refine shedAll_mgmt (up ++ down) [] b (fun f _ => by rw [h.flow]; exact ⟨rfl, rfl, rfl⟩)
      (fun j => ((run.termFields j).2.1).symm) (fun j => by simp [h.inService j]) fun pre f post e => ?_
    rw [e, loadAfter_eq (e ▸ k.nodup), h.flow]
  · cases x with
    | up =>
      simp only [if_true] at e
      have hsplit : up ++ down = (earlier ++ [f]) ++ (later ++ down) := by rw [e]; simp
      have hall : up ++ down = earlier ++ f :: (later ++ down) := by rw [e]; simp
      have hd : (b.flow f).dir = .up := (k.upTaken f (by simp [e])).1
      have hl' := h.load_eq k hc hn hl (x := .up) (later := later) hsplit fun g hg =>
        ⟨fun hg => by simp [hg], fun hh => (List.mem_append.mp hh).resolve_right fun hg' => by
          rw [(k.downTaken g hg').1] at hg; cases hg⟩
      rw [← hl', hall, loadAfter_eq (hall ▸ k.nodup), hd]
    | down =>
      simp only [reduceCtorEq, if_false] at e
      have hsplit : up ++ down = (up ++ earlier ++ [f]) ++ later := by rw [e]; simp
      have hall : up ++ down = (up ++ earlier) ++ f :: later := by rw [e]; simp
      have hd : (b.flow f).dir = .down := (k.downTaken f (by simp [e])).1
      have hl' := h.load_eq k hc hn hl (x := .down) (later := later) hsplit fun g _ => Iff.rfl
      rw [← hl', hall, loadAfter_eq (hall ▸ k.nodup), hd]

end

/-! ### A profile change handed on (R50, R112) -/

section
variable {s b : State} {i : Slot} {x : Terminal}

/-- A terminal whose record has been replaced, its chain head and whether it is IN_SERVICE kept, is repriced: the base of
a shedding. -/
theorem shedBase_reprice (hb : b.term i = x) (ho : OtherTerms i s b)
    (hsame : SameBut [.terms, .reentry, .mgmt, .counters] s b)
    (hh : x.chainHead = (s.term i).chainHead) (hi : x.state = .inService ↔ (s.term i).state = .inService) :
    ShedBase s (b.reprice i) := by
  have hterm (j : Slot) := reprice_term b i j
  have hflows : b.flows = s.flows := hsame .flows (by decide)
  have hled : b.ledger = s.ledger := hsame .ledger (by decide)
  refine ⟨hflows, (reprice_list b i).trans (congrArg Ledger.list hled), hsame .link (by decide), fun j => ?_, fun j => ?_, fun hn hl =>
    ⟨fun j y => ?_, reprice_loadsSound _ _⟩⟩
  · rw [hterm]; split
    · next e => subst e; rw [hb]; exact hh
    · next e => rw [ho j e]
  · rw [hterm]; split
    · next e => subst e; rw [hb]; exact hi
    · next e => rw [ho j e]
  · by_cases e : j = i
    · subst e; exact reprice_need b j y
    · have ht : b.term j = s.term j := ho j e
      rw [reprice_needWith, hterm, if_neg e, ht, hn j y]
      exact (needWith_congr (by rw [ht]) (by rw [ht])
        (chain_congr (by rw [ht]) fun f => congrArg Flow.chainNext (flow_of_flows hflows f))
        (congrArg Setup.m (hsame .setup (by decide))) (hsame .profiles (by decide)) fun f _ => by
          simp only [State.counts, flow_of_flows hflows, iff_self, and_self]).symm

/-- A terminal whose record has been replaced, its chain head and whether it is IN_SERVICE kept, is repriced and flows are
shed until the loads fit: its profile has changed, or it has entered service (R50, R112, R117). -/
theorem profileChanged_shedToFit (hb : b.term i = x) (ho : OtherTerms i s b)
    (hsame : SameBut [.terms, .reentry, .mgmt, .counters] s b)
    (hh : x.chainHead = (s.term i).chainHead) (hi : x.state = .inService ↔ (s.term i).state = .inService) :
    ProfileChanged s (b.reprice i).shedToFit i x b.mgmt (b.reprice i).shedToFit.mgmt := by
  have base := shedBase_reprice hb ho hsame hh hi
  obtain ⟨up, down, e, k⟩ := shedToFit_takes (b.reprice i)
  have run := shedAll_run (up ++ down) (b.reprice i)
  have hterm (j : Slot) := reprice_term b i j
  have told := base.told k
  have hmem (f : FlowIdx) := base.wasShed k f
  rw [← e] at run told hmem
  have from_iff (j : Slot) : (∃ f, WasShed s (b.reprice i).shedToFit f ∧ (s.flow f).bound = some j) ↔
      (b.reprice i).boundAmong (up ++ down) j := by
    simp only [hmem, State.boundAmong, base.flow]
  have hrec (j : Slot) : ∃ nu nd, (b.reprice i).term j =
      { (if j = i then x else s.term j) with needUp := nu, needDown := nd } := by
    by_cases ej : j = i
    · rw [if_pos ej, hterm, if_pos ej, hb]; exact ⟨_, _, rfl⟩
    · rw [if_neg ej, hterm, if_neg ej, ho j ej]; exact ⟨_, _, rfl⟩
  refine ⟨⟨fun f => ?_, fun j => ⟨fun hr hs => ?_, ?_, fun hs => ?_, fun hs => ?_, fun hc hrs d => ?_⟩, told⟩,
    run.loads (reprice_loadsSound _ _)⟩
  · rw [run.flow, base.flow]
    split
    · next hf => exact .inr ⟨((hmem f).mpr hf).1, rfl⟩
    · exact .inl rfl
  · rw [run.other j (fun h => hs ((from_iff j).mpr h)), hterm, if_neg hr]
    exact (ho j hr).trans (if_neg hr).symm
  · obtain ⟨nu, nd, h⟩ := hrec j
    by_cases hs : (b.reprice i).boundAmong (up ++ down) j
    · rw [run.term j hs, h]; rfl
    · rw [run.other j hs, h]
  · obtain ⟨nu, nd, h⟩ := hrec j
    rw [run.other j fun h => hs ((from_iff j).mpr h), h]
    exact ⟨rfl, rfl⟩
  · obtain ⟨nu, nd, h⟩ := hrec j
    rw [run.term j ((from_iff j).mp hs), h]
    exact ⟨rfl, rfl⟩
  · have hcb : ChainsSound (b.reprice i) := hc.congr (fun f => by rw [base.flow]; exact ⟨rfl, rfl, rfl⟩) base.heads
    refine run.needs hcb j ?_ d
    rcases hrs with rfl | hs
    · exact .inl fun y => reprice_need b j y
    · exact .inr ((from_iff j).mp hs)

end

end Sys2Proof.Machine

namespace Sys2Proof.Machine

/-! ### A profile change and the window of its terminal -/

/-- The notices of a shedding read only the current profiles of the state it ends in. -/
theorem shedNotices_congr {s t u : State} (h : ∀ j, (u.term j).current = (t.term j).current)
    (load : FlowIdx → Nat) (l : List FlowIdx) : ∀ earlier,
    shedNotices s u load earlier l = shedNotices s t load earlier l := by
  induction l with
  | nil => exact fun _ => rfl
  | cons f rest ih =>
    intro earlier
    rw [shedNotices, shedNotices, ih, funext h]

/-- A profile change stays one where the window of its terminal is replaced afterwards, which no need, no load, no order
of shedding and no notice reads. -/
theorem ProfileChanged.withWindow {s t u : State} {i : Slot} {x : Terminal} {m m' : Management}
    (h : ProfileChanged s t i x m m') (w : Window) (hi : u.term i = { t.term i with window := w })
    (ho : OtherTerms i t u) (hsame : SameBut [.terms, .reentry, .mgmt, .counters] t u) :
    ProfileChanged s u i { x with window := w } m m' := by
  obtain ⟨⟨hflow, hterm, up, down, load, hup, oup, hdown, odown, hlist, hm, hload⟩, hloads⟩ := h
  have hrec (j : Slot) : u.term j = { t.term j with window := if j = i then w else (t.term j).window } := by
    by_cases e : j = i
    · subst e; rw [hi, if_pos rfl]
    · rw [ho j e, if_neg e]
  have hf : u.flows = t.flows := hsame .flows (by decide)
  have hled : u.ledger = t.ledger := hsame .ledger (by decide)
  have hfl (f : FlowIdx) : u.flow f = t.flow f := flow_of_flows hf f
  have hcur (j : Slot) : (u.term j).current = (t.term j).current := by rw [hrec]
  have hneed (j : Slot) (d : Direction) : (u.term j).need d = (t.term j).need d := by rw [hrec]; cases d <;> rfl
  have hwith (j : Slot) (d : Direction) (l : List FlowIdx) : u.needWith j d l = t.needWith j d l :=
    needWith_congr (by rw [hrec]) (hcur j) (chain_congr (by rw [hrec]) fun f => by rw [hfl])
      (congrArg Setup.m (hsame .setup (by decide))) (hsame .profiles (by decide)) fun f _ => by
        simp only [State.counts, hfl, iff_self, and_self]
  have hshed (f : FlowIdx) : WasShed s u f ↔ WasShed s t f := by rw [WasShed, WasShed, hfl]
  have horder : ShedOrder u = ShedOrder t := by
    funext f g
    simp only [ShedOrder, hfl, funext hcur]
  refine ⟨⟨fun f => by rw [hfl]; exact hflow f, fun j => ?_, up, down, load, by simpa only [hshed] using hup,
    horder ▸ oup, by simpa only [hshed] using hdown, horder ▸ odown, by rw [hled]; exact hlist, ?_, ?_⟩,
    hloads.congr (fun y => by cases y <;> simp [State.load, hled]) hneed⟩
  · have hj := hterm j
    by_cases e : j = i
    · subst e
      simp only [if_true, hshed, hwith, hi] at hj ⊢
      obtain ⟨-, h2, h3, h4, h5⟩ := hj
      exact ⟨fun hn => absurd trivial hn, congrArg (fun y : Terminal => { y with window := w }) h2, h3, h4, h5⟩
    · simp only [if_neg e, hshed, hwith, ho j e] at hj ⊢
      exact hj
  · rw [shedNotices_congr hcur, show u.setup = t.setup from hsame .setup (by decide)]
    exact hm
  · simpa only [hwith] using hload

/-- The record of a terminal whose profile has changed, but for what the flows shed bring. -/
theorem ProfileChanged.record {s t : State} {i : Slot} {x : Terminal} {m m' : Management}
    (h : ProfileChanged s t i x m m') : t.term i = { x with
      state := (t.term i).state, beforeFade := (t.term i).beforeFade
      needUp := (t.term i).needUp, needDown := (t.term i).needDown } := by
  obtain ⟨-, hrec, -⟩ := h.1.2.1 i
  simp only [if_true] at hrec
  exact hrec

/-- Notices taken leave the controller. -/
theorem take_foldl_controller (e : ClassSet) (n : Option FrameNo) (l : List NoticeBody) :
    ∀ m : Management, (l.foldl (fun m b => m.take e n b) m).controller = m.controller := by
  induction l with
  | nil => exact fun _ => rfl
  | cons b rest ih => exact fun m => (ih _).trans (Management.take_controller m e n b)

theorem ProfileChanged.controller {s t : State} {i : Slot} {x : Terminal} {m m' : Management}
    (h : ProfileChanged s t i x m m') : m'.controller = m.controller := by
  obtain ⟨⟨-, -, up, down, load, -, -, -, -, -, hm, -⟩, -⟩ := h
  rw [hm, take_foldl_controller]

/-! ### Window results -/

/-- A terminal with the result of its window stored (R28). -/
def State.stored (s : State) (i : Slot) : State :=
  s.modTerm i fun t => { t with lastResult := some ⟨s.resultQ i, s.resultImpaired i, s.resultStamp⟩ }

/-- A terminal with its window emptied and no longer settling (R28). -/
def State.closed (s : State) (i : Slot) : State :=
  s.modTerm i fun t => { t with window := { t.window.restart with settling := false } }

/-- The mean rounded half up, as the statements and as the model write it (R28). -/
theorem quality_eq (sum n : Nat) : (sum + n / 2) / n = (2 * sum + n) / (2 * n) := by
  rw [← Nat.div_div_eq_div_mul, Nat.mul_add_div (by decide)]

section
variable {s : State} {i : Slot}

/-- The window of a serviced terminal that holds W samples completes (R28). -/
theorem exec_windowComplete (hs : (s.term i).state.serviced = true) (hf : s.windowFull i) :
    exec (.windowComplete i) s = .next (((s.stored i).takeResult i (s.resultQ i) (s.resultImpaired i)
      (s.term i).window.settling).closed i) := by
  have hq : (s.term i).window.quality s.setup.windowLength = s.resultQ i := quality_eq _ _
  show Host.Outcome.next (if _ then _ else _) = _
  rw [if_pos hs, State.completeIfFull, if_pos (show _ = s.setup.windowLength from hf), State.completeWindow, hq]
  rfl

theorem serviced_of_active {st : TermState} (h : st.active = true) : st.serviced = true := by
  cases st <;> first | rfl | cases h

/-- A result of a RAMPING or IN_SERVICE terminal is judged at its profile (R45 to R48). -/
theorem takeResult_active {p : ProfIdx} (h : (s.term i).state.active = true) (hc : (s.term i).current = some p)
    (q : Nat) (imp settling : Bool) :
    s.takeResult i q imp settling = (s.judgeResume i p q imp).judgeStep i p q imp settling := by
  simp only [State.takeResult, hc]
  cases hs : (s.term i).state <;> first | rfl | (rw [hs] at h; cases h)

/-- A result that is no step-down, with a valid profile above or at the top (R47, R48). -/
theorem judgeStep_next {p n : ProfIdx} {q : Nat} {imp settling : Bool} (h : ¬ (imp = true ∨ q < (s.profile p).exit))
    (hn : s.nextValid p = some n) : s.judgeStep i p q imp settling =
      if settling = false ∧ n ≤ (s.term i).ceiling ∧ (s.profile n).entry ≤ q then
        if (s.profile n).dwell ≤ (s.term i).dwell + 1 then s.changeProfile i n else s.setDwell i ((s.term i).dwell + 1)
      else s.setDwell i 0 := by
  simp only [State.judgeStep, if_neg h, hn]

theorem judgeStep_top {p : ProfIdx} {q : Nat} {imp settling : Bool} (h : ¬ (imp = true ∨ q < (s.profile p).exit))
    (hn : s.nextValid p = none) : s.judgeStep i p q imp settling = s.setDwell i 0 := by
  simp only [State.judgeStep, if_neg h, hn]

/-- A result of a FADING terminal is judged against profile 0 (R49). -/
theorem takeResult_fading {p : ProfIdx} (h : (s.term i).state = .fading) (hc : (s.term i).current = some p)
    (q : Nat) (imp settling : Bool) : s.takeResult i q imp settling = s.judgeFading i q imp := by
  simp only [State.takeResult, hc, h]

/-- A terminal begins to fade (R17). -/
theorem enterFading_eq {o : FadeOrigin} (h : (s.term i).state = .ramping ∧ o = FadeOrigin.ramping ∨
    (s.term i).state = .inService ∧ o = FadeOrigin.inService) :
    s.enterFading i = (s.modTerm i fun t =>
      { t with state := .fading, beforeFade := some o, dwell := 0, window := t.window.restart }).raise (.fading i) := by
  rcases h with ⟨h, rfl⟩ | ⟨h, rfl⟩ <;> simp only [State.enterFading, h]

/-- A FADING terminal returns to the state recorded (R18). -/
theorem exitFading_eq {o : FadeOrigin} (h : (s.term i).beforeFade = some o) : ∃ st b,
    (o = .ramping → st = TermState.ramping ∧ b = NoticeBody.ramping i) ∧
    (o = .inService → st = TermState.inService ∧ b = NoticeBody.inService i) ∧
    s.exitFading i = (s.modTerm i fun t =>
      { t with state := st, beforeFade := none, dwell := 0, window := t.window.restart }).raise b := by
  cases o with
  | ramping => exact ⟨.ramping, .ramping i, fun _ => ⟨rfl, rfl⟩, nofun, by simp only [State.exitFading, h]⟩
  | inService => exact ⟨.inService, .inService i, nofun, fun _ => ⟨rfl, rfl⟩, by simp only [State.exitFading, h]⟩

/-- A RAMPING or IN_SERVICE terminal has a state that a fade records. -/
theorem fadeOrigin_of_active {st : TermState} (h : st.active = true) :
    ∃ o, st = .ramping ∧ o = FadeOrigin.ramping ∨ st = .inService ∧ o = FadeOrigin.inService := by
  cases st <;> first | exact ⟨_, .inl ⟨rfl, rfl⟩⟩ | exact ⟨_, .inr ⟨rfl, rfl⟩⟩ | cases h

theorem stored_term : (s.stored i).term i =
    { s.term i with lastResult := some ⟨s.resultQ i, s.resultImpaired i, s.resultStamp⟩ } :=
  s.modTerm_term_same i _

theorem stored_others : OtherTerms i s (s.stored i) := s.modTerm_others i _

theorem stored_same : SameBut [.terms] s (s.stored i) := s.modTerm_same i _

theorem stored_profile (p : ProfIdx) : (s.stored i).profile p = s.profile p := rfl

theorem closed_term : (s.closed i).term i =
    { s.term i with window := { (s.term i).window.restart with settling := false } } := s.modTerm_term_same i _

theorem closed_others : OtherTerms i s (s.closed i) := s.modTerm_others i _

theorem closed_same : SameBut [.terms] s (s.closed i) := s.modTerm_same i _

/-- A change of profile on a window's result, from a state that differs from the one before in the terminal's record, and
with the window emptied after it (R28, R50). -/
theorem profileChanged_onResult {b : State} {x : Terminal} (p : ProfIdx) (hb : b.term i = x) (ho : OtherTerms i s b)
    (hsame : SameBut [.terms] s b) (hh : x.chainHead = (s.term i).chainHead)
    (hi : x.state = .inService ↔ (s.term i).state = .inService) (hm : x.window.misses = (s.term i).window.misses) :
    ProfileChanged s ((b.changeProfile i p).closed i) i { x with
        current := some p, dwell := 0
        window := { samples := 0, sum := 0, crcBad := 0, settling := false, misses := (s.term i).window.misses } }
      s.mgmt ((b.changeProfile i p).closed i).mgmt ∧
    SameBut [.terms, .flows, .ledger, .mgmt] s ((b.changeProfile i p).closed i) := by
  have hbm : b.mgmt = s.mgmt := hsame .mgmt (by decide)
  have h := profileChanged_shedToFit (s := s) (b := b.modTerm i fun t =>
      { t with current := some p, dwell := 0, window := t.window.restart }) (i := i)
    (x := { x with current := some p, dwell := 0, window := x.window.restart })
    (by rw [State.modTerm_term_same, hb]) (fun j hj => by rw [State.modTerm_term_other _ _ hj]; exact ho j hj)
    ((hsame.then (b.modTerm_same i _) (rs := [.terms]) rfl rfl).mono rfl) hh hi
  rw [State.modTerm_mgmt, hbm] at h
  have hw : ((b.changeProfile i p).term i).window = x.window.restart := congrArg Terminal.window h.record
  refine ⟨h.withWindow _ (closed_term.trans ?_) closed_others (closed_same.mono rfl),
    (hsame.then (b.changeProfile_same i p) (rs := [.terms, .flows, .ledger, .mgmt]) rfl rfl).then closed_same rfl rfl⟩
  rw [hw, ← hm]
  rfl

/-- What the judgement of the resume profile leaves (R45). -/
theorem judgeResume_spec (p : ProfIdx) (q : Nat) (imp : Bool) :
    (s.judgeResume i p q imp).term i = { s.term i with resume :=
      if (s.term i).state = .inService ∧ imp = false ∧ (s.profile p).exit ≤ q then some p else (s.term i).resume } ∧
    OtherTerms i s (s.judgeResume i p q imp) ∧ SameBut [.terms] s (s.judgeResume i p q imp) := by
  refine ⟨?_, ?_, s.judgeResume_same i p q imp⟩
  · unfold State.judgeResume
    split
    · rw [State.modTerm_term_same]
    · rfl
  · unfold State.judgeResume
    split
    · exact s.modTerm_others i _
    · exact fun _ _ => rfl

end

/-- Settles O17: a result that is impaired or below the exit threshold. -/
theorem windowResultStepsDown : Obligations.WindowResultStepsDown := by
  intro i s p ha hc hf hbad
  have hres : (s.stored i).judgeResume i p (s.resultQ i) (s.resultImpaired i) = s.stored i := by
    refine if_neg ?_
    rintro ⟨-, hi, hq⟩
    rcases hbad with h | h
    · rw [hi] at h; cases h
    · exact absurd hq (not_le.mpr h)
  have hexec := exec_windowComplete (serviced_of_active ha) hf
  rw [takeResult_active (by rw [stored_term]; exact ha) (by rw [stored_term]; exact hc), hres, State.judgeStep,
    stored_profile, if_pos hbad] at hexec
  refine ⟨fun hp => ?_, fun hp => ?_⟩
  · rw [if_neg hp] at hexec
    refine ⟨_, _, hexec, ?_, profileChanged_onResult
      (x := { s.term i with lastResult := some ⟨s.resultQ i, s.resultImpaired i, s.resultStamp⟩ }) _ stored_term stored_others stored_same rfl Iff.rfl rfl⟩
    have ht := highestValid_spec s fun x => x < p && (s.profile x).exit ≤ s.resultQ i
    simp only [Bool.and_eq_true, decide_eq_true_eq] at ht
    exact ht
  · obtain ⟨o, ho⟩ := fadeOrigin_of_active ha
    rw [if_pos hp, enterFading_eq (by rw [stored_term]; exact ho)] at hexec
    refine ⟨_, o, hexec, ho, ?_, fun j hj => ?_, rfl, ?_⟩
    · rw [closed_term, State.raise_term, State.modTerm_term_same, stored_term]; rfl
    · rw [closed_others j hj, State.raise_term, State.modTerm_term_other _ _ hj, stored_others j hj]
    · exact ((stored_same.then (State.modTerm_same _ _ _) (rs := [.terms]) rfl rfl).then (State.raise_same _ _)
        (rs := [.terms, .mgmt]) rfl rfl).then closed_same rfl rfl

/-- Settles O18: a result that is neither impaired nor below the exit threshold. -/
theorem windowResultStepsUpOrHolds : Obligations.WindowResultStepsUpOrHolds := by
  intro i s p ha hc hf himp hq shadow qualifies
  obtain ⟨hterm, hothers, hsame⟩ := judgeResume_spec (s := s.stored i) (i := i) p (s.resultQ i) false
  have hbase : ((s.stored i).judgeResume i p (s.resultQ i) false).term i = { s.term i with
      lastResult := some ⟨s.resultQ i, s.resultImpaired i, s.resultStamp⟩, resume := shadow } := by
    rw [hterm, stored_term]
    have : ((s.stored i).profile p).exit ≤ s.resultQ i := hq
    simp [this, shadow]
  have hoth : OtherTerms i s ((s.stored i).judgeResume i p (s.resultQ i) false) := stored_others.trans hothers
  have hsm : SameBut [.terms] s ((s.stored i).judgeResume i p (s.resultQ i) false) := stored_same.then hsame rfl rfl
  have hexec := exec_windowComplete (serviced_of_active ha) hf
  rw [takeResult_active (by rw [stored_term]; exact ha) (by rw [stored_term]; exact hc), himp] at hexec
  generalize (s.stored i).judgeResume i p (s.resultQ i) false = b at hbase hoth hsm hexec
  have hprof (x : ProfIdx) : b.profile x = s.profile x := profile_of_profiles (hsm .profiles (by decide)) x
  have hnext : b.nextValid p = s.nextValid p := by simp only [State.nextValid, hprof]
  have hgood : ¬ (false = true ∨ s.resultQ i < (b.profile p).exit) := by simpa [hprof] using hq
  have dwell (n : Nat) : (((b.setDwell i n).closed i).term i =
      { s.resulted i with resume := shadow, dwell := n }) ∧ OtherTerms i s ((b.setDwell i n).closed i) ∧
      SameBut [.terms] s ((b.setDwell i n).closed i) := by
    refine ⟨?_, fun j hj => ?_, (hsm.then (b.setDwell_same i n) (rs := [.terms]) rfl rfl).then closed_same rfl rfl⟩
    · rw [closed_term, State.setDwell, State.modTerm_term_same, hbase]; rfl
    · rw [closed_others j hj, State.setDwell, State.modTerm_term_other _ _ hj, hoth j hj]
  refine ⟨fun n hn hd => ?_, fun n hn hd => ?_, fun hno => ?_⟩
  · obtain ⟨hab, hk⟩ := hn
    rw [judgeStep_next hgood (hnext.trans ((nextValid_spec s p n).mpr hab)), hprof, hbase, if_pos hk, if_pos hd] at hexec
    exact ⟨_, hexec, profileChanged_onResult n hbase hoth hsm rfl Iff.rfl rfl⟩
  · obtain ⟨hab, hk⟩ := hn
    rw [judgeStep_next hgood (hnext.trans ((nextValid_spec s p n).mpr hab)), hprof, hbase, if_pos hk,
      if_neg (not_le.mpr hd)] at hexec
    exact ⟨_, hexec, dwell _⟩
  · cases e : s.nextValid p with
    | none =>
      rw [judgeStep_top hgood (hnext.trans e)] at hexec
      exact ⟨_, hexec, dwell _⟩
    | some n =>
      have hk : ¬ ((s.term i).window.settling = false ∧ n ≤ (s.term i).ceiling ∧ (s.profile n).entry ≤ s.resultQ i) :=
        fun hk => hno n ⟨(nextValid_spec s p n).mp e, hk⟩
      rw [judgeStep_next hgood (hnext.trans e), hprof, hbase, if_neg hk] at hexec
      exact ⟨_, hexec, dwell _⟩

/-- Settles O19: the results of a FADING terminal. -/
theorem fadeEndsOrGoesOn : Obligations.FadeEndsOrGoesOn := by
  refine ⟨fun i s p o hs hc hb hf => ?_, fun i s h => ?_⟩
  · have hexec := exec_windowComplete (i := i) (by rw [hs]; rfl) hf
    rw [takeResult_fading (by rw [stored_term]; exact hs) (by rw [stored_term]; exact hc), State.judgeFading,
      stored_profile] at hexec
    refine ⟨fun hi hq => ?_, fun hbad => ?_⟩
    · obtain ⟨st, b, hr, hi', he⟩ := exitFading_eq (s := s.stored i) (i := i) (by rw [stored_term]; exact hb)
      rw [if_pos ⟨hi, hq⟩, he] at hexec
      refine ⟨_, st, b, hexec, hr, hi', ?_, fun j hj => ?_, rfl,
        ((stored_same.then (State.modTerm_same _ _ _) (rs := [.terms]) rfl rfl).then (State.raise_same _ _)
          (rs := [.terms, .mgmt]) rfl rfl).then closed_same rfl rfl⟩
      · rw [closed_term, State.raise_term, State.modTerm_term_same, stored_term]; rfl
      · rw [closed_others j hj, State.raise_term, State.modTerm_term_other _ _ hj, stored_others j hj]
    · rw [if_neg fun ⟨hi, hq⟩ => hbad.elim (fun h => by rw [hi] at h; cases h) fun h => absurd hq (not_le.mpr h)] at hexec
      refine ⟨_, hexec, ?_, fun j hj => ?_,
        (stored_same.then (State.setDwell_same _ _ _) (rs := [.terms]) rfl rfl).then closed_same rfl rfl⟩
      · rw [closed_term, State.setDwell, State.modTerm_term_same, stored_term]; rfl
      · rw [closed_others j hj, State.setDwell, State.modTerm_term_other _ _ hj, stored_others j hj]
  · show Host.Outcome.next (if _ then _ else _) = _
    rcases h with h | h
    · rw [if_neg (by simp [h])]
    · rw [State.completeIfFull, if_neg (show ¬ _ = s.setup.windowLength from h), ite_self]

/-! ### Samples, misses and forced profiles -/

/-- Settles O16: a sample, and the completion of the window that it fills. -/
theorem burstIsOneSample : Obligations.BurstIsOneSample := by
  intro r s hr hk b i hs w k x
  let u : State := s.modTerm i fun t =>
    { t with window := t.window.sample (sampleOf b.snr) b.crcGood, counters := t.counters.burst b.crcGood }
  have hu : u.term i = x := s.modTerm_term_same i _
  have hfull : (u.term i).window.samples = w.samples + 1 := by rw [hu]
  have hexec : exec (.burstReport r) s = .next ((u.completeIfFull i).takePayload b) := by
    rw [exec_burstReport hr hk, State.takeBurst, if_pos hs]; rfl
  refine ⟨_, u.completeIfFull i, hexec, fun hn => ?_, fun hn => ?_, fun hp hc => if_pos ⟨hp, hc⟩, fun h => ?_⟩
  · rw [State.completeIfFull, hfull, if_neg (show ¬ _ = u.setup.windowLength from hn)]
    exact ⟨hu, s.modTerm_others i _, s.modTerm_same i _⟩
  · refine ⟨u, hu, s.modTerm_others i _, s.modTerm_same i _, congrArg Host.Outcome.next (if_pos ?_)⟩
    rw [hu]; exact hs
  · refine if_neg fun ⟨hp, hc⟩ => ?_
    rcases h with h | h
    · rw [hp] at h; cases h
    · rw [hc] at h; cases h

/-- A miss of a serviced terminal below M_o is counted, and from M_f is a fade report (R33). -/
theorem exec_countedMiss {r : LinkRecord} {s : State} {i : Slot} (hr : RecordSound r) (hk : r.kind = 3#8)
    (hi : (readMiss r.body).slot = i) (hs : (s.term i).state.serviced = true)
    (hm : min ((s.term i).window.misses + 1) 255 < s.setup.mo) :
    ∃ u, u.term i = { s.term i with
        window := { (s.term i).window with misses := min ((s.term i).window.misses + 1) 255 }
        counters := (s.term i).counters.miss } ∧
      OtherTerms i s u ∧ SameBut [.terms] s u ∧ exec (.missReport r) s = .next
        (if s.setup.mf ≤ min ((s.term i).window.misses + 1) 255 then u.fadeReport i else u) := by
  subst hi
  have hu := s.modTerm_term_same (readMiss r.body).slot fun t : Terminal =>
    { t with window := { t.window with misses := min (t.window.misses + 1) 255 }, counters := t.counters.miss }
  refine ⟨_, hu, s.modTerm_others _ _, s.modTerm_same _ _, ?_⟩
  rw [exec_missReport hr hk, State.takeMissReport, if_pos hs]
  simp only [State.takeMiss, hu, State.modTerm_setup, if_neg (not_le.mpr hm)]

/-- Settles O20: a miss below M_o. -/
theorem missIsCountedAndFades : Obligations.MissIsCountedAndFades := by
  intro r s hr hk i hs w m k hm
  obtain ⟨u, hterm, hoth, hsame, hexec⟩ := exec_countedMiss (i := i) hr hk rfl hs hm
  refine ⟨fun hlow => ⟨u, hexec.trans ?_, hterm, hoth, hsame⟩, fun p hmf hc hp => ?_, fun o hmf hc ho => ?_⟩
  · rcases hlow with h | ⟨hf, hc⟩
    · rw [if_neg (not_le.mpr h)]
    · have : u.fadeReport i = u := by simp [State.fadeReport, State.enterFading, hterm, hc, hf]
      rw [this, ite_self]
  · have hfade : u.fadeReport i = u.changeProfile i 0 := by simp [State.fadeReport, hterm, hc, hp]
    rw [if_pos hmf, hfade] at hexec
    have hum : u.mgmt = s.mgmt := hsame .mgmt (by decide)
    have h := profileChanged_shedToFit (s := s) (b := u.modTerm i fun t =>
        { t with current := some 0, dwell := 0, window := t.window.restart }) (i := i)
      (x := { s.term i with
        current := some 0, dwell := 0, counters := k
        window := { samples := 0, sum := 0, crcBad := 0, settling := w.settling, misses := m } })
      (by rw [State.modTerm_term_same, hterm]; rfl)
      (fun j hj => by rw [State.modTerm_term_other _ _ hj]; exact hoth j hj)
      ((hsame.then (u.modTerm_same i _) (rs := [.terms]) rfl rfl).mono rfl) rfl Iff.rfl
    rw [State.modTerm_mgmt, hum] at h
    exact ⟨_, hexec, h, hsame.then (u.changeProfile_same i 0) rfl rfl⟩
  · have hfade : u.fadeReport i = u.enterFading i := by simp [State.fadeReport, hterm, hc]
    have ho' : (u.term i).state = .ramping ∧ o = FadeOrigin.ramping ∨
        (u.term i).state = .inService ∧ o = FadeOrigin.inService := by rw [hterm]; exact ho
    rw [if_pos hmf, hfade, enterFading_eq ho'] at hexec
    refine ⟨_, hexec, ?_, fun j hj => ?_, ?_, (hsame.then (State.modTerm_same _ _ _) (rs := [.terms]) rfl rfl).then
      (State.raise_same _ _) rfl rfl⟩
    · rw [State.raise_term, State.modTerm_term_same, hterm]; rfl
    · rw [State.raise_term, State.modTerm_term_other _ _ hj, hoth j hj]
    · rw [raise_mgmt, State.modTerm_mgmt, State.modTerm_setup, State.modTerm_link, State.notified,
        show u.mgmt = s.mgmt from hsame .mgmt (by decide), show u.setup = s.setup from hsame .setup (by decide),
        show u.link = s.link from hsame .link (by decide)]

/-- Settles O50: the checks of FORCE_PROFILE in their order, and its effect. -/
theorem forceProfileSetsTheProfile : Obligations.ForceProfileSetsTheProfile := by
  intro src body s hl i refused
  refine ⟨fun ha => answer_refuse hl (if_pos ha), fun ha hn => answer_refuse hl ?_, fun p hp ha =>
    ⟨fun hs => answer_refuse hl ?_, fun hs => ⟨fun hv => answer_refuse hl ?_, fun hv =>
      ⟨fun hc => answer_refuse hl ?_, fun hc hf h0 => answer_refuse hl ?_, fun hc hf => ?_⟩⟩⟩⟩
  · rw [checkForce, if_neg ha, profileOf_eq_none hn]
  · rw [checkForce, if_neg ha, profileOf_eq_some hp]; exact if_pos hs
  · rw [checkForce, if_neg ha, profileOf_eq_some hp]; simp [i, hs, hv]
  · rw [checkForce, if_neg ha, profileOf_eq_some hp]; simp [i, hs, hv, hc]
  · rw [checkForce, if_neg ha, profileOf_eq_some hp]; simp [i, hv, not_lt.mpr hc, hf, h0]
  · have hcheck : checkForce i (nat8At body 1) s = .take .ok (fun s => s.force i p) [] := by
      rw [checkForce, if_neg ha, profileOf_eq_some hp]
      have : ¬ ((s.term i).state = .fading ∧ p ≠ 0) := fun ⟨h, h'⟩ => hf.elim (· h) h'
      simp [hs, hv, not_lt.mpr hc, this]
    intro x
    have forced (hcur : (s.term i).current ≠ some p) : ProfileChanged s ((s.controlledBy src).force i p) i x
        (s.mgmt.controlledBy src) ((s.controlledBy src).force i p).mgmt := by
      have e : (s.controlledBy src).force i p = (s.controlledBy src).changeProfile i p := if_neg hcur
      rw [e]
      exact profileChanged_shedToFit (s := s) (b := (s.controlledBy src).modTerm i fun t =>
        { t with current := some p, dwell := 0, window := t.window.restart }) (State.modTerm_term_same _ _ _)
        (State.modTerm_others _ _ _)
        (((s.controlledBy_same src).then (State.modTerm_same _ i _) (rs := [.terms, .mgmt]) rfl rfl).mono rfl) rfl Iff.rfl
    refine ⟨_, answer_take hl (effect := fun s => s.force i p) hcheck, forced, fun hcur => ?_, ?_, ?_⟩
    · have e : (s.controlledBy src).force i p = (s.controlledBy src).modTerm i fun t =>
        { t with dwell := 0, window := t.window.restart } := if_pos hcur
      rw [e]
      refine ⟨(State.modTerm_term_same _ _ _).trans ?_, State.modTerm_others _ _ _, rfl,
        (s.controlledBy_same src).then (State.modTerm_same _ i _) rfl rfl⟩
      simp only [x, ← hcur]
      rfl
    · by_cases hcur : (s.term i).current = some p
      · rw [show (s.controlledBy src).force i p = _ from if_pos hcur]; rfl
      · exact (forced hcur).controller
    · exact (s.controlledBy_same src).then (State.force_same _ i p) rfl rfl

end Sys2Proof.Machine

namespace Sys2Proof.Machine

/-! ### Entry to service -/

/-- A profile change stays one where the contexts, the Management Agent or the counters change after it. -/
theorem ProfileChanged.elsewhere {s t u : State} {i : Slot} {x : Terminal} {m m' : Management}
    (h : ProfileChanged s t i x m m') (hsame : SameBut [.reentry, .mgmt, .counters] t u) :
    ProfileChanged s u i x m m' := by
  have ht (j : Slot) : u.term j = t.term j := term_of_terms (hsame .terms (by decide)) j
  have hw : (t.term i).window = x.window := by rw [h.record]
  have k := h.withWindow (t.term i).window (ht i) (fun j _ => ht j) (hsame.mono rfl)
  rw [hw] at k
  exact k

/-- Where no flow of a terminal's chain is ADMITTED, its needs are those of no flow (R107). -/
theorem needWith_bare {s : State} {i : Slot} {x : Direction} (h : ∀ f ∈ s.chain i, (s.flow f).state ≠ .admitted) :
    s.needWith i x [] = if (s.term i).state.serviced then (match x with | .up => s.setup.m | .down => 0) else 0 := by
  have hsum : s.sumCB x [] (s.chain i) = 0 := by
    refine List.sum_eq_zero fun n hn => ?_
    obtain ⟨f, hf, rfl⟩ := List.mem_map.mp hn
    rw [if_neg]
    rintro ⟨-, ha | ha⟩
    · exact h f hf ha
    · cases ha
  cases x <;> simp [State.needWith, hsum]

/-- A terminal without an ADMITTED flow in its chain holds its needs whatever is shed. -/
theorem shedAll_holdsNeeds {i : Slot} (l : List FlowIdx) : ∀ s : State,
    (∀ f ∈ s.chain i, (s.flow f).state ≠ .admitted) → s.holdsNeeds i → (s.shedAll l).holdsNeeds i := by
  induction l with
  | nil => exact fun _ _ h => h
  | cons f rest ih =>
    intro s hno h
    have run := shedFlow_run s (s.flow f).dir f
    have hno' : ∀ g ∈ (s.shedFlow (s.flow f).dir f).chain i, ((s.shedFlow (s.flow f).dir f).flow g).state ≠ .admitted := by
      intro g hg
      rw [run.chain] at hg
      rw [run.flow]
      split
      · simp [Flow.shedded]
      · exact hno g hg
    refine ih _ hno' fun d => ?_
    have hserv : ((s.shedFlow (s.flow f).dir f).term i).state.serviced = (s.term i).state.serviced := (run.termFields i).2.2
    have hm : (s.shedFlow (s.flow f).dir f).setup = s.setup := run.same .setup (by decide)
    rw [needWith_bare hno', hserv, hm, shedFlow_term]
    split
    · have hq : (s.withdraw f .shed).needWith i d [] = s.needWith i d [] := by
        have ht (j : Slot) : (s.withdraw f .shed).term j = s.term j :=
          term_of_terms ((s.withdraw_same f .shed) .terms (by decide)) j
        refine needWith_congr (by rw [ht]) (by rw [ht]) (chain_congr (by rw [ht]) fun g => ?_) rfl rfl fun g hg => ?_
        · rw [withdraw_flow]
          split
          · next e => subst e; rfl
          · rfl
        · rw [State.counts, State.counts, withdraw_flow]
          split
          · next e => subst e; simp [hno g hg]
          · exact ⟨Iff.rfl, rfl⟩
      rw [← needWith_bare hno, ← hq]
      cases d <;> rfl
    · exact (h d).trans (needWith_bare hno)

/-- A terminal that has been repriced holds the needs of no flow after the shedding, where no flow of its chain is
ADMITTED (R117). -/
theorem shedToFit_bareNeed {s : State} {i : Slot} (hno : ∀ f ∈ s.chain i, (s.flow f).state ≠ .admitted) :
    (s.reprice i).shedToFit.holdsNeeds i ∧
      ∀ f ∈ (s.reprice i).shedToFit.chain i, ((s.reprice i).shedToFit.flow f).state ≠ .admitted := by
  obtain ⟨up, down, e, -⟩ := shedToFit_takes (s.reprice i)
  have run := shedAll_run (up ++ down) (s.reprice i)
  have hchain : (s.reprice i).chain i = s.chain i := by
    refine chain_congr ?_ fun _ => rfl
    rw [reprice_term, if_pos rfl]
  rw [e]
  refine ⟨shedAll_holdsNeeds _ _ (by rw [hchain]; exact hno) fun d => reprice_need s i d, fun f hf => ?_⟩
  rw [run.chain, hchain] at hf
  rw [run.flow]
  split
  · simp [Flow.shedded]
  · exact hno f hf

/-- What a shedding leaves of a chain: its flows, and whether one is WAITING or all are DISABLED. -/
theorem ProfileChanged.flow_eq {s t : State} {i : Slot} {x : Terminal} {m m' : Management}
    (h : ProfileChanged s t i x m m') {f : FlowIdx} (hf : (s.flow f).state ≠ .admitted) : t.flow f = s.flow f := by
  obtain ⟨⟨hflow, -, -⟩, -⟩ := h
  exact (hflow f).resolve_right fun k => hf k.1

theorem ProfileChanged.chain {s t : State} {i : Slot} {x : Terminal} {m m' : Management}
    (h : ProfileChanged s t i x m m') (hx : x.chainHead = (s.term i).chainHead) (j : Slot) : t.chain j = s.chain j := by
  obtain ⟨⟨hflow, hterm, -⟩, -⟩ := h
  refine chain_congr ?_ fun f => ?_
  · obtain ⟨-, hj, -⟩ := hterm j
    rw [hj]
    show (if j = i then x else s.term j).chainHead = _
    split
    · next e => subst e; exact hx
    · rfl
  · rcases hflow f with e | ⟨-, e⟩ <;> rw [e]

/-- A chain has a WAITING flow where one of its flows waits (R19). -/
theorem hasWaiting_iff (s : State) (i : Slot) :
    s.hasWaiting i = true ↔ ∃ f ∈ s.chain i, (s.flow f).state.isWaiting = true := by
  rw [State.hasWaiting, List.any_eq_true]

/-- A terminal that has entered service goes on to IN_SERVICE where no flow of its chain waits (R15). -/
def State.settled (s : State) (i : Slot) : State := if s.hasWaiting i then s else s.toInService i

/-- A proving burst that meets its bar brings its terminal into RAMPING, frees its context, and prices and sheds (R15, R73,
R75, R117). -/
theorem exec_admittingBurst {r : LinkRecord} {s : State} {c : CtxNo} {a : Attempt} {i : Slot} (hr : RecordSound r)
    (hk : r.kind = 2#8) (hi : (readBurst r.body).slot = i) (h : OnlyContext s i c a) (hs : (s.term i).state = .ranging)
    (hw : a.stage = .proveWait) (hp : a.parkPending = false) (hpr : (readBurst r.body).proving = true)
    (hf : a.slotFrame = some (readBurst r.body).frame) (hc : (readBurst r.body).crcGood = true)
    (hq : (s.profile (a.entryProfile.getD 0)).exit ≤ (readBurst r.body).snr) : ∃ e : State,
    e.term i = { s.term i with
      state := .ramping, current := some (a.entryProfile.getD 0), lastOutcome := some .admitted
      failedAttempts := 0, dwell := 0
      window := { samples := 0, sum := 0, crcBad := 0, settling := true, misses := 0 }
      counters := { (s.term i).counters with bursts := min ((s.term i).counters.bursts + 1) 4294967295 } } ∧
    OtherTerms i s e ∧ SameBut [.terms, .reentry, .mgmt] s e ∧ e.mgmt = s.notified (.ramping i) ∧
    e.ctx c = none ∧ OtherContexts c s e ∧ SameReentryBut s e ∧
    exec (.burstReport r) s = .next
      (((e.reprice i).shedToFit.settled i).dropPayload (readBurst r.body).payload.length) := by
  subst hi
  have ha : a.terminal = (readBurst r.body).slot := h.2.1
  let q := s.modTerm a.terminal fun t => { t with counters := t.counters.burst (readBurst r.body).crcGood }
  have hexit : (readBurst r.body).crcGood = true ∧ q.provingExit a ≤ (readBurst r.body).snr := ⟨hc, hq⟩
  have hjudge : s.judgeProving c a (readBurst r.body).snr (readBurst r.body).crcGood = q.endAttempt c a .admitted false := by
    rw [State.judgeProving, if_neg (by simp [hp])]
    exact if_pos hexit
  refine ⟨_, ?_, fun j hj => ?_, ?_, ?_, ?_, fun d hd => ?_, ?_, (exec_provingBurst hr hk h hs hw hpr hf hjudge).trans (by
    rw [State.endAttempt, ha]; rfl)⟩
  · rw [State.raise_term, State.modTerm_term_same, State.modTerm_term_same, State.setCtx_term]
    simp only [q, ha, State.modTerm_term_same, hc]
    rfl
  · simp only [State.raise_term, State.modTerm_term_other _ _ hj, State.setCtx_term, q, ha]
  · exact ((((s.modTerm_same _ _).then (State.setCtx_same _ c none) (rs := [.terms, .reentry]) rfl rfl).then
      (State.modTerm_same _ _ _) (rs := [.terms, .reentry]) rfl rfl).then (State.modTerm_same _ _ _)
        (rs := [.terms, .reentry]) rfl rfl).then (State.raise_same _ _) rfl rfl
  · rfl
  · exact State.setCtx_ctx_same _ _ _
  · exact State.setCtx_ctx_other _ _ hd
  · exact ⟨rfl, rfl, rfl⟩

/-- Settles O27: a proving burst that meets its bar. -/
theorem provingAdmitsTheTerminal : Obligations.ProvingAdmitsTheTerminal := by
  intro r s c a hr hk b i h hs hw hp hpr hf hc hq
  obtain ⟨e, hterm, hoth, hsame, hmgmt, hctx, hothctx, ⟨hqueue, hcredit, hgrants⟩, hexec⟩ :=
    exec_admittingBurst (i := i) hr hk rfl h hs hw hp hpr hf hc hq
  have hchanged := profileChanged_shedToFit hterm hoth (hsame.mono rfl) rfl (by simp [hs])
  have hbare (hno : ∀ f ∈ e.chain i, (e.flow f).state ≠ .admitted) := shedToFit_bareNeed hno
  have hu : SameBut [.terms, .flows, .ledger, .mgmt] e (e.reprice i).shedToFit :=
    (e.reprice_same i).then (State.shedToFit_same _) rfl rfl
  rw [hmgmt] at hchanged
  generalize (e.reprice i).shedToFit = u at hexec hchanged hbare hu
  have hdrop := u.dropPayload_same b.payload.length
  have hdropWaiting : (u.dropPayload b.payload.length).hasWaiting i = u.hasWaiting i := by
    have : (u.dropPayload b.payload.length).chain i = u.chain i := chain_congr rfl fun _ => rfl
    rw [State.hasWaiting, this]; rfl
  have hre : u.reentry = e.reentry := hu .reentry (by decide)
  have hctxs (d : CtxNo) : (u.dropPayload b.payload.length).ctx d = e.ctx d := ctx_of_reentry hre d
  have hchain : u.chain i = s.chain i := hchanged.chain rfl i
  have heflow (f : FlowIdx) : e.flow f = s.flow f := flow_of_flows (hsame .flows (by decide)) f
  have hechain : e.chain i = s.chain i := chain_congr (by rw [hterm]) fun f => by rw [heflow]
  have hramp : (u.term i).state = .ramping := by
    obtain ⟨-, -, hkept, hshed, -⟩ := hchanged.1.2.1 i
    by_cases k : ∃ f, WasShed s u f ∧ (s.flow f).bound = some i
    · simpa using (hshed k).1
    · simpa using (hkept k).1
  have hwaiting : (∃ f ∈ s.chain i, (s.flow f).state.isWaiting = true) → u.hasWaiting i = true := by
    rintro ⟨f, hf, hfw⟩
    have hna : (s.flow f).state ≠ .admitted := fun k => by rw [k] at hfw; cases hfw
    exact (hasWaiting_iff u i).mpr ⟨f, by rw [hchain]; exact hf, by rw [hchanged.flow_eq hna]; exact hfw⟩
  have hdisabled : (∀ f ∈ s.chain i, (s.flow f).state = .disabled) → u.hasWaiting i = false := by
    refine fun hd => Bool.eq_false_iff.mpr fun k => ?_
    obtain ⟨f, hf, hfw⟩ := (hasWaiting_iff u i).mp k
    rw [hchain] at hf
    rw [hchanged.flow_eq (by rw [hd f hf]; nofun), hd f hf] at hfw
    cases hfw
  refine ⟨u.dropPayload b.payload.length, _, hexec, (hctxs c).trans hctx, fun d hd => (hctxs d).trans (hothctx d hd),
    ⟨(congrArg Reentry.queue hre).trans hqueue, (congrArg Reentry.credit hre).trans hcredit,
      (congrArg Reentry.grants hre).trans hgrants⟩, hchanged.elsewhere (hdrop.mono rfl), fun hno => ?_, ?_, ?_,
    fun k => ?_, fun k => ?_, fun k => ?_, fun k => ?_⟩
  · obtain ⟨hholds, hnone⟩ := hbare fun f hf => by rw [heflow]; exact hno f (hechain ▸ hf)
    have hm : u.setup = s.setup := (hu .setup (by decide)).trans (hsame .setup (by decide))
    have need (d : Direction) := (hholds d).trans (needWith_bare hnone)
    rw [hramp, hm] at need
    exact ⟨need .up, need .down⟩
  · exact dropPayload_counters ((hu .counters (by decide)).trans (hsame .counters (by decide))) _
  · exact (hsame.then hu (rs := [.terms, .flows, .reentry, .ledger, .mgmt]) rfl rfl).then hdrop rfl rfl
  · rw [State.settled, if_pos (hdropWaiting.symm.trans k)]
  · have hn : ¬ u.hasWaiting i = true := by rw [← hdropWaiting, k]; nofun
    have hset : (u.settled i).dropPayload b.payload.length = (u.dropPayload b.payload.length).toInService i := by
      rw [State.settled, if_neg hn]; rfl
    rw [hset]
    refine ⟨?_, fun j hj => ?_, ?_, State.toInService_same _ i⟩
    · rw [State.toInService, State.raise_term, State.modTerm_term_same]
    · rw [State.toInService, State.raise_term, State.modTerm_term_other _ _ hj]
    · have hm : u.setup = s.setup := (hu .setup (by decide)).trans (hsame .setup (by decide))
      have hl : u.link = s.link := (hu .link (by decide)).trans (hsame .link (by decide))
      rw [← hm, ← hl]; rfl
  · rw [State.settled, if_pos (hwaiting k)]
    exact hramp
  · rw [State.settled, if_neg (by rw [hdisabled k]; nofun)]
    show ((u.toInService i).term i).state = .inService
    rw [State.toInService, State.raise_term, State.modTerm_term_same]

/-! ### SET_TERMINAL -/

section
variable (s : State) (i : Slot)

@[simp] theorem requeue_term (j : Slot) : (s.requeue i).term j = s.term j :=
  term_of_terms ((s.requeue_same i) .terms (by decide)) j

/-- Requeueing takes a QUEUED terminal's entry out and places it again (R60). -/
theorem requeue_queue : (s.requeue i).reentry.queue = if (s.term i).state = .queued then
    placeByClass (fun j => (s.term j).cls.val) i (s.reentry.queue.filter fun j => decide (j ≠ i))
    else s.reentry.queue := by
  unfold State.requeue
  split <;> rfl

theorem requeue_reentry : (s.requeue i).reentry.contexts = s.reentry.contexts ∧
    (s.requeue i).reentry.credit = s.reentry.credit ∧ (s.requeue i).reentry.grants = s.reentry.grants := by
  unfold State.requeue
  split <;> exact ⟨rfl, rfl, rfl⟩

variable {s i}

/-- A ceiling that is not below a serviced terminal's profile changes no profile (R52). -/
theorem ceilingStep_stays (h : (s.term i).state.serviced = false ∨
    ∀ p, (s.term i).current = some p → p ≤ (s.term i).ceiling) : s.ceilingStep i = s := by
  unfold State.ceilingStep
  split
  · next p hp =>
    refine if_neg ?_
    rintro ⟨hs, hlt⟩
    rcases h with h | h
    · rw [hs] at h; cases h
    · exact absurd (h p hp) (not_le.mpr hlt)
  · rfl

/-- A ceiling below a serviced terminal's profile steps it down (R52). -/
theorem ceilingStep_steps {p : ProfIdx} (hs : (s.term i).state.serviced = true) (hc : (s.term i).current = some p)
    (hp : (s.term i).ceiling < p) : s.ceilingStep i = s.changeProfile i (s.validAtMost (s.term i).ceiling) := by
  simp only [State.ceilingStep, hc, hs, hp, and_self, if_true]

/-- The entry profile held by a terminal's context does not stay above the ceiling (R52, R78). -/
theorem ceilingEntry_only {c : CtxNo} {a : Attempt} (h : OnlyContext s i c a) :
    OtherContexts c s (s.ceilingEntry i) ∧ (s.ceilingEntry i).ctx c = some { a with
      entryProfile := a.entryProfile.map fun p => if (s.term i).ceiling < p then s.validAtMost (s.term i).ceiling else p } := by
  have hctx := contextOf_of_only h
  cases he : a.entryProfile with
  | none =>
    have e : s.ceilingEntry i = s := by simp only [State.ceilingEntry, hctx, he]
    rw [e, Option.map_none, ← he]
    exact ⟨fun _ _ => rfl, h.1⟩
  | some p =>
    by_cases hp : (s.term i).ceiling < p
    · have e : s.ceilingEntry i =
          s.setCtx c (some { a with entryProfile := some (s.validAtMost (s.term i).ceiling) }) := by
        simp only [State.ceilingEntry, hctx, he, if_pos hp]
      rw [e]
      exact ⟨fun d hd => State.setCtx_ctx_other _ _ hd, by simp [hp]⟩
    · have e : s.ceilingEntry i = s := by simp only [State.ceilingEntry, hctx, he, if_neg hp]
      have hk : (a.entryProfile.map fun p => if (s.term i).ceiling < p then s.validAtMost (s.term i).ceiling else p) =
          a.entryProfile := by rw [he, Option.map_some, if_neg hp]
      rw [e, ← he, hk]
      exact ⟨fun _ _ => rfl, h.1⟩

theorem ceilingEntry_none (h : ∀ c a, s.ctx c = some a → a.terminal ≠ i) : s.ceilingEntry i = s := by
  simp only [State.ceilingEntry, contextOf_of_none h]

theorem ceilingEntry_reentry (s : State) (i : Slot) : SameReentryBut s (s.ceilingEntry i) := by
  unfold State.ceilingEntry
  split
  · split
    · split <;> exact ⟨rfl, rfl, rfl⟩
    · exact ⟨rfl, rfl, rfl⟩
  · exact ⟨rfl, rfl, rfl⟩

end

/-- The highest valid profile not above a ceiling depends on the profile table alone (R52). -/
theorem validAtMost_congr {s t : State} (h : t.profiles = s.profiles) (c : ProfIdx) : t.validAtMost c = s.validAtMost c := by
  simp only [State.validAtMost, State.highestValid, profile_of_profiles h]

theorem validAtMost_spec (s : State) (c : ProfIdx) : HighestValid s (fun p => p ≤ c) (s.validAtMost c) := by
  have h := highestValid_spec s fun p => p ≤ c
  simp only [decide_eq_true_eq] at h
  exact h

/-- SET_TERMINAL past its checks: the record is written and the queue entry placed again, before the ceiling is applied
(R7, R60). -/
theorem exec_setTerminal {src : Mac} {body : List Byte} {s : State} {i : Slot} (hl : body.length = 12)
    (hi : slotAt body 0 = i) (hs : (s.term i).state ≠ .absent) (hp : byteAt body 9 = 0#8 ∨ byteAt body 9 = 1#8)
    (hf : bitAt body 1 1 = false ∨ (if bitAt body 1 0 then some (macAt body 2) else none) ≠ none) : ∃ b : State,
    b.term i = rewrittenRecord (readTerminalBody body) (if byteAt body 9 = 0#8 then .last else .sectorDefault)
      (s.term i) ∧
    OtherTerms i s b ∧ SameBut [.terms, .reentry, .mgmt] s b ∧ b.mgmt = s.mgmt.controlledBy src ∧
    b.reentry.queue = (if (s.term i).state = .queued then
      placeByClass (fun j => (b.term j).cls.val) i (s.reentry.queue.filter fun j => decide (j ≠ i))
      else s.reentry.queue) ∧
    b.reentry.contexts = s.reentry.contexts ∧ b.reentry.credit = s.reentry.credit ∧
    b.reentry.grants = s.reentry.grants ∧
    exec (.setTerminal src body) s = .next (((b.ceilingStep i).ceilingEntry i).complete src body
      { code := 0x02#8, status := okOr (readTerminalBody body).clamped, body := [] }) := by
  let f := rewrittenRecord (readTerminalBody body) (if byteAt body 9 = 0#8 then .last else .sectorDefault)
  have hi' : (readTerminalBody body).slot = i := hi
  have hc : checkSetTerminal (readTerminalBody body) s = .take (okOr (readTerminalBody body).clamped)
      (fun s => (((s.modTerm i f).requeue i).ceilingStep i).ceilingEntry i) [] := by
    rw [checkSetTerminal, hi', if_neg hs, show (readTerminalBody body).policy = _ from policyOf_eq_some hp]
    refine if_neg ?_
    rintro ⟨hy, hn⟩
    exact hf.elim (fun h => by rw [show bitAt body 1 1 = true from hy] at h; cases h) (fun h => h hn)
  have hterm : ((s.controlledBy src).modTerm i f).term i = f (s.term i) := State.modTerm_term_same _ _ _
  obtain ⟨hctx, hcredit, hgrants⟩ := requeue_reentry ((s.controlledBy src).modTerm i f) i
  refine ⟨_, ?_, fun j hj => ?_, ?_, ?_, ?_, hctx, hcredit, hgrants,
    answer_take (effect := fun s => (((s.modTerm i f).requeue i).ceilingStep i).ceilingEntry i) hl hc⟩
  · rw [requeue_term, hterm]
  · rw [requeue_term, State.modTerm_term_other _ _ hj]; rfl
  · exact ((s.controlledBy_same src).then (State.modTerm_same _ i _) (rs := [.terms, .mgmt]) rfl rfl).then
      (State.requeue_same _ i) rfl rfl
  · exact (State.requeue_same _ i) .mgmt (by decide)
  · simp only [requeue_queue, requeue_term, hterm]
    rfl

/-- Settles O47: the checks of SET_TERMINAL in their order, and its effect. -/
theorem setTerminalRewrites : Obligations.SetTerminalRewrites := by
  intro src body s hl i identity freeze named
  have hi : (readTerminalBody body).slot = i := rfl
  refine ⟨fun hs => answer_refuse hl (if_pos hs), fun hs hn => answer_refuse hl ?_,
    fun hs hp hf hid => answer_refuse hl ?_, fun hs hp hf => ?_⟩
  · have hn := not_or.mp hn
    rw [checkSetTerminal, hi, if_neg hs, show (readTerminalBody body).policy = none from policyOf_eq_none hn.1 hn.2]
  · rw [checkSetTerminal, hi, if_neg hs, show (readTerminalBody body).policy = _ from policyOf_eq_some hp]
    exact if_pos ⟨hf, hid⟩
  · obtain ⟨b, hterm, hoth, hsame, hmgmt, hqueue, hctxs, hcredit, hgrants, hexec⟩ :=
      exec_setTerminal (i := i) hl rfl hs hp hf
    let ceiling := clampCeiling (nat8At body 10)
    have hstate : (b.term i).state = (s.term i).state := by rw [hterm]; rfl
    have hcur : (b.term i).current = (s.term i).current := by rw [hterm]; rfl
    have hceil : (b.term i).ceiling = ceiling := by rw [hterm]; rfl
    have hprof : b.profiles = s.profiles := hsame .profiles (by decide)
    have hctx (c : CtxNo) : b.ctx c = s.ctx c := congrArg (fun t => t.get c) hctxs
    have stays (h : (s.term i).state.serviced = false ∨ ∀ p, (s.term i).current = some p → p ≤ ceiling) :
        b.ceilingStep i = b := ceilingStep_stays (by rw [hstate, hcur, hceil]; exact h)
    have steps (p : ProfIdx) (h : (s.term i).state.serviced = true) (hc : (s.term i).current = some p)
        (hp : ceiling < p) : ProfileChanged s (b.ceilingStep i) i { b.term i with
          current := some (s.validAtMost ceiling), dwell := 0, window := (b.term i).window.restart }
          (s.mgmt.controlledBy src) (b.ceilingStep i).mgmt := by
      rw [ceilingStep_steps (by rw [hstate]; exact h) (hcur.trans hc) (by rw [hceil]; exact hp), hceil,
        validAtMost_congr hprof, ← hmgmt]
      exact profileChanged_shedToFit (State.modTerm_term_same _ _ _)
        (fun j hj => by rw [State.modTerm_term_other _ _ hj]; exact hoth j hj)
        ((hsame.then (b.modTerm_same i _) (rs := [.terms, .reentry, .mgmt]) rfl rfl).mono rfl)
        (by rw [hterm]; rfl) (by rw [hterm]; rfl)
    have hstep := b.ceilingStep_same i
    have hentry := (b.ceilingStep i).ceilingEntry_same i
    have hstepCeil : ((b.ceilingStep i).term i).ceiling = ceiling := by
      by_cases h : (s.term i).state.serviced = false ∨ ∀ p, (s.term i).current = some p → p ≤ ceiling
      · rw [stays h, hceil]
      · obtain ⟨hs', hp'⟩ := not_or.mp h
        push Not at hp'
        obtain ⟨p, hc, hlt⟩ := hp'
        rw [(steps p (by simpa using hs') hc hlt).record]
        exact hceil
    have hstepRe : (b.ceilingStep i).reentry = b.reentry := hstep .reentry (by decide)
    have hstepCtx (c : CtxNo) : (b.ceilingStep i).ctx c = s.ctx c := (ctx_of_reentry hstepRe c).trans (hctx c)
    have hstepProf : (b.ceilingStep i).validAtMost ceiling = s.validAtMost ceiling :=
      validAtMost_congr ((hstep .profiles (by decide)).trans hprof) _
    have hentryMgmt : ((b.ceilingStep i).ceilingEntry i).mgmt = (b.ceilingStep i).mgmt := hentry .mgmt (by decide)
    obtain ⟨hequeue, hecredit, hegrants⟩ := ceilingEntry_reentry (b.ceilingStep i) i
    rw [hstepRe] at hequeue hecredit hegrants
    have hstatus : okOr (readTerminalBody body).clamped =
        if 3 < nat8At body 8 ∨ 11 < nat8At body 10 then .clamped else .ok := by
      rw [readTerminalBody_clamped]
      split
      · next h => exact okOr_true (decide_eq_true h)
      · next h => exact okOr_false (decide_eq_false h)
    rw [hstatus] at hexec
    refine ⟨_, clampClass (nat8At body 8), ceiling, s.validAtMost ceiling, hexec, rfl, rfl, validAtMost_spec s ceiling,
      ⟨fun h => ?_, fun p h hc hlt => ?_⟩, fun hq => ?_, fun hq => ?_, fun c a h => ?_, fun h => ?_,
      hecredit.trans hcredit, hegrants.trans hgrants, ?_, ?_⟩
    · rw [stays h] at hentry ⊢
      have ht (j : Slot) : (b.ceilingEntry i).term j = b.term j := term_of_terms (hentry .terms (by decide)) j
      exact ⟨(ht i).trans hterm, fun j hj => (ht j).trans (hoth j hj), (hentry .mgmt (by decide)).trans hmgmt,
        hsame.then hentry rfl rfl⟩
    · have k := (steps p h hc hlt).elsewhere (hentry.mono rfl)
      rw [hentryMgmt]
      rw [hterm] at k
      exact k
    · have hunserved : (s.term i).state.serviced = false := by rw [hq]; rfl
      rw [stays (.inl hunserved)] at hentry hequeue ⊢
      have ht (j : Slot) : (b.ceilingEntry i).term j = b.term j := term_of_terms (hentry .terms (by decide)) j
      simp only [ht, hequeue, hqueue, if_pos hq]
      exact placeByClass_placed _ _ _
    · exact hequeue.trans (hqueue.trans (if_neg hq))
    · have hon : OnlyContext (b.ceilingStep i) i c a := by
        obtain ⟨hc, ha, honly⟩ := h
        exact ⟨(hstepCtx c).trans hc, ha, fun d x hd => honly d x ((hstepCtx d).symm.trans hd)⟩
      obtain ⟨hother, hthis⟩ := ceilingEntry_only hon
      rw [hstepCeil, hstepProf] at hthis
      exact ⟨fun d hd => (hother d hd).trans (hstepCtx d), hthis⟩
    · rw [ceilingEntry_none fun c a hc => h c a ((hstepCtx c).symm.trans hc), hstepRe, hctxs]
    · rw [hentryMgmt]
      by_cases h : (s.term i).state.serviced = false ∨ ∀ p, (s.term i).current = some p → p ≤ ceiling
      · rw [stays h, hmgmt]; rfl
      · obtain ⟨hs', hp'⟩ := not_or.mp h
        push Not at hp'
        obtain ⟨p, hc, hlt⟩ := hp'
        exact (steps p (by simpa using hs') hc hlt).controller
    · exact (hsame.then hstep (rs := [.terms, .flows, .reentry, .ledger, .mgmt]) rfl rfl).then hentry rfl rfl

end Sys2Proof.Machine

namespace Sys2Proof.Machine

/-! ### SET_SECTOR: loads that are not the sums of the needs

O56 asks for loads that fit after a SET_SECTOR from every state whose needs are no smaller than R107 prices, whatever its
loads are. In the state below the upstream load is 0 and so fits, while the upstream needs sum to 6012. D is lowered, and
the shed of the downstream flow recomputes both loads: the upstream one then exceeds its 5360 symbols, after the upstream
flows have been passed, and flow 0 stays ADMITTED. -/

/-- Slot 0 in service at profile 0 with flow 1 ADMITTED downstream, slot 1 holding a need of 6000, flow 0 ADMITTED upstream,
and loads that are not the sums of the needs. -/
def unsummed : State := { State.reset with
  terms := (State.reset.terms.put 0 { state := .inService, current := some 0, needUp := 12 }).put 1 { needUp := 6000 }
  flows := (State.reset.flows.put 0 { dir := .up, state := .admitted }).put 1
    { bound := some 0, dir := .down, state := .admitted }
  ledger := { list := [], loadUp := 0, loadDown := 5000 } }

/-- A SET_SECTOR that sets D to 1024 and no other field. -/
def lowerDown : List Byte := be32 2#32 ++ num16 0 ++ num16 1024 ++ List.replicate 26 0#8

/-- The upstream load exceeds its capacity and flow 0 is ADMITTED upstream, D being 1024. -/
def crowdedUp (t : State) : Bool :=
  decide (t.setup.u - 4 * t.setup.rs < t.ledger.loadUp) && decide ((t.flow 0).state = .admitted) &&
    decide (t.setup.d = 1024)

theorem unsummed_needs : ∀ j x, unsummed.needWith j x [] ≤ (unsummed.term j).need x := by
  have up : ∀ j, unsummed.needWith j .up [] ≤ (unsummed.term j).need .up := by decide +kernel
  have down : ∀ j, unsummed.needWith j .down [] ≤ (unsummed.term j).need .down := by decide +kernel
  exact fun j x => match x with
    | .up => up j
    | .down => down j

/-- What the model answers to that command in that state. -/
theorem exec_lowerDown : (match exec (.setSector 0#48 lowerDown) unsummed with
    | .next t => crowdedUp t
    | .fault _ | .refused _ => false) = true := by decide +kernel

/-- Refutes O56: with loads that are not the sums of the needs, the loads are recomputed by a downstream shed after the
upstream flows have been passed, and the upstream load no longer fits. -/
theorem not_setSectorWritesTheSetup : ¬ Obligations.SetSectorWritesTheSetup := by
  intro h
  obtain ⟨-, -, -, taken⟩ := h 0#48 lowerDown unsummed rfl
  obtain ⟨v, st, hexec, -, hd, -, -, -, -, -, -, -, -, -, -, -, -, -, -, -, -, -, -, -, -, -, -, -, shed, -⟩ :=
    taken 0 (by decide) (by decide) (.inl ⟨by decide, rfl⟩)
  have answer := exec_lowerDown
  rw [hexec] at answer
  have hsame := v.complete_same 0#48 lowerDown { code := 0x30#8, status := st, body := [] }
  have hcrowded : crowdedUp v = true := by
    simpa only [crowdedUp, show (v.complete _ _ _).setup = v.setup from hsame .setup (by decide),
      show (v.complete _ _ _).ledger = v.ledger from hsame .ledger (by decide),
      flow_of_flows (hsame .flows (by decide)) 0] using answer
  simp only [crowdedUp, Bool.and_eq_true, decide_eq_true_eq] at hcrowded
  obtain ⟨⟨hload, hflow⟩, hdown⟩ := hcrowded
  have hchanged : v.setup.d ≠ unsummed.setup.d := by rw [hdown]; decide
  obtain ⟨hfits, -⟩ := (shed (.inr (.inr (.inr hchanged)))).2 unsummed_needs
  rcases hfits with hfits | hnone
  · exact absurd hfits (not_le.mpr hload)
  · exact hnone 0 (by decide) hflow

end Sys2Proof.Machine

namespace Sys2Proof.Machine

/-! ### Flows of a terminal that leaves service -/

/-- The record of a flow once its terminal has left service: an ADMITTED one is WAITING (R118). -/
def Flow.withdrawn (x : Flow) (c : Cause) : Flow :=
  if x.state = .admitted then { x with state := .waiting c, credit := 0, marker := none } else x

/-- The record of a flow once the SHED-policy DOWN queues have been discarded (R143). -/
def Flow.emptied (x : Flow) : Flow :=
  if x.dir = .down ∧ x.policy = .shed then
    { x with queue := [], counters := { x.counters with shed := satAdd x.counters.shed x.queue.length } }
  else x

theorem Flow.departed_eq (x : Flow) (c : Cause) : x.departed c = (x.withdrawn c).emptied := by
  unfold Flow.departed Flow.withdrawn Flow.emptied
  by_cases h : x.state = .admitted <;> simp only [h, if_true, if_false] <;> rfl

theorem Flow.withdrawn_withdrawn (x : Flow) (c : Cause) : (x.withdrawn c).withdrawn c = x.withdrawn c := by
  unfold Flow.withdrawn
  by_cases h : x.state = .admitted <;> simp [h]

theorem satAdd_zero_satAdd (a b : Nat) : satAdd (satAdd a b) 0 = satAdd a b := by
  simp only [satAdd]; omega

theorem Flow.emptied_emptied (x : Flow) : x.emptied.emptied = x.emptied := by
  by_cases h : x.dir = .down ∧ x.policy = .shed
  · simp [Flow.emptied, h, satAdd_zero_satAdd]
  · simp [Flow.emptied, h]

theorem Flow.emptied_withdrawn (x : Flow) (c : Cause) : x.emptied.withdrawn c = (x.withdrawn c).emptied := by
  unfold Flow.withdrawn Flow.emptied
  by_cases h : x.state = .admitted <;> by_cases k : x.dir = .down ∧ x.policy = .shed <;> simp [h, k]

theorem Flow.departed_departed (x : Flow) (c : Cause) : (x.departed c).departed c = x.departed c := by
  simp only [Flow.departed_eq, Flow.emptied_withdrawn, Flow.withdrawn_withdrawn, Flow.emptied_emptied]

/-- What a departure keeps of a flow. -/
theorem Flow.departed_fields (x : Flow) (c : Cause) : (x.departed c).bound = x.bound ∧ (x.departed c).cls = x.cls ∧
    (x.departed c).chainNext = x.chainNext ∧ (x.departed c).dir = x.dir := by
  unfold Flow.departed
  by_cases h : x.state = .admitted <;> by_cases k : x.dir = .down ∧ x.policy = .shed <;> simp [h, k]

/-- A flow is not ADMITTED after a departure. -/
theorem Flow.departed_state (x : Flow) (c : Cause) : (x.departed c).state ≠ .admitted := by
  unfold Flow.departed
  by_cases h : x.state = .admitted <;> by_cases k : x.dir = .down ∧ x.policy = .shed <;> simp [h, k]

/-- Steps that each change one flow in the same way, a way that taken twice is taken once, change every flow of the list
so. -/
theorem foldl_flow {σ : State → FlowIdx → State} {h : Flow → Flow}
    (step : ∀ s f g, (σ s f).flow g = if g = f then h (s.flow g) else s.flow g) (twice : ∀ x, h (h x) = h x)
    (l : List FlowIdx) : ∀ s g, (l.foldl σ s).flow g = if g ∈ l then h (s.flow g) else s.flow g := by
  induction l with
  | nil => intro s g; simp
  | cons f rest ih =>
    intro s g
    rw [List.foldl_cons, ih, step]
    by_cases h1 : g = f <;> by_cases h2 : g ∈ rest <;> simp [h1, h2, twice]

section
variable (s : State) (c : Cause) (l : List FlowIdx)

theorem withdrawAll_flow (g : FlowIdx) :
    (s.withdrawAll c l).flow g = if g ∈ l then (s.flow g).withdrawn c else s.flow g := by
  refine foldl_flow (h := fun x => x.withdrawn c) (fun s f g => ?_) (fun x => x.withdrawn_withdrawn c) l s g
  by_cases h : (s.flow f).state = .admitted
  · simp only [if_pos h, withdraw_flow]
    split
    · next e => subst e; simp [Flow.withdrawn, h]
    · rfl
  · simp only [if_neg h]
    split
    · next e => subst e; simp [Flow.withdrawn, h]
    · rfl

theorem discardShedQueues_flow (g : FlowIdx) :
    (s.discardShedQueues l).flow g = if g ∈ l then (s.flow g).emptied else s.flow g := by
  refine foldl_flow (h := Flow.emptied) (fun s f g => ?_) Flow.emptied_emptied l s g
  by_cases h : (s.flow f).dir = .down ∧ (s.flow f).policy = .shed
  · simp only [if_pos h, State.discardShed, State.freeUp_flow, State.modFlow_flow]
    split
    · next e => subst e; simp [Flow.emptied, h]
    · rfl
  · simp only [if_neg h]
    split
    · next e => subst e; simp [Flow.emptied, h]
    · rfl

/-- The ADMITTED flows of a list that holds none twice join the Readmission List in its order (R118). -/
theorem withdrawAll_list (h : l.Nodup) : PlacedInTurn (fun g => (s.flow g).cls.val)
    (l.filter fun f => decide ((s.flow f).state = .admitted)) s.ledger.list (s.withdrawAll c l).ledger.list := by
  induction l generalizing s with
  | nil => rfl
  | cons f rest ih =>
    obtain ⟨hf, hr⟩ := List.nodup_cons.mp h
    rw [State.withdrawAll, List.foldl_cons]
    by_cases ha : (s.flow f).state = .admitted
    · have hflow (g : FlowIdx) (hg : g ∈ rest) : (s.withdraw f c).flow g = s.flow g := by
        rw [withdraw_flow, if_neg fun (e : g = f) => hf (e ▸ hg)]
      have hcls : (fun g => ((s.withdraw f c).flow g).cls.val) = fun g => (s.flow g).cls.val := by
        funext g; rw [withdraw_flow]; split
        · next e => subst e; rfl
        · rfl
      have hfilter : (rest.filter fun g => decide (((s.withdraw f c).flow g).state = .admitted)) =
          rest.filter fun g => decide ((s.flow g).state = .admitted) :=
        List.filter_congr fun g hg => by rw [hflow g hg]
      have hrest := ih (s.withdraw f c) hr
      rw [hcls, hfilter] at hrest
      rw [List.filter_cons_of_pos (by simpa using ha), if_pos ha]
      exact ⟨_, withdraw_list s f c ▸ placeByClass_placed _ _ _, hrest⟩
    · rw [List.filter_cons_of_neg (by simpa using ha), if_neg ha]
      exact ih s hr

/-- The cells held by all flows, over every flow. -/
theorem total_cells_eq_sum (s : State) : s.flows.total Flow.cellsHeld =
    ((List.finRange 1024).map fun f => (s.flow f).cellsHeld).sum := Table.total_eq_sum _ _ rfl

theorem withdrawAll_cells : (s.withdrawAll c l).flows.total Flow.cellsHeld = s.flows.total Flow.cellsHeld := by
  rw [total_cells_eq_sum, total_cells_eq_sum]
  refine congrArg List.sum (List.map_congr_left fun f _ => ?_)
  rw [withdrawAll_flow]
  unfold Flow.withdrawn
  split
  · split <;> rfl
  · rfl

/-- The cells of a discarded queue are free (R126, R143). -/
theorem discardShed_cells (f : FlowIdx) :
    (s.discardShed f).buffer.freeCells + (s.discardShed f).flows.total Flow.cellsHeld =
      s.buffer.freeCells + s.flows.total Flow.cellsHeld := by
  let x : Flow := { s.flow f with
    queue := [], counters := { (s.flow f).counters with shed := satAdd (s.flow f).counters.shed (s.flow f).queue.length } }
  have h := s.flows.total_put Flow.cellsHeld rfl f x
  have hx : x.cellsHeld = 0 := rfl
  have hf : Flow.cellsHeld (s.flows.get f) = (s.flow f).cellsHeld := rfl
  show s.buffer.freeCells + (s.flow f).cellsHeld + (s.flows.put f x).total Flow.cellsHeld = _
  omega

theorem discardShedQueues_cells : (s.discardShedQueues l).buffer.freeCells +
    (s.discardShedQueues l).flows.total Flow.cellsHeld = s.buffer.freeCells + s.flows.total Flow.cellsHeld := by
  induction l generalizing s with
  | nil => rfl
  | cons f rest ih =>
    rw [State.discardShedQueues, List.foldl_cons]
    refine (ih _).trans ?_
    split
    · exact discardShed_cells s f
    · rfl

theorem discardShedQueues_stamp : (s.discardShedQueues l).buffer.stamp = s.buffer.stamp := by
  induction l generalizing s with
  | nil => rfl
  | cons f rest ih =>
    rw [State.discardShedQueues, List.foldl_cons]
    refine (ih _).trans ?_
    split <;> rfl

end

/-- Between two states the flows of a list have been withdrawn with a cause, their discarded packets' cells freed, and
those ADMITTED listed (R118, R143). -/
structure Departs (s t : State) (c : Cause) (l : List FlowIdx) : Prop where
  flow : ∀ f, t.flow f = if f ∈ l then (s.flow f).departed c else s.flow f
  list : l.Nodup → PlacedInTurn (fun g => (s.flow g).cls.val)
    (l.filter fun f => decide ((s.flow f).state = .admitted)) s.ledger.list t.ledger.list
  cells : t.buffer.freeCells + t.flows.total Flow.cellsHeld = s.buffer.freeCells + s.flows.total Flow.cellsHeld
  stamp : t.buffer.stamp = s.buffer.stamp

section
variable {s t u : State} {c : Cause} {l l' : List FlowIdx}

theorem Departs.refl (s : State) (c : Cause) : Departs s s c [] where
  flow f := by simp
  list _ := rfl
  cells := rfl
  stamp := rfl

theorem Departs.fields (h : Departs s t c l) (f : FlowIdx) : (t.flow f).bound = (s.flow f).bound ∧
    (t.flow f).cls = (s.flow f).cls ∧ (t.flow f).chainNext = (s.flow f).chainNext ∧ (t.flow f).dir = (s.flow f).dir := by
  rw [h.flow]
  split
  · exact Flow.departed_fields _ _
  · exact ⟨rfl, rfl, rfl, rfl⟩

theorem Departs.trans (h : Departs s t c l) (k : Departs t u c l') : Departs s u c (l ++ l') where
  flow f := by
    rw [k.flow, h.flow]
    by_cases h1 : f ∈ l <;> by_cases h2 : f ∈ l' <;> simp [h1, h2, Flow.departed_departed]
  list hn := by
    obtain ⟨hl, hl', hd⟩ := List.nodup_append.mp hn
    have hcls : (fun g => (t.flow g).cls.val) = fun g => (s.flow g).cls.val :=
      funext fun g => congrArg Fin.val (h.fields g).2.1
    have hfilter : (l'.filter fun f => decide ((t.flow f).state = .admitted)) =
        l'.filter fun f => decide ((s.flow f).state = .admitted) :=
      List.filter_congr fun g hg => by rw [h.flow, if_neg fun e => hd g e g hg rfl]
    have hk := k.list hl'
    rw [hcls, hfilter] at hk
    rw [List.filter_append]
    exact (h.list hl).append hk
  cells := k.cells.trans h.cells
  stamp := k.stamp.trans h.stamp

/-- A departure stays one where the flows, the Readmission List and the buffer stay. -/
theorem Departs.elsewhere (h : Departs s t c l) (hf : u.flows = t.flows) (hl : u.ledger.list = t.ledger.list)
    (hb : u.buffer = t.buffer) : Departs s u c l where
  flow f := (flow_of_flows hf f).trans (h.flow f)
  list hn := hl ▸ h.list hn
  cells := by rw [hf, hb]; exact h.cells
  stamp := by rw [hb]; exact h.stamp

/-- A departure that begins where the flows, the Readmission List and the buffer are the same. -/
theorem Departs.from (h : Departs s t c l) (hf : u.flows = s.flows) (hl : u.ledger.list = s.ledger.list)
    (hb : u.buffer = s.buffer) : Departs u t c l := by
  have hflow (f : FlowIdx) : u.flow f = s.flow f := flow_of_flows hf f
  refine ⟨fun f => by rw [hflow]; exact h.flow f, fun hn => ?_, by rw [hf, hb]; exact h.cells, by rw [hb]; exact h.stamp⟩
  simp only [hflow, hl]
  exact h.list hn

/-- A terminal that has left service with its chain withdrawn, its needs 0 and the loads summed again. -/
theorem Departs.chainWithdrawn {i : Slot} (h : Departs s t c (s.chain i)) (hs : (t.term i).state.serviced = false)
    (hn : ∀ x, (t.term i).need x = 0) (ho : OtherTerms i s t) (hl : LoadsSound t) : ChainWithdrawn s t i c := by
  refine ⟨fun f hf => by rw [h.flow, if_pos hf], fun f hf => by rw [h.flow, if_neg hf], h.list, h.cells, h.stamp,
    fun j x => ?_, nofun, fun _ => hl⟩
  split
  · next e =>
    obtain rfl := Option.some.inj e
    rw [hn, needWith_unserviced hs]
  · next e => rw [ho j fun hj => e (congrArg some hj.symm)]

end

/-- The flows of a chain withdrawn, as the departure of a terminal withdraws them (R118, R143). -/
theorem departs_withdrawAll (s : State) (c : Cause) (l : List FlowIdx) :
    Departs s ((s.withdrawAll c l).discardShedQueues l) c l := by
  have hsame := (s.withdrawAll c l).discardShedQueues_same l
  refine ⟨fun f => ?_, fun hn => ?_, ?_, ?_⟩
  · rw [discardShedQueues_flow, withdrawAll_flow]
    split
    · exact (Flow.departed_eq _ _).symm
    · rfl
  · rw [show ((s.withdrawAll c l).discardShedQueues l).ledger = _ from hsame .ledger (by decide)]
    exact withdrawAll_list s c l hn
  · rw [discardShedQueues_cells, withdrawAll_cells,
      show (s.withdrawAll c l).buffer = s.buffer from (s.withdrawAll_same c l) .buffer (by decide)]
  · rw [discardShedQueues_stamp, show (s.withdrawAll c l).buffer = s.buffer from (s.withdrawAll_same c l) .buffer (by decide)]

section
variable (s : State) (i : Slot) (d : TermState) (c : Cause) (b : Bool)

/-- A terminal leaves service for a state that is not serviced: its record (R34, R55, R118). -/
theorem leaveService_term (hd : d.serviced = false) : (s.leaveService i d c b).term i = { s.term i with
    state := d, current := none, beforeFade := none, dwell := 0, needUp := 0, needDown := 0
    window := { samples := 0, sum := 0, crcBad := 0, settling := false, misses := 0 } } := by
  have hterm (u : State) (hu : u.term i = { s.term i with
      state := d, current := none, beforeFade := none, dwell := 0, window := Window.cleared }) :
      (u.reprice i).term i = { s.term i with
        state := d, current := none, beforeFade := none, dwell := 0, needUp := 0, needDown := 0
        window := { samples := 0, sum := 0, crcBad := 0, settling := false, misses := 0 } } := by
    rw [reprice_term, if_pos rfl, needWith_unserviced (by rw [hu]; exact hd), needWith_unserviced (by rw [hu]; exact hd), hu]
    rfl
  unfold State.leaveService
  refine hterm _ ?_
  split
  · rw [term_of_terms ((State.discardShedQueues_same _ _) .terms (by decide)),
      term_of_terms ((State.withdrawAll_same _ c _) .terms (by decide)), State.modTerm_term_same]
  · rw [term_of_terms ((State.withdrawAll_same _ c _) .terms (by decide)), State.modTerm_term_same]

theorem leaveService_others : OtherTerms i s (s.leaveService i d c b) := by
  intro j hj
  unfold State.leaveService
  rw [reprice_term, if_neg hj]
  split
  · rw [term_of_terms ((State.discardShedQueues_same _ _) .terms (by decide)),
      term_of_terms ((State.withdrawAll_same _ c _) .terms (by decide)), State.modTerm_term_other _ _ hj]
  · rw [term_of_terms ((State.withdrawAll_same _ c _) .terms (by decide)), State.modTerm_term_other _ _ hj]

theorem leaveService_loadsSound : LoadsSound (s.leaveService i d c b) := reprice_loadsSound _ _

theorem leaveService_departs : Departs s (s.leaveService i d c true) c (s.chain i) := by
  have h := departs_withdrawAll (s.modTerm i fun t =>
    { t with state := d, current := none, beforeFade := none, dwell := 0, window := Window.cleared }) c (s.chain i)
  exact (h.from (u := s) rfl rfl rfl).elsewhere rfl rfl rfl

end

/-! ### DOWN, and out of service to it -/

/-- A terminal becomes DOWN with a timer, or passes on to QUEUED (R4, R5, R13). -/
theorem enterDown_spec (s : State) (i : Slot) (n : Nat) : ∃ st timer,
    (s.enterDown i n false).term i = { s.term i with state := st, timer := timer, outageSeen := true } ∧
    st.serviced = false ∧ OtherTerms i s (s.enterDown i n false) ∧ EnteredDown s (s.enterDown i n false) i n ∧
    (s.enterDown i n false).reentry = { s.reentry with queue := (s.enterDown i n false).reentry.queue } ∧
    (s.enterDown i n false).mgmt = s.notified (.down i) := by
  let u := (s.modTerm i fun t => { t with state := .down, timer := some n, outageSeen := true }).raise (.down i)
  have hu : u.term i = { s.term i with state := .down, timer := some n, outageSeen := true } := by
    simp only [u, State.raise_term, State.modTerm_term_same]
  have ho : OtherTerms i s u := fun j hj => by simp only [u, State.raise_term, State.modTerm_term_other _ _ hj]
  by_cases h : n = 0 ∧ s.link.sectorUp = true
  · have e : s.enterDown i n false = u.makeQueued i := if_pos ⟨h.1, h.2, rfl⟩
    have hcls : (fun j => (u.term j).cls.val) = fun j => (s.term j).cls.val := by
      funext j
      by_cases hj : j = i
      · subst hj; rw [hu]
      · rw [ho j hj]
    have ht := u.makeQueued_term i
    have hq := u.makeQueued_queue i
    rw [hcls] at hq
    rw [e]
    refine ⟨.queued, none, by rw [ht, hu], rfl, ho.trans (u.makeQueued_others i), ⟨by rw [ht, hu], fun hk => ?_, fun _ _ =>
      ⟨by rw [ht], by rw [ht], by rw [hq]; exact placeByClass_placed _ _ _⟩⟩, rfl, rfl⟩
    rw [h.1, h.2] at hk
    exact absurd hk (by simp)
  · have e : s.enterDown i n false = u := if_neg fun k => h ⟨k.1, k.2.1⟩
    rw [e]
    exact ⟨.down, some n, hu, rfl, ho, ⟨by rw [hu], fun _ => ⟨by rw [hu], by rw [hu], rfl⟩, fun h1 h2 => absurd ⟨h1, h2⟩ h⟩,
      rfl, rfl⟩

/-- The entry to DOWN reads only the classes, the queue and the sector's state of the state before. -/
theorem EnteredDown.from {s t u : State} {i : Slot} {n : Nat} (h : EnteredDown s t i n) (hl : s.link = u.link)
    (hr : s.reentry = u.reentry) (hc : ∀ j, (s.term j).cls = (u.term j).cls) : EnteredDown u t i n := by
  obtain ⟨h1, h2, h3⟩ := h
  simp only [hl, hr, hc] at h2 h3
  exact ⟨h1, h2, h3⟩

/-- A serviced terminal goes out of service to DOWN with timer settle (R12, R118, R143). -/
theorem outage_spec (s : State) (i : Slot) : ∃ st timer,
    (s.outage i false).term i = { s.term i with
      state := st, timer := timer, current := none, beforeFade := none, outageSeen := true
      dwell := 0, needUp := 0, needDown := 0
      window := { samples := 0, sum := 0, crcBad := 0, settling := false, misses := 0 }
      counters := { (s.term i).counters with outages := min ((s.term i).counters.outages + 1) 4294967295 } } ∧
    st.serviced = false ∧ OtherTerms i s (s.outage i false) ∧ EnteredDown s (s.outage i false) i s.setup.settle ∧
    Departs s (s.outage i false) .outage (s.chain i) ∧ LoadsSound (s.outage i false) ∧
    (s.outage i false).reentry = { s.reentry with queue := (s.outage i false).reentry.queue } ∧
    (s.outage i false).mgmt = s.notified (.down i) := by
  have ht := leaveService_term s i .down .outage true rfl
  have ho := leaveService_others s i .down .outage true
  have hd := leaveService_departs s i .down .outage
  have hl := leaveService_loadsSound s i .down .outage true
  have hs := s.leaveService_same i .down .outage true
  have e : s.outage i false = ((s.leaveService i .down .outage true).modTerm i fun t =>
      { t with counters := { t.counters with outages := satAdd t.counters.outages 1 } }).enterDown i s.setup.settle false := by
    rw [State.outage, Bool.not_false, State.modTerm_setup,
      show (s.leaveService i .down .outage true).setup = s.setup from hs .setup (by decide)]
  generalize s.leaveService i .down .outage true = v at ht ho hd hl hs e
  let u := v.modTerm i fun t => { t with counters := { t.counters with outages := satAdd t.counters.outages 1 } }
  obtain ⟨st, timer, hterm, hserv, hoth, hent, hre, hm⟩ := enterDown_spec u i s.setup.settle
  have hui : u.term i = { v.term i with
      counters := { (v.term i).counters with outages := satAdd (v.term i).counters.outages 1 } } := v.modTerm_term_same i _
  have huo : OtherTerms i v u := v.modTerm_others i _
  have hsd := u.enterDown_same i s.setup.settle false
  have hvr : v.reentry = s.reentry := hs .reentry (by decide)
  have hvl : v.link = s.link := hs .link (by decide)
  have hneed (j : Slot) (x : Direction) : ((s.outage i false).term j).need x = (v.term j).need x := by
    rw [e]
    by_cases hj : j = i
    · subst hj; rw [hterm, hui]; cases x <;> rfl
    · rw [hoth j hj, huo j hj]
  have hledger : (s.outage i false).ledger = v.ledger := by rw [e]; exact hsd .ledger (by decide)
  refine ⟨st, timer, ?_, hserv, ?_, ?_, ?_, hl.congr (fun x => by cases x <;> simp [State.load, hledger]) hneed, ?_, ?_⟩
  · rw [e, hterm, hui, ht]
    rfl
  · rw [e]
    exact (ho.trans huo).trans hoth
  · rw [e]
    refine hent.from hvl hvr fun j => ?_
    by_cases hj : j = i
    · subst hj; rw [hui, ht]
    · rw [huo j hj, ho j hj]
  · exact hd.elsewhere (by rw [e]; exact hsd .flows (by decide)) (by rw [hledger])
      (by rw [e]; exact hsd .buffer (by decide))
  · rw [e, ← hvr]
    exact hre
  · rw [e, hm]
    show v.mgmt.take v.setup.enable v.link.frame _ = _
    rw [hvl, show v.mgmt = s.mgmt from hs .mgmt (by decide), show v.setup = s.setup from hs .setup (by decide)]
    rfl

/-- Settles O21: the miss that reaches M_o. -/
theorem outageTakesTheTerminalDown : Obligations.OutageTakesTheTerminalDown := by
  intro r s hr hk i hs hm
  let u := s.modTerm i fun t =>
    { t with window := { t.window with misses := min (t.window.misses + 1) 255 }, counters := t.counters.miss }
  have hui : u.term i = { s.term i with
      window := { (s.term i).window with misses := min ((s.term i).window.misses + 1) 255 }
      counters := (s.term i).counters.miss } := s.modTerm_term_same i _
  have huo : OtherTerms i s u := s.modTerm_others i _
  have hchain : u.chain i = s.chain i := chain_congr (by rw [hui]) fun _ => rfl
  have hexec : exec (.missReport r) s = .next (u.outage i false) := by
    have hmiss : u.setup.mo ≤ (u.term i).window.misses := by rw [hui]; exact hm
    rw [exec_missReport hr hk, State.takeMissReport, if_pos hs]
    exact congrArg Host.Outcome.next (if_pos hmiss)
  obtain ⟨st, timer, hterm, hserv, hoth, hent, hd, hl, hre, hmgmt⟩ := outage_spec u i
  have hd' : Departs s (u.outage i false) .outage (s.chain i) := hchain ▸ hd.from rfl rfl rfl
  refine ⟨_, st, timer, hexec, hterm.trans (by rw [hui]; rfl), hent.from rfl rfl fun j => ?_,
    hd'.chainWithdrawn (by rw [hterm]; exact hserv) (fun x => by rw [hterm]; cases x <;> rfl) (huo.trans hoth) hl,
    hre, hmgmt, huo.trans hoth, (s.modTerm_same i _).then (u.outage_same i false) rfl rfl⟩
  by_cases hj : j = i
  · subst hj; rw [hui]
  · rw [huo j hj]

/-! ### PARK_TERMINAL -/

section
variable {s : State} {i : Slot}

/-- Parking a RANGING terminal by the stage of its context (R10, R76). -/
theorem park_pending {c : CtxNo} {a : Attempt} (hs : (s.term i).state = .ranging) (h : OnlyContext s i c a)
    (hw : a.stage = .invitePending ∨ a.stage = .provePending) : s.park i = s.endAttempt c a .parked false := by
  rcases hw with hw | hw <;> simp [State.park, hs, State.parkRanging, contextOf_of_only h, hw, Stage.waits]

theorem park_waiting {c : CtxNo} {a : Attempt} (hs : (s.term i).state = .ranging) (h : OnlyContext s i c a)
    (hw : a.stage = .inviteWait ∨ a.stage = .proveWait) :
    s.park i = s.setCtx c (some { a with parkPending := true }) := by
  rcases hw with hw | hw <;> simp [State.park, hs, State.parkRanging, contextOf_of_only h, hw, Stage.waits]

/-- A serviced terminal that is parked leaves service (R9). -/
theorem park_serviced (hs : (s.term i).state.serviced = true) : s.park i = s.leaveService i .parked .parked true := by
  unfold State.park
  cases h : (s.term i).state <;> first | rfl | (rw [h] at hs; cases hs)

/-- Parking changes no other terminal and raises no notice. -/
theorem park_quiet (s : State) (i : Slot) : OtherTerms i s (s.park i) ∧ (s.park i).mgmt = s.mgmt := by
  have leaves := leaveService_others s i .parked .parked true
  have quiet : (s.leaveService i .parked .parked true).mgmt = s.mgmt :=
    (s.leaveService_same i .parked .parked true) .mgmt (by decide)
  unfold State.park
  split
  case h_3 => exact ⟨s.modTerm_others i _, rfl⟩
  case h_4 => exact ⟨State.modTerm_others _ i _, rfl⟩
  case h_5 =>
    unfold State.parkRanging
    split
    · next c a hc =>
      split
      · exact ⟨fun _ _ => rfl, rfl⟩
      · obtain ⟨⟨-, -, -, -, ho, hm⟩, -⟩ := (CountedAt.refl s i).parked (c := c) (contextOf_holds hc).2
        exact ⟨ho, hm⟩
    · exact ⟨fun _ _ => rfl, rfl⟩
  case h_1 => exact ⟨fun _ _ => rfl, rfl⟩
  case h_2 => exact ⟨fun _ _ => rfl, rfl⟩
  all_goals exact ⟨leaves, quiet⟩

end

/-- Settles O48: PARK_TERMINAL by the state of the slot. -/
theorem parkTakesTheTerminalOut : Obligations.ParkTakesTheTerminalOut := by
  intro src body s hl i
  refine ⟨fun ha => answer_refuse hl (if_pos ha), fun ha => ?_⟩
  obtain ⟨hoth, hmgmt⟩ := park_quiet (s.controlledBy src) i
  have hctl := s.controlledBy_same src
  refine ⟨_, answer_take (effect := fun s => s.park i) hl (if_neg ha), hmgmt, hoth, fun hs => ?_, fun hs => ?_, fun hs => ?_,
    fun c a hs h => ?_, fun hs => ?_⟩
  · have e : (s.controlledBy src).park i = s.controlledBy src := by simp [State.park, hs]
    rw [e]
    exact hctl
  · have e : (s.controlledBy src).park i = (s.controlledBy src).modTerm i fun t =>
        { t with state := .parked, timer := none } := by simp [State.park, hs]
    rw [e]
    exact ⟨State.modTerm_term_same _ _ _, hctl.then (State.modTerm_same _ i _) rfl rfl⟩
  · have e : (s.controlledBy src).park i = ((s.controlledBy src).unqueue i).modTerm i fun t =>
        { t with state := .parked } := by simp [State.park, hs]
    rw [e]
    exact ⟨State.modTerm_term_same _ _ _, rfl, (hctl.then (State.unqueue_same _ i) (rs := [.reentry, .mgmt]) rfl rfl).then
      (State.modTerm_same _ i _) rfl rfl⟩
  · have h' : OnlyContext (s.controlledBy src) i c a := h
    have pending (hw : a.stage = .invitePending ∨ a.stage = .provePending) :=
      park_pending (s := s.controlledBy src) hs h' hw
    have waiting (hw : a.stage = .inviteWait ∨ a.stage = .proveWait) :=
      park_waiting (s := s.controlledBy src) hs h' hw
    obtain ⟨⟨hfree, hctx, hre, hterm, -, -⟩, hsame⟩ := (CountedAt.refl (s.controlledBy src) i).parked (c := c) h.2.1
    by_cases hw : a.stage = .inviteWait ∨ a.stage = .proveWait
    · rw [waiting hw]
      refine ⟨fun d hd => State.setCtx_ctx_other _ _ hd, ⟨rfl, rfl, rfl⟩, hctl.then (State.setCtx_same _ c _) rfl rfl,
        fun hp => ?_, fun _ => ⟨State.setCtx_ctx_same _ _ _, rfl⟩⟩
      rcases hw with hw | hw <;> rw [hw] at hp <;> simp at hp
    · have hp : a.stage = .invitePending ∨ a.stage = .provePending := by
        cases e : a.stage <;> simp [e] at hw ⊢
      rw [pending hp]
      exact ⟨hctx, hre, hctl.then hsame rfl rfl, fun _ => ⟨hfree, hterm⟩, fun k => absurd k hw⟩
  · rw [park_serviced (s := s.controlledBy src) hs]
    have hterm := leaveService_term (s.controlledBy src) i .parked .parked true rfl
    have hd := leaveService_departs (s.controlledBy src) i .parked .parked
    rw [State.controlledBy_chain] at hd
    have hd' : Departs s _ .parked (s.chain i) := hd.from rfl rfl rfl
    refine ⟨hterm, hd'.chainWithdrawn (by rw [hterm]; rfl) (fun x => by rw [hterm]; cases x <;> rfl)
      (leaveService_others (s.controlledBy src) i .parked .parked true) (leaveService_loadsSound _ i .parked .parked true),
      hctl.then (State.leaveService_same _ i .parked .parked true) rfl rfl⟩

end Sys2Proof.Machine

namespace Sys2Proof.Machine

/-! ### A terminal placed by the sector's loss or a restart -/

/-- The record of a terminal once the sector's loss or a restart has placed it (R20, R22). -/
def State.lost (s : State) (i : Slot) : Terminal :=
  match (s.term i).state with
  | .absent | .parked => s.term i
  | .down | .queued => { s.term i with state := .down, timer := some s.setup.settle, outageSeen := true }
  | .ranging =>
    if ((s.contextOf i).map fun x => x.2.parkPending).getD false then
      { s.term i with state := .parked, lastOutcome := some .parked }
    else { s.term i with
      state := .down, timer := some s.setup.settle, outageSeen := true, lastOutcome := some .sectorLost }
  | .ramping | .inService | .fading => { s.term i with
      state := .down, timer := some s.setup.settle, current := none, beforeFade := none, outageSeen := true
      dwell := 0, needUp := 0, needDown := 0
      window := { samples := 0, sum := 0, crcBad := 0, settling := false, misses := 0 }
      counters := { (s.term i).counters with outages := min ((s.term i).counters.outages + 1) 4294967295 } }

section
variable {s : State} {i : Slot}

/-- The three serviced states (R5). -/
theorem serviced_cases {st : TermState} (h : st.serviced = true) : st = .ramping ∨ st = .inService ∨ st = .fading := by
  cases st <;> simp [TermState.serviced] at h ⊢

theorem lost_serviced (h : (s.term i).state.serviced = true) : s.lost i = { s.term i with
    state := .down, timer := some s.setup.settle, current := none, beforeFade := none, outageSeen := true
    dwell := 0, needUp := 0, needDown := 0
    window := { samples := 0, sum := 0, crcBad := 0, settling := false, misses := 0 }
    counters := { (s.term i).counters with outages := min ((s.term i).counters.outages + 1) 4294967295 } } := by
  rcases serviced_cases h with h | h | h <;> simp only [State.lost, h]

theorem lost_waiting (h : (s.term i).state = .queued ∨ (s.term i).state = .down) : s.lost i =
    { s.term i with state := .down, timer := some s.setup.settle, outageSeen := true } := by
  rcases h with h | h <;> simp only [State.lost, h]

theorem lost_ranging {c : CtxNo} {a : Attempt} (h : (s.term i).state = .ranging) (hc : s.contextOf i = some (c, a)) :
    s.lost i = if a.parkPending then { s.term i with state := .parked, lastOutcome := some .parked }
      else { s.term i with
        state := .down, timer := some s.setup.settle, outageSeen := true, lastOutcome := some .sectorLost } := by
  simp only [State.lost, h, hc, Option.map_some, Option.getD_some]

theorem lost_stray (h : (s.term i).state = .ranging) (hc : s.contextOf i = none) : s.lost i = { s.term i with
    state := .down, timer := some s.setup.settle, outageSeen := true, lastOutcome := some .sectorLost } := by
  simp [State.lost, h, hc]

theorem lost_need (h : (s.term i).state.serviced = false) (x : Direction) : (s.lost i).need x = (s.term i).need x := by
  unfold State.lost
  split
  case h_5 => split <;> rfl
  case h_6 e => rw [e] at h; cases h
  case h_7 e => rw [e] at h; cases h
  case h_8 e => rw [e] at h; cases h
  all_goals rfl

/-- The record placed is read from the terminal, its context and the settle time. -/
theorem lost_congr {t : State} (ht : t.term i = s.term i) (hc : t.contextOf i = s.contextOf i)
    (hs : t.setup = s.setup) : t.lost i = s.lost i := by
  simp only [State.lost, ht, hc, hs]

/-- A terminal's context is read from the contexts that hold an attempt of it. -/
theorem contextOf_congr {t : State} (h : ∀ d a, a.terminal = i → (t.ctx d = some a ↔ s.ctx d = some a)) :
    t.contextOf i = s.contextOf i := by
  unfold State.contextOf
  refine congrArg (fun p => allContexts.findSome? p) (funext fun d => ?_)
  cases ht : t.ctx d with
  | none =>
    cases hs : s.ctx d with
    | none => rfl
    | some a =>
      have hne : a.terminal ≠ i := fun e => by have := (h d a e).mpr hs; rw [ht] at this; cases this
      simp [hne]
  | some b =>
    by_cases e : b.terminal = i
    · rw [(h d b e).mp ht]
    · cases hs : s.ctx d with
      | none => simp [e]
      | some a =>
        have hne : a.terminal ≠ i := fun e' => by
          have := (h d a e').mpr hs
          rw [ht] at this
          exact e (Option.some.inj this ▸ e')
        simp [e, hne]

end

/-- A terminal has been placed by the sector's loss or a restart (R20, R22): its record, the contexts of the others, and
its DOWN notice where it is in DOWN. -/
structure LostAt (s t : State) (i : Slot) : Prop where
  term : t.term i = s.lost i
  other : OtherTerms i s t
  contextOf : ∀ j, j ≠ i → t.contextOf j = s.contextOf j
  mgmt : t.mgmt = if (s.lost i).state = .down then s.notified (.down i) else s.mgmt
  grants : t.reentry.grants = s.reentry.grants
  same : SameBut [.terms, .flows, .reentry, .ledger, .buffer, .mgmt] s t

section
variable (s : State) (i : Slot)

/-- A terminal enters DOWN and stays there where the sector is DOWN or the part restarts (R13). -/
theorem enterDown_stays (n : Nat) {b : Bool} (h : s.link.sectorUp = false ∨ b = true) : s.enterDown i n b =
    (s.modTerm i fun t => { t with state := .down, timer := some n, outageSeen := true }).raise (.down i) := by
  refine if_neg ?_
  rintro ⟨-, hu, hb⟩
  rcases h with h | h
  · rw [show s.link.sectorUp = true from hu] at h; cases h
  · rw [hb] at h; cases h

/-- The shape common to the terminals placed in DOWN: some record, then DOWN with timer settle and its notice. -/
theorem lostAt_down {v : State} {x : Terminal} {b : Bool} (hv : v.term i = x) (ho : OtherTerms i s v)
    (hc : ∀ j, j ≠ i → v.contextOf j = s.contextOf j) (hm : v.mgmt = s.mgmt)
    (hg : v.reentry.grants = s.reentry.grants)
    (hsame : SameBut [.terms, .flows, .reentry, .ledger, .buffer, .mgmt] s v)
    (h : s.link.sectorUp = false ∨ b = true)
    (hl : s.lost i = { x with state := .down, timer := some s.setup.settle, outageSeen := true }) :
    LostAt s (v.enterDown i s.setup.settle b) i := by
  have hlink : v.link = s.link := hsame .link (by decide)
  have hsetup : v.setup = s.setup := hsame .setup (by decide)
  rw [enterDown_stays v i _ (hlink ▸ h)]
  refine ⟨?_, fun j hj => ?_, hc, ?_, hg, (hsame.then (State.modTerm_same v i _) (rs := [.terms, .flows, .reentry, .ledger,
    .buffer, .mgmt]) rfl rfl).then (State.raise_same _ _) rfl rfl⟩
  · rw [State.raise_term, State.modTerm_term_same, hv, hl]
  · rw [State.raise_term, State.modTerm_term_other _ _ hj, ho j hj]
  · rw [hl, if_pos rfl, raise_mgmt, State.modTerm_mgmt, State.modTerm_setup, State.modTerm_link, hm, hsetup, hlink]
    rfl

/-- A serviced terminal that goes out of service is placed in DOWN (R12, R20, R22). -/
theorem lostAt_outage {b : Bool} (h : s.link.sectorUp = false ∨ b = true) (hs : (s.term i).state.serviced = true) :
    LostAt s (s.outage i b) i := by
  have ht := leaveService_term s i .down .outage (!b) rfl
  have ho := leaveService_others s i .down .outage (!b)
  have hsame := s.leaveService_same i .down .outage (!b)
  have hset : (s.leaveService i .down .outage (!b)).setup = s.setup := hsame .setup (by decide)
  rw [State.outage, State.modTerm_setup, hset]
  refine lostAt_down s i (State.modTerm_term_same _ _ _) (fun j hj => ?_) (fun j _ => ?_) ?_ ?_ ?_ h ?_
  · rw [State.modTerm_term_other _ _ hj, ho j hj]
  · exact contextOf_congr fun d a _ => by
      rw [State.modTerm_ctx, ctx_of_reentry (hsame .reentry (by decide))]
  · exact hsame .mgmt (by decide)
  · exact congrArg Reentry.grants (hsame .reentry (by decide))
  · exact hsame.then (State.modTerm_same _ i _) rfl rfl
  · rw [lost_serviced hs, ht]
    rfl

/-- A QUEUED terminal is taken from the queue and placed in DOWN (R20, R22). -/
theorem lostAt_queued {b : Bool} (h : s.link.sectorUp = false ∨ b = true) (hs : (s.term i).state = .queued) :
    LostAt s ((s.unqueue i).enterDown i s.setup.settle b) i :=
  lostAt_down s i (v := s.unqueue i) rfl (fun _ _ => rfl) (fun _ _ => rfl) rfl rfl ((s.unqueue_same i).mono rfl) h
    (lost_waiting (.inl hs))

/-- A DOWN terminal gets timer settle (R22). -/
theorem lostAt_already {b : Bool} (h : s.link.sectorUp = false ∨ b = true) (hs : (s.term i).state = .down) :
    LostAt s (s.enterDown i s.setup.settle b) i :=
  lostAt_down s i rfl (fun _ _ => rfl) (fun _ _ => rfl) rfl rfl (SameBut.refl _ s) h (lost_waiting (.inr hs))

/-- A RANGING terminal's attempt ends, PARKED where a park is pending and SECTOR_LOST otherwise (R20, R22). -/
theorem lostAt_ranging {b : Bool} (h : s.link.sectorUp = false ∨ b = true) (hs : (s.term i).state = .ranging) :
    LostAt s (s.loseAttempt i b) i := by
  unfold State.loseAttempt
  cases hc : s.contextOf i with
  | none =>
    exact lostAt_down s i (v := s.modTerm i fun t => { t with lastOutcome := some .sectorLost })
      (State.modTerm_term_same _ _ _) (State.modTerm_others _ _ _) (fun _ _ => rfl) rfl rfl ((s.modTerm_same i _).mono rfl) h
      (lost_stray hs hc)
  | some x =>
    obtain ⟨c, a⟩ := x
    obtain ⟨hctx, rfl⟩ := contextOf_holds hc
    have others (j : Slot) (hj : j ≠ a.terminal) : (s.setCtx c none).contextOf j = s.contextOf j :=
      contextOf_congr fun d e he => by
        rw [State.setCtx_ctx]
        split
        · next hd =>
          subst hd
          rw [hctx]
          refine ⟨nofun, fun k => absurd ?_ hj⟩
          rw [← he, Option.some.inj k]
        · rfl
    by_cases hp : a.parkPending = true
    · simp only [hp, if_true]
      obtain ⟨⟨-, -, -, hterm, hoth, hm⟩, hsame⟩ := (CountedAt.refl s a.terminal).parked (c := c) rfl
      have hl : s.lost a.terminal = { s.term a.terminal with state := .parked, lastOutcome := some .parked } := by
        rw [lost_ranging hs hc, if_pos hp]
      refine ⟨hterm.trans (by rw [hl]), hoth, fun j hj => others j hj, ?_, rfl, hsame.mono rfl⟩
      rw [hl, if_neg (by nofun)]
      exact hm
    · simp only [hp]
      exact lostAt_down s a.terminal (v := (s.setCtx c none).modTerm a.terminal fun t =>
        { t with lastOutcome := some .sectorLost }) (State.modTerm_term_same _ _ _) (State.modTerm_others _ _ _)
        others rfl rfl ((((s.setCtx_same c none).then (State.modTerm_same _ _ _) (rs := [.terms, .reentry]) rfl rfl)).mono rfl) h
        (by rw [lost_ranging hs hc, if_neg hp]; rfl)

end

/-- The terminals of some slots have been placed, one after another (R20, R22). -/
structure LostAll (s t : State) (l : List Slot) : Prop where
  term : ∀ j, t.term j = if j ∈ l then s.lost j else s.term j
  mgmt : t.mgmt = (l.filter fun i => decide ((s.lost i).state = .down)).foldl
    (fun m i => m.take s.setup.enable s.link.frame (.down i)) s.mgmt
  grants : t.reentry.grants = s.reentry.grants
  same : SameBut [.terms, .flows, .reentry, .ledger, .buffer, .mgmt] s t

/-- Steps that each place one terminal place those of a list that holds none twice. -/
theorem foldl_lost {σ : State → Slot → State} {ok : State → Slot → Prop} (step : ∀ s i, ok s i → LostAt s (σ s i) i)
    (keep : ∀ s i j, j ≠ i → LostAt s (σ s i) i → ok s j → ok (σ s i) j) (l : List Slot) : ∀ s, l.Nodup →
    (∀ i ∈ l, ok s i) → LostAll s (l.foldl σ s) l := by
  induction l with
  | nil => exact fun s _ _ => ⟨fun j => by simp, rfl, rfl, SameBut.refl _ s⟩
  | cons i rest ih =>
    intro s hn hok
    obtain ⟨hi, hr⟩ := List.nodup_cons.mp hn
    have first := step s i (hok i (by simp))
    have ne (j : Slot) (hj : j ∈ rest) : j ≠ i := fun e => hi (e ▸ hj)
    have later := ih (σ s i) hr fun j hj => keep s i j (ne j hj) first (hok j (by simp [hj]))
    have hset : (σ s i).setup = s.setup := first.same .setup (by decide)
    have hlink : (σ s i).link = s.link := first.same .link (by decide)
    have hlost (j : Slot) (hj : j ∈ rest) : (σ s i).lost j = s.lost j :=
      lost_congr (first.other j (ne j hj)) (first.contextOf j (ne j hj)) hset
    refine ⟨fun j => ?_, ?_, later.grants.trans first.grants, first.same.then later.same rfl rfl⟩
    · rw [List.foldl_cons, later.term]
      by_cases hj : j ∈ rest
      · simp [hj, hlost j hj]
      · rw [if_neg hj]
        by_cases e : j = i
        · subst e; rw [first.term]; simp
        · rw [first.other j e]; simp [e, hj]
    · rw [List.foldl_cons, later.mgmt, first.mgmt, hset, hlink]
      have hfilter : (rest.filter fun j => decide (((σ s i).lost j).state = .down)) =
          rest.filter fun j => decide ((s.lost j).state = .down) :=
        List.filter_congr fun j hj => by rw [hlost j hj]
      rw [hfilter, List.filter_cons]
      by_cases hd : (s.lost i).state = .down
      · simp only [hd, decide_true, if_true, List.foldl_cons]; rfl
      · simp only [hd, decide_false, if_false]; rfl

/-- The end of an attempt by the sector's loss or a restart changes no flow and no load (R20, R22). -/
theorem loseAttempt_quiet (s : State) (i : Slot) (b : Bool) : SameBut [.terms, .reentry, .mgmt] s (s.loseAttempt i b) := by
  have lost (v : State) (j : Slot) : SameBut [.terms, .reentry, .mgmt] v (v.takeOutcome j .sectorLost none b) :=
    (v.modTerm_same j _).then (State.enterDown_same _ j _ b) rfl rfl
  unfold State.loseAttempt
  split
  · next c a hc =>
    split
    · exact ((CountedAt.refl s i).parked (c := c) (contextOf_holds hc).2).2.mono rfl
    · exact (s.setCtx_same c none).then (lost _ _) rfl rfl
  · exact lost s i

/-! ### The sector's loss -/

section
variable {s : State} {i : Slot}

/-- The terminals that the sector's loss places (R20). -/
def TermState.lossy (st : TermState) : Bool := st.serviced || decide (st = .queued) || decide (st = .ranging)

/-- A terminal's part of the sector's loss, in a sector that is DOWN (R20). -/
theorem lostAt_loseTerminal (h : s.link.sectorUp = false) (hs : (s.term i).state.lossy = true) :
    LostAt s (s.loseTerminal i) i := by
  unfold State.loseTerminal
  cases e : (s.term i).state
  case queued => exact lostAt_queued s i (.inl h) e
  case ranging => exact lostAt_ranging s i (.inl h) e
  case ramping => exact lostAt_outage s i (.inl h) (by rw [e]; rfl)
  case inService => exact lostAt_outage s i (.inl h) (by rw [e]; rfl)
  case fading => exact lostAt_outage s i (.inl h) (by rw [e]; rfl)
  all_goals
    rw [e] at hs
    cases hs

/-- The flows of a terminal lost: those of its chain where it is serviced, and none else (R118). -/
def State.lostFlows (s : State) (i : Slot) : List FlowIdx := if (s.term i).state.serviced then s.chain i else []

theorem loseTerminal_unserviced (hs : (s.term i).state.serviced = false) :
    SameBut [.terms, .reentry, .mgmt] s (s.loseTerminal i) := by
  unfold State.loseTerminal
  split
  case h_1 e => rw [e] at hs; cases hs
  case h_2 e => rw [e] at hs; cases hs
  case h_3 e => rw [e] at hs; cases hs
  case h_4 => exact (s.unqueue_same i).then (State.enterDown_same _ i _ false) rfl rfl
  case h_5 => exact loseAttempt_quiet s i false
  all_goals exact SameBut.refl _ s

/-- A terminal's part of the sector's loss on the flows, the buffer and the loads (R118, R143). -/
theorem loseTerminal_flows (h : s.link.sectorUp = false) (hs : (s.term i).state.lossy = true) :
    Departs s (s.loseTerminal i) .outage (s.lostFlows i) ∧ (LoadsSound s → LoadsSound (s.loseTerminal i)) := by
  by_cases k : (s.term i).state.serviced = true
  · have e : s.loseTerminal i = s.outage i false := by
      unfold State.loseTerminal
      rcases serviced_cases k with k | k | k <;> simp only [k]
    obtain ⟨-, -, -, -, -, -, hd, hl, -⟩ := outage_spec s i
    rw [e, State.lostFlows, if_pos k]
    exact ⟨hd, fun _ => hl⟩
  · have k : (s.term i).state.serviced = false := by simpa using k
    have hsame := loseTerminal_unserviced (i := i) k
    have lost := lostAt_loseTerminal h hs
    have hled : (s.loseTerminal i).ledger = s.ledger := hsame .ledger (by decide)
    rw [State.lostFlows, if_neg (by simp [k])]
    refine ⟨(Departs.refl s .outage).elsewhere (hsame .flows (by decide)) (by rw [hled]) (hsame .buffer (by decide)),
      fun hl => hl.congr (fun x => by cases x <;> simp [State.load, hled]) fun j x => ?_⟩
    by_cases e : j = i
    · subst e; rw [lost.term, lost_need k]
    · rw [lost.other j e]

end

/-- The flows withdrawn and the loads after the terminals of some slots have been lost (R118, R143). -/
theorem foldl_loseTerminal_flows (l : List Slot) : ∀ s : State, s.link.sectorUp = false → l.Nodup →
    (∀ i ∈ l, (s.term i).state.lossy = true) →
    Departs s (l.foldl State.loseTerminal s) .outage (l.flatMap s.lostFlows) ∧
      (LoadsSound s → LoadsSound (l.foldl State.loseTerminal s)) := by
  induction l with
  | nil => exact fun s _ _ _ => ⟨Departs.refl s _, id⟩
  | cons i rest ih =>
    intro s hu hn hok
    obtain ⟨hi, hr⟩ := List.nodup_cons.mp hn
    have lost := lostAt_loseTerminal hu (hok i (by simp))
    obtain ⟨hd, hl⟩ := loseTerminal_flows hu (hok i (by simp))
    have hterm (j : Slot) (hj : j ∈ rest) : (s.loseTerminal i).term j = s.term j := lost.other j fun e => hi (e ▸ hj)
    have hlink : (s.loseTerminal i).link = s.link := lost.same .link (by decide)
    obtain ⟨hd', hl'⟩ := ih (s.loseTerminal i) (hlink ▸ hu) hr fun j hj => by rw [hterm j hj]; exact hok j (by simp [hj])
    have hflows : rest.flatMap (s.loseTerminal i).lostFlows = rest.flatMap s.lostFlows :=
      List.flatMap_congr fun j hj => by
        rw [State.lostFlows, State.lostFlows, hterm j hj,
          chain_congr (by rw [hterm j hj]) fun f => (hd.fields f).2.2.1]
    rw [List.foldl_cons, List.flatMap_cons]
    exact ⟨hd.trans (hflows ▸ hd'), fun h => hl' (hl h)⟩

/-- The slots that the sector's loss changes, in slot order (R20). -/
theorem lossSlots_eq (s : State) :
    s.lossSlots = (List.finRange 256).filter fun i => (s.term i).state.lossy :=
  Table.keys_eq_filter s.terms _ fun _ => rfl

/-- A list narrowed to a test, where a stronger test says which items count. -/
theorem flatMap_filter_of_imp {α β : Type} {p q : α → Bool} (h : ∀ a, q a = true → p a = true) (g : α → List β)
    (l : List α) : (l.filter p).flatMap (fun a => if q a then g a else []) = (l.filter q).flatMap g := by
  induction l with
  | nil => rfl
  | cons a rest ih =>
    by_cases hp : p a = true
    · by_cases hq : q a = true <;> simp [hp, hq, ih]
    · have hq : q a ≠ true := fun k => hp (h a k)
      simp [hp, hq, ih]

/-- The flows that the sector's loss withdraws: the chains of the serviced terminals, in slot order. -/
theorem lossSlots_flows (s : State) : s.lossSlots.flatMap s.lostFlows =
    ((List.finRange 256).filter fun i => (s.term i).state.serviced).flatMap s.chain := by
  rw [lossSlots_eq]
  exact flatMap_filter_of_imp (fun i h => by rw [TermState.lossy, h]; rfl) s.chain _

/-- A sound chain holds no flow twice. -/
theorem ChainsSound.nodup {s : State} (h : ChainsSound s) (i : Slot) : (s.chain i).Nodup := by
  obtain ⟨-, hord, -⟩ := h
  refine List.Pairwise.imp (S := (· ≠ ·)) (fun {f g} k (e : f = g) => ?_) (hord i).2
  subst e
  rcases k with k | ⟨-, k⟩ <;> exact lt_irrefl _ k

/-- Sound chains share no flow. -/
theorem ChainsSound.flatMap_nodup {s : State} (h : ChainsSound s) {l : List Slot} (hl : l.Nodup) :
    (l.flatMap s.chain).Nodup := by
  refine List.nodup_flatMap.mpr ⟨fun i _ => h.nodup i, hl.imp fun {i j} hij f hi hj => hij ?_⟩
  exact Option.some.inj (((h.1 i f).mp hi).symm.trans ((h.1 j f).mp hj))

/-- A SECTOR_STATE DOWN with the sector UP: the sector's notice, then each terminal's part, then the contexts (R163). -/
theorem exec_sectorDown {r : LinkRecord} {s : State} (hr : RecordSound r) (hk : r.kind = 6#8)
    (hb : byteAt r.body 0 = 0#8) (hu : s.link.sectorUp = true) : ∃ v,
    v.link = { s.link with sectorUp := false } ∧
    v.counters = { s.counters with sectorLosses := min (s.counters.sectorLosses + 1) 4294967295 } ∧
    v.mgmt = s.notified .sectorDown ∧ SameBut [.link, .counters, .mgmt] s v ∧
    exec (.sectorState r) s = .next ((v.lossSlots.foldl State.loseTerminal v).clearReentry) := by
  refine ⟨((s.setSectorUp false).count fun k => { k with sectorLosses := satAdd k.sectorLosses 1 }).raise .sectorDown,
    rfl, rfl, rfl, ((s.setSectorUp_same false).then (State.count_same _ _) (rs := [.link, .counters]) rfl rfl).then
      (State.raise_same _ _) rfl rfl, ?_⟩
  rw [exec_sectorState hr hk, hb, State.takeSectorState, hu]
  rfl

/-- Settles O30: the sector's loss. -/
theorem sectorLossIsOneEvent : Obligations.SectorLossIsOneEvent := by
  refine ⟨fun r s hr hk hb hu => ?_, fun r s hr hk hb hu => ?_⟩
  · rw [exec_sectorState hr hk, hb, State.takeSectorState, hu]
    rfl
  obtain ⟨v, hlink, hcount, hmgmt, hv, hexec⟩ := exec_sectorDown hr hk hb hu
  have hdown : v.link.sectorUp = false := by rw [hlink]
  have hterm (i : Slot) : v.term i = s.term i := term_of_terms (hv .terms (by decide)) i
  have hflow (f : FlowIdx) : v.flow f = s.flow f := flow_of_flows (hv .flows (by decide)) f
  have hset : v.setup = s.setup := hv .setup (by decide)
  have hre : v.reentry = s.reentry := hv .reentry (by decide)
  have hchain (i : Slot) : v.chain i = s.chain i := chain_congr (by rw [hterm]) fun f => by rw [hflow]
  have hlost (i : Slot) : v.lost i = s.lost i :=
    lost_congr (hterm i) (contextOf_congr fun d a _ => by rw [ctx_of_reentry hre]) hset
  have hslots : v.lossSlots = (List.finRange 256).filter fun i => (s.term i).state.lossy := by
    rw [lossSlots_eq]
    exact List.filter_congr fun i _ => by rw [hterm]
  have hmem (i : Slot) : i ∈ v.lossSlots ↔ (s.term i).state.lossy = true := by rw [hslots]; simp
  have hnodup : v.lossSlots.Nodup := hslots ▸ (List.nodup_finRange 256).filter _
  have hlossy (i : Slot) (hi : i ∈ v.lossSlots) : (v.term i).state.lossy = true := by rw [hterm]; exact (hmem i).mp hi
  have all := foldl_lost (σ := State.loseTerminal)
    (ok := fun s i => s.link.sectorUp = false ∧ (s.term i).state.lossy = true)
    (fun s i h => lostAt_loseTerminal h.1 h.2)
    (fun s i j hj h k => ⟨by rw [show (s.loseTerminal i).link = s.link from h.same .link (by decide)]; exact k.1,
      by rw [h.other j hj]; exact k.2⟩) v.lossSlots v hnodup fun i hi => ⟨hdown, hlossy i hi⟩
  obtain ⟨hd, hl⟩ := foldl_loseTerminal_flows v.lossSlots v hdown hnodup hlossy
  generalize v.lossSlots.foldl State.loseTerminal v = t at hexec all hd hl
  have htt (i : Slot) : t.clearReentry.term i = if (s.term i).state.lossy then s.lost i else s.term i := by
    show t.term i = _
    rw [all.term, hlost, hterm]
    simp only [hmem]
  have hplaced (i : Slot) (h : (s.term i).state.lossy = true) : t.clearReentry.term i = s.lost i := by rw [htt, if_pos h]
  have hinl (f : FlowIdx) : f ∈ v.lossSlots.flatMap v.lostFlows ↔ ∃ i, (s.term i).state.serviced = true ∧ f ∈ s.chain i := by
    rw [lossSlots_flows]
    simp only [List.mem_flatMap, List.mem_filter, List.mem_finRange, true_and, hterm, hchain]
  have hserved : (List.finRange 256).filter (fun i => (v.term i).state.serviced) =
      (List.finRange 256).filter fun i => (s.term i).state.serviced := List.filter_congr fun i _ => by rw [hterm]
  have hvl : v.ledger = s.ledger := hv .ledger (by decide)
  refine ⟨t.clearReentry, hexec, ?_, ?_, fun i hs => ⟨?_, fun f hf => ?_⟩, fun f hf => ?_, ?_, ?_, fun hc => ?_,
    fun hc hls => ?_, fun i hs => ?_, fun i c a hs h => ?_, fun i hs => ?_, rfl, fun _ => rfl, rfl, ?_, ?_, ?_⟩
  · exact (all.same .link (by decide)).trans hlink
  · exact (all.same .counters (by decide)).trans hcount
  · rw [hplaced i (by rw [TermState.lossy, hs]; rfl), lost_serviced hs]
  · show t.flow f = _
    rw [hd.flow, if_pos ((hinl f).mpr ⟨i, hs, hf⟩), hflow]
    rfl
  · show t.flow f = _
    rw [hd.flow, if_neg fun k => ?_, hflow]
    obtain ⟨i, hs, hi⟩ := (hinl f).mp k
    exact hf i hs hi
  · refine hd.cells.trans ?_
    rw [show v.buffer = s.buffer from hv .buffer (by decide), show v.flows = s.flows from hv .flows (by decide)]
  · exact hd.stamp.trans (congrArg Buffer.stamp (hv .buffer (by decide)))
  · have hlist := hd.list
    rw [lossSlots_flows, hserved, List.filter_flatMap, funext hchain] at hlist
    simp only [hflow, hvl] at hlist
    exact hlist (hc.flatMap_nodup ((List.nodup_finRange 256).filter _))
  · obtain ⟨hadm, hneeds, hup, hdn, -⟩ := hls
    have hloads : LoadsSound t := hl (LoadsSound.congr (s := s) ⟨hup, hdn⟩ (fun x => by cases x <;> simp [State.load, hvl])
      fun j x => by rw [hterm])
    have hzero (j : Slot) (x : Direction) : (t.term j).need x = 0 := by
      rw [show t.term j = _ from htt j]
      by_cases hs : (s.term j).state.serviced = true
      · rw [if_pos (by rw [TermState.lossy, hs]; rfl), lost_serviced hs]
        cases x <;> rfl
      · have hs : (s.term j).state.serviced = false := by simpa using hs
        have hn : (s.term j).need x = 0 := (hneeds j x).trans (needWith_unserviced hs x [])
        split
        · rw [lost_need hs, hn]
        · exact hn
    have hload (x : Direction) : t.load x = 0 := by
      refine ((loadsSound_iff t).mp hloads x).trans (List.sum_eq_zero fun n hn => ?_)
      obtain ⟨j, -, rfl⟩ := List.mem_map.mp hn
      exact hzero j x
    refine ⟨hload .up, hload .down, fun f => ?_⟩
    show (t.flow f).state ≠ .admitted
    rw [hd.flow]
    split
    · exact Flow.departed_state _ _
    · next hf =>
      rw [hflow]
      intro ha
      obtain ⟨i, hb, hs⟩ := hadm f ha
      exact hf ((hinl f).mpr ⟨i, hs, (hc.1 i f).mpr hb⟩)
  · rw [hplaced i (by rw [hs]; rfl), lost_waiting (.inl hs)]
  · rw [hplaced i (by rw [hs]; rfl), lost_ranging hs (contextOf_of_only h)]
  · rw [htt, if_neg]
    rcases hs with hs | hs | hs <;> rw [hs] <;> nofun
  · exact all.grants.trans (congrArg Reentry.grants hre)
  · refine all.mgmt.trans ?_
    rw [hset, show v.link.frame = s.link.frame by rw [hlink], hmgmt, hslots, List.filter_filter]
    refine congrArg (fun l => List.foldl _ _ l) (List.filter_congr fun i _ => ?_)
    rw [htt, hlost]
    by_cases hp : (s.term i).state.lossy = true
    · have hne : (s.term i).state ≠ .down := fun e => by rw [e] at hp; cases hp
      simp [hp, hne]
    · simp [hp]
  · exact (hv.then all.same (rs := [.terms, .flows, .link, .reentry, .ledger, .buffer, .mgmt, .counters]) rfl rfl).then
      (State.clearReentry_same t) rfl rfl

end Sys2Proof.Machine

namespace Sys2Proof.Machine

/-! ### RESTART_SECTOR -/

/-- The record of a flow after a restart (R123, R146). -/
def Flow.restarted (x : Flow) : Flow := { x with
  state := if x.state = .disabled then .disabled else .waiting .outage
  queue := [], credit := 0, marker := none
  counters := { x.counters with flush := satAdd x.counters.flush x.queue.length } }

/-- What a restart makes of a flow is not changed by the withdrawal before it. -/
theorem Flow.withdrawn_restarted (x : Flow) (c : Cause) : (x.withdrawn c).restarted = x.restarted := by
  by_cases h : x.state = .admitted <;> simp [Flow.withdrawn, Flow.restarted, h]

theorem Flow.restarted_disabled (x : Flow) : x.restarted.state = .disabled ↔ x.state = .disabled := by
  by_cases h : x.state = .disabled <;> simp [Flow.restarted, h]

/-- Two states whose flows a restart leaves alike, with the same buffer. -/
def RestartsAlike (s t : State) : Prop := (∀ f, (t.flow f).restarted = (s.flow f).restarted) ∧ t.buffer = s.buffer

theorem RestartsAlike.of_same {s t : State} (hf : t.flows = s.flows) (hb : t.buffer = s.buffer) : RestartsAlike s t :=
  ⟨fun f => by rw [flow_of_flows hf], hb⟩

theorem RestartsAlike.trans {s t u : State} (h : RestartsAlike s t) (k : RestartsAlike t u) : RestartsAlike s u :=
  ⟨fun f => (k.1 f).trans (h.1 f), k.2.trans h.2⟩

section
variable (s : State) (i : Slot)

theorem restartsAlike_outage : RestartsAlike s (s.outage i true) := by
  let v := (s.modTerm i fun t =>
    { t with state := .down, current := none, beforeFade := none, dwell := 0, window := Window.cleared })
  have hleave : RestartsAlike s (s.leaveService i .down .outage false) := by
    refine ⟨fun f => ?_, (State.withdrawAll_same v .outage (s.chain i)) .buffer (by decide)⟩
    show ((v.withdrawAll .outage (s.chain i)).flow f).restarted = _
    rw [withdrawAll_flow]
    split
    · exact Flow.withdrawn_restarted _ _
    · rfl
  refine hleave.trans (RestartsAlike.of_same ?_ ?_)
  · exact (State.enterDown_same _ i _ true) .flows (by decide)
  · exact (State.enterDown_same _ i _ true) .buffer (by decide)

/-- The terminals that a restart places: every one neither ABSENT nor PARKED (R22). -/
theorem restartTerminal_spec (h : (s.term i).state ≠ .absent ∧ (s.term i).state ≠ .parked) :
    LostAt s (s.restartTerminal i) i ∧ RestartsAlike s (s.restartTerminal i) := by
  have serviced (e : (s.term i).state.serviced = true) : LostAt s (s.outage i true) i ∧ RestartsAlike s (s.outage i true) :=
    ⟨lostAt_outage s i (.inr rfl) e, restartsAlike_outage s i⟩
  unfold State.restartTerminal
  cases e : (s.term i).state
  case absent => exact absurd e h.1
  case parked => exact absurd e h.2
  case down =>
    exact ⟨lostAt_already s i (.inr rfl) e, RestartsAlike.of_same ((s.enterDown_same i _ true) .flows (by decide))
      ((s.enterDown_same i _ true) .buffer (by decide))⟩
  case queued =>
    exact ⟨lostAt_queued s i (.inr rfl) e, RestartsAlike.of_same ((State.enterDown_same _ i _ true) .flows (by decide))
      ((State.enterDown_same _ i _ true) .buffer (by decide))⟩
  case ranging =>
    exact ⟨lostAt_ranging s i (.inr rfl) e, RestartsAlike.of_same ((loseAttempt_quiet s i true) .flows (by decide))
      ((loseAttempt_quiet s i true) .buffer (by decide))⟩
  all_goals exact serviced (by rw [e]; rfl)

end

theorem foldl_restartTerminal_flows (l : List Slot) : ∀ s : State, l.Nodup →
    (∀ i ∈ l, (s.term i).state ≠ .absent ∧ (s.term i).state ≠ .parked) →
    RestartsAlike s (l.foldl State.restartTerminal s) := by
  induction l with
  | nil => exact fun _ _ _ => RestartsAlike.of_same rfl rfl
  | cons i rest ih =>
    intro s hn hok
    obtain ⟨hi, hr⟩ := List.nodup_cons.mp hn
    obtain ⟨hlost, halike⟩ := restartTerminal_spec s i (hok i (by simp))
    exact halike.trans (ih _ hr fun j hj => by
      rw [hlost.other j fun e => hi (e ▸ hj)]; exact hok j (by simp [hj]))

/-- The slots that a restart places, in slot order (R22). -/
theorem restartSlots_eq (s : State) : s.restartSlots = (List.finRange 256).filter fun i =>
    decide ((s.term i).state ≠ .absent) && decide ((s.term i).state ≠ .parked) :=
  Table.keys_eq_filter s.terms _ fun _ => rfl

/-- The enabled flows, each once, in class order and then in index order (R123). -/
theorem mem_enabledOfClass (s : State) (c : Fin 8) (f : FlowIdx) :
    f ∈ s.flows.keys (fun _ r => decide (r.cls = c) && decide (r.state ≠ .disabled)) ↔
      (s.flow f).cls = c ∧ (s.flow f).state ≠ .disabled := by
  rw [Table.mem_keys _ _ _ (by simp)]
  simp only [Bool.and_eq_true, decide_eq_true_eq]
  rfl

theorem mem_enabledInOrder (s : State) (f : FlowIdx) : f ∈ s.enabledInOrder ↔ (s.flow f).state ≠ .disabled := by
  simp only [State.enabledInOrder, List.mem_flatMap, List.mem_finRange, true_and, mem_enabledOfClass]
  exact ⟨fun ⟨_, _, h⟩ => h, fun h => ⟨_, rfl, h⟩⟩

theorem enabledInOrder_pairwise (s : State) : s.enabledInOrder.Pairwise fun f g =>
    (s.flow f).cls < (s.flow g).cls ∨ (s.flow f).cls = (s.flow g).cls ∧ f < g := by
  refine List.pairwise_flatMap.mpr ⟨fun c _ => ?_, (List.pairwise_lt_finRange 8).imp fun {c d} hcd f hf g hg => ?_⟩
  · refine List.Pairwise.imp_of_mem (fun {f g} hf hg hfg => .inr ⟨?_, hfg⟩) (Table.keys_sorted _ _)
    rw [((mem_enabledOfClass s c f).mp hf).1, ((mem_enabledOfClass s c g).mp hg).1]
  · rw [((mem_enabledOfClass s c f).mp hf).1, ((mem_enabledOfClass s d g).mp hg).1]
    exact .inl hcd

/-- The blocks' part of a restart, the terminals placed (R37, R82, R123, R146). -/
def State.rebuilt (s : State) : State := s.clearReentry.clearWindows.rebuildLedger.flushAll

section
variable (s : State)

theorem rebuilt_term (i : Slot) : s.rebuilt.term i = { s.term i with
    needUp := 0, needDown := 0
    window := { samples := 0, sum := 0, crcBad := 0, settling := false, misses := 0 } } := by
  show (s.clearReentry.clearWindows.rebuildLedger).term i = _
  rw [State.rebuildLedger_term, State.clearWindows_term]
  rfl

theorem rebuilt_flow (f : FlowIdx) : s.rebuilt.flow f = (s.flow f).restarted := by
  show (s.clearReentry.clearWindows.rebuildLedger.flushAll).flow f = _
  rw [State.flushAll_flow, State.rebuildLedger_flow]
  rw [show s.clearReentry.clearWindows.flow f = s.flow f from rfl]
  by_cases h : (s.flow f).state = .disabled <;> simp [Flow.restarted, h]

theorem rebuilt_same : SameBut [.terms, .flows, .reentry, .ledger, .buffer] s s.rebuilt :=
  (((s.clearReentry_same).then (State.clearWindows_same _) (rs := [.terms, .reentry]) rfl rfl).then
    (State.rebuildLedger_same _) (rs := [.terms, .flows, .reentry, .ledger]) rfl rfl).then (State.flushAll_same _) rfl rfl

end

/-- Settles O57: the restart of the sector. -/
theorem restartPlacesEveryTerminal : Obligations.RestartPlacesEveryTerminal := by
  intro src s
  let v := (s.controlledBy src).raise .restart
  have hslots : v.restartSlots = (List.finRange 256).filter fun i =>
      decide ((s.term i).state ≠ .absent) && decide ((s.term i).state ≠ .parked) := restartSlots_eq v
  have hmem (i : Slot) : i ∈ v.restartSlots ↔ (s.term i).state ≠ .absent ∧ (s.term i).state ≠ .parked := by
    rw [hslots]; simp
  have hnodup : v.restartSlots.Nodup := hslots ▸ (List.nodup_finRange 256).filter _
  have all := foldl_lost (σ := State.restartTerminal)
    (ok := fun s i => (s.term i).state ≠ .absent ∧ (s.term i).state ≠ .parked)
    (fun s i h => (restartTerminal_spec s i h).1) (fun s i j hj h k => by rw [h.other j hj]; exact k)
    v.restartSlots v hnodup fun i hi => (hmem i).mp hi
  obtain ⟨halike, hbuffer⟩ := foldl_restartTerminal_flows v.restartSlots v hnodup fun i hi => (hmem i).mp hi
  have hexec : exec (.restartSector src []) s =
      .next ((v.restartSlots.foldl State.restartTerminal v).rebuilt.complete src []
        { code := 0x31#8, status := .ok, body := [] }) := answer_take (effect := State.restart) rfl rfl
  generalize v.restartSlots.foldl State.restartTerminal v = t at hexec all halike hbuffer
  have hlost (i : Slot) : v.lost i = s.lost i :=
    lost_congr rfl (contextOf_congr fun _ _ _ => Iff.rfl) rfl
  have hplaced (i : Slot) (h : (s.term i).state ≠ .absent ∧ (s.term i).state ≠ .parked) : t.term i = s.lost i := by
    rw [all.term, if_pos ((hmem i).mpr h), hlost]
  have hkept (i : Slot) (h : ¬ ((s.term i).state ≠ .absent ∧ (s.term i).state ≠ .parked)) : t.term i = s.term i := by
    rw [all.term, if_neg fun k => h ((hmem i).mp k)]; rfl
  have hcls (f : FlowIdx) : (t.flow f).cls = (s.flow f).cls := by
    show (t.flow f).restarted.cls = _
    rw [halike]; rfl
  have hstate (f : FlowIdx) : (t.flow f).state ≠ .disabled ↔ (s.flow f).state ≠ .disabled := by
    rw [Ne, ← Flow.restarted_disabled, halike, Flow.restarted_disabled]
    rfl
  refine ⟨_, hexec, fun i hs => ?_, fun i hs => ?_, fun i hs => ?_, fun i c a hs h => ?_, fun f =>
    ⟨satAdd (s.flow f).counters.flush (s.flow f).queue.length, ?_, fun _ => rfl⟩,
    fun f => ?_, ?_, rfl, rfl, ?_, rfl, fun _ => rfl, rfl, ?_, ?_, ?_⟩
  · rw [rebuilt_term, hkept i (by rcases hs with hs | hs <;> simp [hs])]
  · rw [rebuilt_term, hplaced i (by rcases hs with hs | hs <;> simp [hs]), lost_waiting hs]
  · rw [rebuilt_term, hplaced i (by rcases serviced_cases hs with hs | hs | hs <;> simp [hs]), lost_serviced hs]
  · rw [rebuilt_term, hplaced i (by simp [hs]), lost_ranging hs (contextOf_of_only h)]
    split <;> rfl
  · rw [rebuilt_flow, halike]
    rfl
  · exact (mem_enabledInOrder _ f).trans (hstate f)
  · have h := enabledInOrder_pairwise t.clearReentry.clearWindows
    exact h.imp fun {f g} k => by rw [← hcls f, ← hcls g]; exact k
  · show { t.buffer with freeCells := 32768 } = _
    rw [hbuffer]
    rfl
  · exact all.grants
  · refine ((rebuilt_same t) .mgmt (by decide)).trans (all.mgmt.trans ?_)
    rw [hslots, List.filter_filter]
    refine congrArg (fun l => List.foldl _ _ l) (List.filter_congr fun i _ => ?_)
    rw [rebuilt_term, hlost]
    by_cases h : (s.term i).state ≠ .absent ∧ (s.term i).state ≠ .parked
    · rw [hplaced i h]; simp [h]
    · have hout : (s.term i).state = .absent ∨ (s.term i).state = .parked := by
        by_contra k
        exact h (not_or.mp k)
      rw [hkept i h]
      rcases hout with e | e <;> simp [e]
  · exact ((((s.controlledBy_same src).then (State.raise_same _ .restart) (rs := [.mgmt]) rfl rfl).then all.same
      (rs := [.terms, .flows, .reentry, .ledger, .buffer, .mgmt]) rfl rfl)).then (rebuilt_same t) rfl rfl

end Sys2Proof.Machine

namespace Sys2Proof.Machine

/-! ### Items placed in turn -/

section
variable {α : Type} {cls : α → Nat}

/-- Placing items adds them and keeps the others in their order (R59). -/
theorem PlacedInTurn.mem_iff {xs : List α} : ∀ {l m : List α}, PlacedInTurn cls xs l m → ∀ y, y ∈ m ↔ y ∈ l ∨ y ∈ xs := by
  induction xs with
  | nil => intro l m h y; cases h; simp
  | cons x rest ih =>
    rintro l m ⟨n, ⟨a, b, hl, hn, -⟩, hr⟩ y
    rw [ih hr y, hl, hn]
    simp only [List.mem_append, List.mem_cons]
    tauto

theorem PlacedInTurn.sublist {xs : List α} : ∀ {l m : List α}, PlacedInTurn cls xs l m → l.Sublist m := by
  induction xs with
  | nil => intro l m h; cases h; exact List.Sublist.refl _
  | cons x rest ih =>
    rintro l m ⟨n, ⟨a, b, hl, hn, -⟩, hr⟩
    refine List.Sublist.trans ?_ (ih hr)
    rw [hl, hn]
    exact (List.Sublist.refl a).append (List.sublist_cons_self x b)

end

/-! ### The timers of DOWN terminals -/

/-- A DOWN terminal's timer runs out at this frame event with the sector UP (R14). -/
abbrev State.expires (s : State) (i : Slot) : Prop :=
  (s.term i).state = .down ∧ s.link.sectorUp = true ∧ ((s.term i).timer = some 0 ∨ (s.term i).timer = some 1)

/-- The record of a DOWN terminal after the TMGR's frame event (R14). -/
structure TickedAt (s t : State) (i : Slot) : Prop where
  queued : s.expires i → t.term i = { s.term i with state := .queued, timer := none } ∧
    t.reentry.queue = placeByClass (fun j => (s.term j).cls.val) i s.reentry.queue
  stays : ¬ s.expires i → t.term i = { s.term i with timer := (s.term i).timer.map fun k => k - 1 } ∧
    t.reentry.queue = s.reentry.queue
  other : OtherTerms i s t
  reentry : t.reentry = { s.reentry with queue := t.reentry.queue }
  same : SameBut [.terms, .reentry] s t

/-- A timer at 0 with the sector UP expires (R14). -/
theorem expireTimer_queues {s : State} {i : Slot} (h : (s.term i).state = .down ∧ (s.term i).timer = some 0 ∧
    s.link.sectorUp = true) : s.expireTimer i = s.makeQueued i := if_pos h

theorem expireTimer_stays {s : State} {i : Slot} (h : ¬ ((s.term i).state = .down ∧ (s.term i).timer = some 0 ∧
    s.link.sectorUp = true)) : s.expireTimer i = s := if_neg h

theorem tickedAt (s : State) (i : Slot) :
    TickedAt s ((s.lowerTimer i).expireTimer i) i := by
  have hterm : (s.lowerTimer i).term i = { s.term i with timer := (s.term i).timer.map fun k => k - 1 } :=
    s.modTerm_term_same i _
  have hcls : (fun j => ((s.lowerTimer i).term j).cls.val) = fun j => (s.term j).cls.val := s.modTerm_classes i fun _ => rfl
  have hiff : s.expires i ↔ ((s.lowerTimer i).term i).state = .down ∧ ((s.lowerTimer i).term i).timer = some 0 ∧
      (s.lowerTimer i).link.sectorUp = true := by
    rw [hterm]
    have htimer : (s.term i).timer.map (fun k => k - 1) = some 0 ↔ (s.term i).timer = some 0 ∨ (s.term i).timer = some 1 := by
      cases (s.term i).timer with
      | none => simp
      | some k => simp only [Option.map_some, Option.some.injEq]; omega
    rw [htimer]
    exact ⟨fun ⟨a, b, c⟩ => ⟨a, c, b⟩, fun ⟨a, b, c⟩ => ⟨a, c, b⟩⟩
  by_cases h : s.expires i
  · rw [expireTimer_queues (hiff.mp h)]
    have hq := (s.lowerTimer i).makeQueued_queue i
    rw [hcls] at hq
    refine ⟨fun _ => ⟨?_, hq⟩, fun k => absurd h k, fun j hj => ?_, rfl,
      (s.modTerm_same i _).then (State.makeQueued_same _ i) rfl rfl⟩
    · rw [State.makeQueued_term, hterm]
    · rw [State.makeQueued_others _ i j hj]
      exact s.modTerm_others i _ j hj
  · rw [expireTimer_stays fun k => h (hiff.mpr k)]
    exact ⟨fun k => absurd k h, fun _ => ⟨hterm, rfl⟩, s.modTerm_others i _, rfl, (s.modTerm_same i _).mono rfl⟩

theorem TickedAt.classes {s t : State} {i : Slot} (h : TickedAt s t i) :
    (fun j => (t.term j).cls.val) = fun j => (s.term j).cls.val := by
  funext j
  by_cases hj : j = i
  · subst hj
    by_cases k : s.expires j
    · rw [(h.queued k).1]
    · rw [(h.stays k).1]
  · rw [h.other j hj]

/-- The TMGR's walk of some DOWN terminals (R14, R59). -/
theorem foldl_ticks (l : List Slot) : ∀ s : State, l.Nodup → (∀ i ∈ l, (s.term i).state = .down) →
    let t := l.foldl (fun s i => (s.lowerTimer i).expireTimer i) s
    (∀ i ∈ l, t.term i = if s.expires i then { s.term i with state := .queued, timer := none }
      else { s.term i with timer := (s.term i).timer.map fun k => k - 1 }) ∧
    (∀ i, i ∉ l → t.term i = s.term i) ∧
    PlacedInTurn (fun j => (s.term j).cls.val) (l.filter fun i => decide (s.expires i)) s.reentry.queue t.reentry.queue ∧
    t.reentry = { s.reentry with queue := t.reentry.queue } ∧ SameBut [.terms, .reentry] s t := by
  induction l with
  | nil => exact fun s _ _ => ⟨by simp, fun _ _ => rfl, rfl, rfl, SameBut.refl _ s⟩
  | cons i rest ih =>
    intro s hn hok
    obtain ⟨hi, hr⟩ := List.nodup_cons.mp hn
    have first := tickedAt s i
    simp only [List.foldl_cons]
    generalize (s.lowerTimer i).expireTimer i = u at first
    have hterm (j : Slot) (hj : j ∈ rest) : u.term j = s.term j := first.other j fun e => hi (e ▸ hj)
    have hlink : u.link = s.link := first.same .link (by decide)
    have hexp (j : Slot) (hj : j ∈ rest) : u.expires j ↔ s.expires j := by
      rw [State.expires, State.expires, hterm j hj, hlink]
    obtain ⟨hin, hout, hplace, hre, hsame⟩ := ih u hr fun j hj => by rw [hterm j hj]; exact hok j (by simp [hj])
    have hfilter : (rest.filter fun j => decide (u.expires j)) = rest.filter fun j => decide (s.expires j) :=
      List.filter_congr fun j hj => by simp only [hexp j hj]
    rw [first.classes, hfilter] at hplace
    refine ⟨fun j hj => ?_, fun j hj => ?_, ?_, ?_, first.same.then hsame rfl rfl⟩
    · by_cases hjr : j ∈ rest
      · rw [hin j hjr]
        simp only [hexp j hjr, hterm j hjr]
      · obtain rfl : j = i := (List.mem_cons.mp hj).resolve_right hjr
        rw [hout j hjr]
        by_cases k : s.expires j
        · rw [if_pos k, (first.queued k).1]
        · rw [if_neg k, (first.stays k).1]
    · rw [hout j fun k => hj (by simp [k])]
      exact first.other j fun e => hj (by simp [e])
    · by_cases k : s.expires i
      · rw [List.filter_cons_of_pos (by simpa using k)]
        exact ⟨_, (first.queued k).2 ▸ placeByClass_placed _ _ _, hplace⟩
      · rw [List.filter_cons_of_neg (by simpa using k), ← (first.stays k).2]
        exact hplace
    · rw [hre, first.reentry]

/-- The DOWN terminals, in slot order (R14). -/
theorem downSlots_eq (s : State) : s.downSlots = (List.finRange 256).filter fun i => decide ((s.term i).state = .down) :=
  Table.keys_eq_filter s.terms _ fun _ => rfl

/-- A change of the link's state changes no other part. -/
theorem withLink_same (s : State) (k : Link) : SameBut [.link] s { s with link := k } := by
  intro p hp
  cases p <;> first | rfl | exact absurd (by decide) hp

/-- Settles O34: the frame events of the QMON and the TMGR, and the expiry of one timer. -/
theorem qmonAndTmgrFrameEvents : Obligations.QmonAndTmgrFrameEvents := by
  refine ⟨fun s n rest h => ?_, fun s n rest h => ?_, fun s i => ⟨fun hs ht hu => ?_, fun h => ?_⟩,
    fun s => ⟨fun h => ?_, fun h => ?_⟩⟩
  · show execQmonFrameEvent s = _
    rw [execQmonFrameEvent, h]
  · let v : State := { s with link := { s.link with announced := { s.link.announced with tmgr := rest } } }
    have hslots : v.downSlots = (List.finRange 256).filter fun i => decide ((s.term i).state = .down) := downSlots_eq v
    have hmem (i : Slot) : i ∈ v.downSlots ↔ (s.term i).state = .down := by rw [hslots]; simp
    have hexec : exec .tmgrFrameEvent s = .next v.walkDown := by
      show execTmgrFrameEvent s = _
      rw [execTmgrFrameEvent, h]
    obtain ⟨hin, hout, hplace, hre, hsame⟩ := foldl_ticks v.downSlots v (hslots ▸ (List.nodup_finRange 256).filter _)
      fun i hi => (hmem i).mp hi
    rw [State.walkDown] at hexec
    generalize v.downSlots.foldl (fun s i => (s.lowerTimer i).expireTimer i) v = t at hexec hin hout hplace hre hsame
    have hfilter : v.downSlots.filter (fun i => decide (v.expires i)) =
        (List.finRange 256).filter fun i => decide ((s.term i).state = .down ∧ s.link.sectorUp = true ∧
          ((s.term i).timer = some 0 ∨ (s.term i).timer = some 1)) := by
      rw [hslots, List.filter_filter]
      refine List.filter_congr fun i _ => ?_
      have hv : v.expires i ↔ s.expires i := Iff.rfl
      rw [Bool.eq_iff_iff, Bool.and_eq_true, decide_eq_true_iff, decide_eq_true_iff, decide_eq_true_iff, hv]
      exact ⟨fun k => k.1, fun k => ⟨k, k.1⟩⟩
    rw [hfilter] at hplace
    have hsv : SameBut [.link] s v := withLink_same s _
    refine ⟨t, hexec, hsame .link (by decide), fun i hs => ?_, fun i k hs hk => ?_, fun i => ?_, hplace,
      PlacedInTurn.sublist hplace, by rw [hre], by rw [hre], by rw [hre], hsv.then hsame rfl rfl⟩
    · exact hout i fun k => hs ((hmem i).mp k)
    · rw [hin i ((hmem i).mpr hs)]
      have hiff : v.expires i ↔ k ≤ 1 ∧ s.link.sectorUp = true := by
        show (s.term i).state = .down ∧ s.link.sectorUp = true ∧ ((s.term i).timer = some 0 ∨ (s.term i).timer = some 1) ↔ _
        rw [hk]
        simp only [hs, true_and, Option.some.injEq]
        exact ⟨fun ⟨a, b⟩ => ⟨by omega, a⟩, fun ⟨a, b⟩ => ⟨b, by omega⟩⟩
      by_cases e : k ≤ 1 ∧ s.link.sectorUp = true
      · rw [if_pos (hiff.mpr e), if_pos e]
        rfl
      · rw [if_neg fun x => e (hiff.mp x), if_neg e, show (v.term i).timer = some k from hk]
        rfl
    · rw [PlacedInTurn.mem_iff hplace, List.mem_filter, decide_eq_true_iff]
      refine or_congr_right ⟨fun ⟨_, hs, hu, ht⟩ => ⟨hs, hu, ?_⟩, fun ⟨hs, hu, k, hk, h1⟩ => ⟨by simp, hs, hu, ?_⟩⟩
      · rcases ht with ht | ht
        · exact ⟨0, ht, by omega⟩
        · exact ⟨1, ht, by omega⟩
      · rw [hk]
        simp only [Option.some.injEq]
        omega
  · refine ⟨s.makeQueued i, congrArg Host.Outcome.next (expireTimer_queues ⟨hs, ht, hu⟩), s.makeQueued_term i,
      s.makeQueued_others i, ?_, rfl, rfl, rfl, s.makeQueued_same i⟩
    rw [s.makeQueued_queue]
    exact placeByClass_placed _ _ _
  · refine congrArg Host.Outcome.next (expireTimer_stays ?_)
    rintro ⟨hs, ht, hu⟩
    rcases h with h | h | h
    · exact h hs
    · exact h ht
    · rw [hu] at h; cases h
  · show execQmonFrameEvent s = _
    rw [execQmonFrameEvent, h]
  · show execTmgrFrameEvent s = _
    rw [execTmgrFrameEvent, h]

end Sys2Proof.Machine

namespace Sys2Proof.Machine

/-! ### A response timer at a frame event -/

/-- The response timer of a context after a frame event, where it is lowered (R67). -/
def Attempt.lowered (a : Attempt) (n : FrameNo) : Option Nat :=
  if a.stage.waits = true ∧ a.slotFrame ≠ some (n + 2) then a.timer.map fun k => k - 1 else none

/-- A context's attempt after a frame event (R67, R74, R77). -/
def Attempt.ticked (a : Attempt) (n : FrameNo) : Option Attempt :=
  match a.lowered n with
  | none => some a
  | some (k + 1) => some { a with timer := some (k + 1) }
  | some 0 =>
    if a.parkPending = true ∨ 2 ≤ a.failures then none
    else some { a with
      stage := if a.stage = .inviteWait then .invitePending else .provePending
      timer := none, slotFrame := none, failures := a.failures + 1
      entryProfile := if a.stage = .inviteWait then a.entryProfile else some 0 }

/-- The failure of a timeout (R67). -/
def Attempt.timeoutOutcome (a : Attempt) : AttemptOutcome :=
  if a.stage = .inviteWait then .noResponse else .proveFailed

/-- The record of a context's terminal after a frame event (R13, R16, R67, R77). -/
def Attempt.tickedTerm (a : Attempt) (n : FrameNo) (backoff : Nat) (x : Terminal) : Terminal :=
  if a.lowered n = some 0 then
    if a.parkPending = true then { x with state := .parked, lastOutcome := some .parked }
    else if a.failures < 2 then x
    else { x with
      state := .down
      timer := some (backoff * 2 ^ min (min (x.failedAttempts + 1) 255 - 1) 6)
      failedAttempts := min (x.failedAttempts + 1) 255
      lastOutcome := some a.timeoutOutcome
      outageSeen := true
      counters := { x.counters with failed := min (x.counters.failed + 1) 4294967295 } }
  else x

/-- A context's attempt ends with a failure at a frame event (R67, R74). -/
def Attempt.failsAt (a : Attempt) (n : FrameNo) : Prop :=
  a.lowered n = some 0 ∧ a.parkPending = false ∧ 2 ≤ a.failures

/-- A context has taken a frame event (R67). -/
structure TickedCtx (n : FrameNo) (s t : State) (c : CtxNo) : Prop where
  ctx : t.ctx c = (s.ctx c).bind fun a => a.ticked n
  others : OtherContexts c s t
  term : ∀ a, s.ctx c = some a → t.term a.terminal = a.tickedTerm n s.setup.backoff (s.term a.terminal)
  otherTerms : ∀ i, (∀ a, s.ctx c = some a → a.terminal ≠ i) → t.term i = s.term i
  fails : ∀ a, s.ctx c = some a → a.failsAt n →
    t.mgmt = (s.mgmt.take s.setup.enable s.link.frame (.down a.terminal)).take s.setup.enable s.link.frame
      (.attempt a.terminal c a.timeoutOutcome (min ((s.term a.terminal).failedAttempts + 1) 255))
  quiet : (∀ a, s.ctx c = some a → ¬ a.failsAt n) → t.mgmt = s.mgmt
  reentry : SameReentryBut s t
  same : SameBut [.terms, .reentry, .mgmt] s t

/-- A context written twice holds what was written last. -/
theorem setCtx_setCtx (s : State) (c : CtxNo) (x y : Option Attempt) : (s.setCtx c x).setCtx c y = s.setCtx c y := by
  have h : (s.reentry.contexts.put c x).put c y = s.reentry.contexts.put c y := Table.ext_get _ _ fun d => by
    rw [Table.get_put, Table.get_put, Table.get_put]
    split <;> rfl
  simp only [State.setCtx, h]

section
variable {s : State} {c : CtxNo} {a : Attempt} {n : FrameNo}

/-- The timeout of a waiting stage, parked or failed (R67, R77). -/
theorem timeout_waiting (h : s.ctx c = some a) (ht : a.timer = some 0) (hw : a.stage.waits = true) :
    s.timeout c = if a.parkPending then s.endAttempt c a .parked false
      else (if a.stage = .inviteWait then s.failContext c a .noResponse .invitePending else s.failProving c a) := by
  cases e : a.stage
  case inviteWait => rw [timeout_invite h ht e]; simp
  case proveWait => rw [timeout_prove h ht e]; simp
  all_goals
    rw [e] at hw
    cases hw

/-- A frame event at a context lowers its timer, and is its timeout where that reaches 0 (R67). -/
theorem tickContext_eq (h : s.ctx c = some a) : s.tickContext n c = match a.lowered n with
    | none => s
    | some k => (s.setCtx c (some { a with timer := some k })).timeout c := by
  simp only [State.tickContext, h, Attempt.lowered]
  split
  · cases a.timer <;> rfl
  · rfl

theorem tickContext_free (h : s.ctx c = none) : s.tickContext n c = s := by
  simp only [State.tickContext, h]

/-- A timer that is lowered is that of a waiting stage. -/
theorem Attempt.waits_of_lowered {k : Nat} (h : a.lowered n = some k) : a.stage.waits = true := by
  unfold Attempt.lowered at h
  split at h
  · next k => exact k.1
  · cases h

/-- A timer above 0 does not time out. -/
theorem timeout_running {k : Nat} (h : s.ctx c = some a) (ht : a.timer = some (k + 1)) : s.timeout c = s := by
  simp [State.timeout, h, ht]

theorem tickedCtx_refl (h : ∀ a, s.ctx c = some a → a.lowered n = none) : TickedCtx n s s c where
  ctx := by
    cases e : s.ctx c with
    | none => rfl
    | some a => simp [Attempt.ticked, h a e]
  others _ _ := rfl
  term a ha := by simp [Attempt.tickedTerm, h a ha]
  otherTerms _ _ := rfl
  fails a ha k := by rw [Attempt.failsAt, h a ha] at k; cases k.1
  quiet _ := rfl
  reentry := ⟨rfl, rfl, rfl⟩
  same := SameBut.refl _ s

/-- A context whose attempt is replaced, its terminal kept, and no terminal or notice touched. -/
theorem tickedCtx_setCtx {a' : Attempt} (h : s.ctx c = some a) (hk : a.ticked n = some a')
    (hterm : ∀ x, a.tickedTerm n s.setup.backoff x = x) (hno : ¬ a.failsAt n) :
    TickedCtx n s (s.setCtx c (some a')) c where
  ctx := by rw [State.setCtx_ctx_same, h, Option.bind_some, hk]
  others _ hd := State.setCtx_ctx_other _ _ hd
  term b hb := by
    obtain rfl := Option.some.inj (h.symm.trans hb)
    exact (hterm _).symm
  otherTerms _ _ := rfl
  fails b hb k := by
    obtain rfl := Option.some.inj (h.symm.trans hb)
    exact absurd k hno
  quiet _ := rfl
  reentry := ⟨rfl, rfl, rfl⟩
  same := (s.setCtx_same c _).mono rfl

/-- A context whose attempt ends PARKED at its timeout (R77). -/
theorem tickedCtx_parked {b : Attempt} (h : s.ctx c = some a) (hb : b.terminal = a.terminal) (hl : a.lowered n = some 0)
    (hp : a.parkPending = true) : TickedCtx n s ((s.setCtx c (some b)).endAttempt c b .parked false) c := by
  obtain ⟨⟨hfree, hctx, hre, hterm, hoth, hm⟩, hsame⟩ :=
    (CountedAt.refl (s.setCtx c (some b)) a.terminal).parked (c := c) hb
  have only {x : Attempt} (hx : s.ctx c = some x) : x = a := Option.some.inj (hx.symm.trans h)
  refine ⟨?_, fun d hd => (hctx d hd).trans (State.setCtx_ctx_other _ _ hd), fun x hx => ?_, fun i hi => ?_,
    fun x hx k => ?_, fun _ => hm, hre, ((s.setCtx_same c _).then hsame rfl rfl)⟩
  · rw [hfree, h, Option.bind_some]
    simp [Attempt.ticked, hl, hp]
  · obtain rfl := only hx
    rw [hterm]
    simp [Attempt.tickedTerm, hl, hp]
  · exact hoth i fun e => hi a h e.symm
  · obtain rfl := only hx
    rw [Attempt.failsAt, hp] at k
    cases k.2.1

/-- A context whose attempt fails a third time at its timeout (R67, R74). -/
theorem tickedCtx_failed {b b' : Attempt} (h : s.ctx c = some a) (hb : b.terminal = a.terminal) (hl : a.lowered n = some 0)
    (hp : a.parkPending = false) (hf : 2 ≤ a.failures) (hback : 0 < s.setup.backoff) :
    TickedCtx n s ((s.setCtx c (some b')).endAttempt c b a.timeoutOutcome false) c := by
  have ho : a.timeoutOutcome.isFailure = true := by
    unfold Attempt.timeoutOutcome
    split <;> rfl
  obtain ⟨⟨hfree, hctx, hre, hterm, hoth, hm⟩, hsame⟩ :=
    (CountedAt.refl (s.setCtx c (some b')) a.terminal).failed (c := c) hb ho hback
  have only {x : Attempt} (hx : s.ctx c = some x) : x = a := Option.some.inj (hx.symm.trans h)
  refine ⟨?_, fun d hd => (hctx d hd).trans (State.setCtx_ctx_other _ _ hd), fun x hx => ?_, fun i hi => ?_,
    fun x hx _ => ?_, fun k => absurd ⟨hl, hp, hf⟩ (k a h), hre, ((s.setCtx_same c _).then hsame rfl rfl)⟩
  · rw [hfree, h, Option.bind_some]
    simp [Attempt.ticked, hl, hf]
  · obtain rfl := only hx
    rw [hterm]
    simp [Attempt.tickedTerm, hl, hp, not_lt.mpr hf]
  · exact hoth i fun e => hi a h e.symm
  · obtain rfl := only hx
    exact hm

theorem tickContext_ticked (s : State) (c : CtxNo) (n : FrameNo) (hb : 0 < s.setup.backoff) :
    TickedCtx n s (State.tickContext n s c) c := by
  cases h : s.ctx c with
  | none =>
    rw [tickContext_free h]
    exact tickedCtx_refl fun a ha => by rw [h] at ha; cases ha
  | some a =>
    rw [tickContext_eq h]
    cases hl : a.lowered n with
    | none => exact tickedCtx_refl fun b hb => by rw [← Option.some.inj (h.symm.trans hb)]; exact hl
    | some k =>
      cases k with
      | succ k =>
        simp only
        rw [timeout_running (State.setCtx_ctx_same _ _ _) rfl]
        exact tickedCtx_setCtx h (by simp [Attempt.ticked, hl]) (fun x => by simp [Attempt.tickedTerm, hl])
          fun k => by rw [Attempt.failsAt, hl] at k; cases k.1
      | zero =>
        have hw := Attempt.waits_of_lowered hl
        simp only
        rw [timeout_waiting (a := { a with timer := some 0 }) (State.setCtx_ctx_same _ _ _) rfl hw]
        simp only
        by_cases hp : a.parkPending = true
        · rw [if_pos hp]
          exact tickedCtx_parked h rfl hl hp
        · rw [if_neg hp]
          have hp : a.parkPending = false := by simpa using hp
          by_cases hf : a.failures < 2
          · have twice (x y : Attempt) : (s.setCtx c (some x)).setCtx c (some y) = s.setCtx c (some y) := setCtx_setCtx s c _ _
            have hk (e : Attempt) (he : a.ticked n = some e) : TickedCtx n s (s.setCtx c (some e)) c :=
              tickedCtx_setCtx h he (fun x => by simp [Attempt.tickedTerm, hl, hp, hf])
                fun k => absurd k.2.2 (not_le.mpr hf)
            by_cases hi : a.stage = .inviteWait
            · rw [if_pos hi, failContext_low (a := { a with timer := some 0 }) hf, twice]
              exact hk _ (by simp [Attempt.ticked, hl, hp, hi, not_le.mpr hf, Attempt.backTo])
            · rw [if_neg hi, State.failProving, failContext_low (a := { a with timer := some 0, entryProfile := some 0 }) hf, twice]
              exact hk _ (by simp [Attempt.ticked, hl, hp, hi, not_le.mpr hf, Attempt.backTo])
          · have hf : 2 ≤ a.failures := not_lt.mp hf
            by_cases hi : a.stage = .inviteWait
            · rw [if_pos hi, failContext_third (a := { a with timer := some 0 }) hf]
              have := tickedCtx_failed (b := { a with timer := some 0 }) (b' := { a with timer := some 0 }) h rfl hl hp hf hb
              rw [Attempt.timeoutOutcome, if_pos hi] at this
              exact this
            · rw [if_neg hi, State.failProving, failContext_third (a := { a with timer := some 0, entryProfile := some 0 }) hf]
              have := tickedCtx_failed (b := { a with timer := some 0, entryProfile := some 0 })
                (b' := { a with timer := some 0 }) h rfl hl hp hf hb
              rw [Attempt.timeoutOutcome, if_neg hi] at this
              exact this

end

/-! ### Every context at a frame event -/

/-- No two contexts hold an attempt of one terminal (R65). -/
def State.ctxDistinct (s : State) : Prop :=
  ∀ c d a b, s.ctx c = some a → s.ctx d = some b → a.terminal = b.terminal → c = d

/-- A ticked attempt that goes on has the terminal that it had. -/
theorem Attempt.ticked_terminal {a b : Attempt} {n : FrameNo} (h : a.ticked n = some b) : b.terminal = a.terminal := by
  unfold Attempt.ticked at h
  split at h
  · rw [← Option.some.inj h]
  · rw [← Option.some.inj h]
  · split at h
    · cases h
    · rw [← Option.some.inj h]

/-- What the notices of a frame event's timeouts make of the Management Agent, context by context (R13, R75). -/
def State.tickedMgmt (s : State) (n : FrameNo) (m : Management) (c : CtxNo) : Management :=
  match s.ctx c with
  | some a =>
    if a.lowered n = some 0 ∧ a.parkPending = false ∧ 2 ≤ a.failures then
      (m.take s.setup.enable s.link.frame (.down a.terminal)).take s.setup.enable s.link.frame
        (.attempt a.terminal c a.timeoutOutcome (min ((s.term a.terminal).failedAttempts + 1) 255))
    else m
  | none => m

/-- Some contexts have taken a frame event (R67). -/
structure TickedAll (n : FrameNo) (s t : State) (l : List CtxNo) : Prop where
  ctx : ∀ c, t.ctx c = if c ∈ l then (s.ctx c).bind fun a => a.ticked n else s.ctx c
  term : ∀ c ∈ l, ∀ a, s.ctx c = some a →
    t.term a.terminal = a.tickedTerm n s.setup.backoff (s.term a.terminal)
  otherTerms : ∀ i, (∀ c ∈ l, ∀ a, s.ctx c = some a → a.terminal ≠ i) → t.term i = s.term i
  mgmt : t.mgmt = l.foldl (s.tickedMgmt n) s.mgmt
  reentry : SameReentryBut s t
  same : SameBut [.terms, .reentry, .mgmt] s t

theorem TickedCtx.mgmt_eq {n : FrameNo} {s t : State} {c : CtxNo} (h : TickedCtx n s t c) :
    t.mgmt = s.tickedMgmt n s.mgmt c := by
  unfold State.tickedMgmt
  cases hc : s.ctx c with
  | none => exact h.quiet fun a ha => by rw [hc] at ha; cases ha
  | some a =>
    simp only
    split
    · next k => exact h.fails a hc k
    · next k => exact h.quiet fun b hb kb => k (Option.some.inj (hb.symm.trans hc) ▸ kb)

theorem foldl_tickContext (n : FrameNo) (l : List CtxNo) : ∀ s : State, l.Nodup → s.ctxDistinct → 0 < s.setup.backoff →
    TickedAll n s (l.foldl (State.tickContext n) s) l := by
  induction l with
  | nil => exact fun s _ _ _ => ⟨fun c => by simp, by simp, fun _ _ => rfl, rfl, ⟨rfl, rfl, rfl⟩, SameBut.refl _ s⟩
  | cons c rest ih =>
    intro s hn hd hb
    obtain ⟨hc, hr⟩ := List.nodup_cons.mp hn
    have first := tickContext_ticked s c n hb
    rw [List.foldl_cons]
    generalize State.tickContext n s c = u at first
    have hset : u.setup = s.setup := first.same .setup (by decide)
    have hlink : u.link = s.link := first.same .link (by decide)
    have ne (d : CtxNo) (hdr : d ∈ rest) : d ≠ c := fun e => hc (e ▸ hdr)
    have source (d : CtxNo) (b : Attempt) (h : u.ctx d = some b) : ∃ a, s.ctx d = some a ∧ a.terminal = b.terminal := by
      by_cases e : d = c
      · subst e
        rw [first.ctx] at h
        obtain ⟨a, ha, hab⟩ := Option.bind_eq_some_iff.mp h
        exact ⟨a, ha, (Attempt.ticked_terminal hab).symm⟩
      · exact ⟨b, (first.others d e).symm.trans h, rfl⟩
    have distinct : u.ctxDistinct := fun d e x y hx hy hxy => by
      obtain ⟨a, ha, hax⟩ := source d x hx
      obtain ⟨b, hb, hby⟩ := source e y hy
      exact hd d e a b ha hb (hax.trans (hxy.trans hby.symm))
    have hterm (d : CtxNo) (hdr : d ∈ rest) (b : Attempt) (h : s.ctx d = some b) : u.term b.terminal = s.term b.terminal :=
      first.otherTerms _ fun a ha e => ne d hdr (hd d c b a h ha e.symm)
    obtain ⟨rctx, rterm, rother, rmgmt, ⟨rq, rcr, rgr⟩, rsame⟩ := ih u hr distinct (hset ▸ hb)
    obtain ⟨fq, fcr, fgr⟩ := first.reentry
    refine ⟨fun d => ?_, fun d hdl a ha => ?_, fun i hi => ?_, ?_, ⟨rq.trans fq, rcr.trans fcr, rgr.trans fgr⟩,
      first.same.then rsame rfl rfl⟩
    · rw [rctx]
      by_cases hdr : d ∈ rest
      · simp [hdr, first.others d (ne d hdr)]
      · rw [if_neg hdr]
        by_cases e : d = c
        · subst e; rw [first.ctx]; simp
        · rw [first.others d e]; simp [e, hdr]
    · rcases List.mem_cons.mp hdl with rfl | hdr
      · rw [rother, first.term a ha]
        intro e her b hb heq
        rw [first.others e (ne e her)] at hb
        exact ne e her (hd e d b a hb ha heq)
      · have hu : u.ctx d = some a := (first.others d (ne d hdr)).trans ha
        rw [rterm d hdr a hu, hset, hterm d hdr a ha]
    · rw [rother i fun d hdr a ha => ?_, first.otherTerms i fun a ha => hi c (by simp) a ha]
      exact hi d (by simp [hdr]) a ((first.others d (ne d hdr)).symm.trans ha)
    · rw [rmgmt, List.foldl_cons, ← first.mgmt_eq]
      refine List.foldl_ext _ _ _ fun m d hdr => ?_
      unfold State.tickedMgmt
      rw [first.others d (ne d hdr), hset, hlink]
      cases hx : s.ctx d with
      | none => rfl
      | some a => simp only [hterm d hdr a hx]

end Sys2Proof.Machine

namespace Sys2Proof.Machine

/-! ### The taking of grants -/

/-- A grant taken keeps the terminal of every context (R66). -/
theorem takeGrant_terminals {s : State} {g : Grant} {d : CtxNo} {b : Attempt} (h : (s.takeGrant g).ctx d = some b) :
    ∃ a, s.ctx d = some a ∧ a.terminal = b.terminal := by
  unfold State.takeGrant at h
  split at h
  · exact ⟨b, h, rfl⟩
  · next a ha =>
    split at h
    · rw [State.setCtx_ctx] at h
      split at h
      · next e =>
        subst e
        refine ⟨a, ha, ?_⟩
        rw [← Option.some.inj h]
      · exact ⟨b, h, rfl⟩
    · exact ⟨b, h, rfl⟩

theorem takeGrant_reentry (s : State) (g : Grant) : SameReentryBut s (s.takeGrant g) := by
  unfold State.takeGrant
  split
  · exact ⟨rfl, rfl, rfl⟩
  · split <;> exact ⟨rfl, rfl, rfl⟩

/-- Taking a grant does not read the list of those handed and not yet taken. -/
theorem takeGrant_grants (s : State) (g : Grant) (l : List Grant) :
    ({ s with reentry := { s.reentry with grants := l } } : State).takeGrant g =
      { s.takeGrant g with reentry := { (s.takeGrant g).reentry with grants := l } } := by
  unfold State.takeGrant
  show (match s.ctx g.ctx with | none => _ | some a => _) = _
  cases s.ctx g.ctx with
  | none => rfl
  | some a =>
    simp only
    split <;> rfl

section
variable (l : List Grant)

theorem foldl_takeGrant_terminals : ∀ (s : State) (d : CtxNo) (b : Attempt), (l.foldl State.takeGrant s).ctx d = some b →
    ∃ a, s.ctx d = some a ∧ a.terminal = b.terminal := by
  induction l with
  | nil => exact fun _ _ b h => ⟨b, h, rfl⟩
  | cons g rest ih =>
    intro s d b h
    obtain ⟨x, hx, hb⟩ := ih (s.takeGrant g) d b h
    obtain ⟨a, ha, hax⟩ := takeGrant_terminals hx
    exact ⟨a, ha, hax.trans hb⟩

theorem foldl_takeGrant_reentry : ∀ s : State, SameReentryBut s (l.foldl State.takeGrant s) := by
  induction l with
  | nil => exact fun _ => ⟨rfl, rfl, rfl⟩
  | cons g rest ih =>
    intro s
    obtain ⟨a, b, c⟩ := takeGrant_reentry s g
    obtain ⟨x, y, z⟩ := ih (s.takeGrant g)
    exact ⟨x.trans a, y.trans b, z.trans c⟩

end

/-- Every grant handed is taken (R66): the contexts keep their terminals, the queue and the credit stay. -/
theorem takeGrants_spec (s : State) : s.takeGrants.reentry.grants = [] ∧
    s.takeGrants.reentry.queue = s.reentry.queue ∧ s.takeGrants.reentry.credit = s.reentry.credit ∧
    ∀ d b, s.takeGrants.ctx d = some b → ∃ a, s.ctx d = some a ∧ a.terminal = b.terminal := by
  obtain ⟨hq, hc, hg⟩ := foldl_takeGrant_reentry s.reentry.grants { s with reentry := { s.reentry with grants := [] } }
  exact ⟨hg, hq, hc, foldl_takeGrant_terminals _ _⟩

/-! ### Bindings -/

/-- The free contexts in ascending number (R63). -/
def State.freeContexts (s : State) : List CtxNo := allContexts.filter fun c => (s.ctx c).isNone

/-- The pairs of terminals and contexts that a frame event binds, and the state after (R63). -/
def State.bindAll (s : State) (l : List (Slot × CtxNo)) : State := l.foldl (fun s p => s.bindTo p.1 p.2) s

/-- The attempt of a terminal newly bound (R63). -/
def Attempt.fresh (i : Slot) : Attempt :=
  { terminal := i, stage := .invitePending, failures := 0, adjusts := 0, timer := none, slotFrame := none
    entryProfile := none, sample := none, parkPending := false }

/-- The record of a terminal newly bound (R16, R63). -/
def Terminal.boundNow (t : Terminal) : Terminal :=
  { t with state := .ranging, counters := { t.counters with attempts := min (t.counters.attempts + 1) 4294967295 } }

section
variable (s : State) (i : Slot) (c : CtxNo)

theorem bindTo_ctx (d : CtxNo) : (s.bindTo i c).ctx d = if d = c then some (Attempt.fresh i) else s.ctx d := by
  simp only [State.bindTo, State.setCredit_ctx, State.modTerm_ctx, State.setCtx_ctx]
  rfl

theorem bindTo_term (j : Slot) : (s.bindTo i c).term j = if j = i then (s.term i).boundNow else s.term j := by
  simp only [State.bindTo, State.setCredit_term, State.modTerm_term, State.setCtx_term]
  rfl

theorem bindTo_reentry : (s.bindTo i c).reentry.queue = s.reentry.queue.tail ∧
    (s.bindTo i c).reentry.credit = s.reentry.credit - 256 ∧ (s.bindTo i c).reentry.grants = s.reentry.grants :=
  ⟨rfl, rfl, rfl⟩

/-- The lowest free context is the first of the free ones. -/
theorem freeContext_eq : s.freeContext = s.freeContexts.head? := by
  rw [State.freeContext, State.freeContexts, List.head?_filter]

/-- Binding the first free context leaves the others free. -/
theorem bindTo_freeContexts {rest : List CtxNo} (h : s.freeContexts = c :: rest) : (s.bindTo i c).freeContexts = rest := by
  have hn : (c :: rest).Nodup := by
    rw [← h]
    exact (by decide : allContexts.Nodup).filter _
  have hf : (s.bindTo i c).freeContexts = s.freeContexts.filter fun d => decide (d ≠ c) := by
    rw [State.freeContexts, State.freeContexts, List.filter_filter]
    refine List.filter_congr fun d _ => ?_
    rw [bindTo_ctx]
    by_cases e : d = c <;> simp [e]
  rw [hf, h, List.filter_cons_of_neg (by simp), List.filter_eq_self]
  intro d hd
  exact decide_eq_true fun e => (List.nodup_cons.mp hn).1 (e ▸ hd)

end

/-- The bindings of a frame event: as many as credit, free contexts and queue allow, the head of the queue to the lowest
free context each time (R63). -/
theorem bindLoop_eq (m : Nat) : ∀ s : State, s.freeContexts.length ≤ m → ∀ k,
    k = min (s.reentry.credit / 256) (min s.freeContexts.length s.reentry.queue.length) →
    State.bindLoop m s = s.bindAll ((s.reentry.queue.take k).zip (s.freeContexts.take k)) := by
  induction m with
  | zero =>
    intro s h k hk
    have : k = 0 := by omega
    subst this
    rfl
  | succ m ih =>
    intro s h k hk
    rw [State.bindLoop, freeContext_eq]
    cases hq : s.reentry.queue with
    | nil => simp only [List.take_nil, List.zip_nil_left]; rfl
    | cons i q =>
      cases hf : s.freeContexts with
      | nil => simp only [List.take_nil, List.zip_nil_right, List.head?_nil]; rfl
      | cons c rest =>
        rw [hq, hf] at hk
        simp only [List.length_cons] at hk
        simp only [List.head?_cons]
        by_cases hc : 256 ≤ s.reentry.credit
        · obtain ⟨hbq, hbc, -⟩ := bindTo_reentry s i c
          have hbf := bindTo_freeContexts s i c hf
          rw [hq, List.tail_cons] at hbq
          obtain ⟨j, rfl⟩ : ∃ j, k = j + 1 := ⟨k - 1, by omega⟩
          rw [if_pos (show Config.bindCost ≤ _ from hc), ih (s.bindTo i c) (by rw [hbf]; rw [hf] at h; simpa using h) j
            (by rw [hbf, hbq, hbc]; omega), hbq, hbf]
          rfl
        · have : k = 0 := by omega
          subst this
          rw [if_neg (show ¬ Config.bindCost ≤ _ from hc)]
          rfl

/-- What the bindings of some pairs leave (R63). -/
theorem bindAll_spec (l : List (Slot × CtxNo)) : ∀ s : State, (l.map Prod.fst).Nodup → (l.map Prod.snd).Nodup →
    (∀ p ∈ l, (s.bindAll l).ctx p.2 = some (Attempt.fresh p.1)) ∧
    (∀ c, c ∉ l.map Prod.snd → (s.bindAll l).ctx c = s.ctx c) ∧
    (∀ i ∈ l.map Prod.fst, (s.bindAll l).term i = (s.term i).boundNow) ∧
    (∀ i, i ∉ l.map Prod.fst → (s.bindAll l).term i = s.term i) ∧
    (s.bindAll l).reentry.queue = s.reentry.queue.drop l.length ∧
    (s.bindAll l).reentry.credit = s.reentry.credit - 256 * l.length ∧
    (s.bindAll l).reentry.grants = s.reentry.grants ∧ SameBut [.terms, .reentry] s (s.bindAll l) := by
  induction l with
  | nil => exact fun s _ _ => ⟨by simp, fun _ _ => rfl, by simp, fun _ _ => rfl, rfl, rfl, rfl, SameBut.refl _ s⟩
  | cons p rest ih =>
    intro s hi hc
    obtain ⟨hi1, hi2⟩ := List.nodup_cons.mp hi
    obtain ⟨hc1, hc2⟩ := List.nodup_cons.mp hc
    obtain ⟨fq, fc, fg⟩ := bindTo_reentry s p.1 p.2
    obtain ⟨r1, r2, r3, r4, rq, rc, rg, rs⟩ := ih (s.bindTo p.1 p.2) hi2 hc2
    have e : s.bindAll (p :: rest) = (s.bindTo p.1 p.2).bindAll rest := rfl
    rw [e]
    refine ⟨fun x hx => ?_, fun c hcn => ?_, fun i hin => ?_, fun i hin => ?_, ?_, ?_, rg.trans fg,
      (s.bindTo_same p.1 p.2).then rs rfl rfl⟩
    · rcases List.mem_cons.mp hx with rfl | hx
      · rw [r2 x.2 hc1, bindTo_ctx, if_pos rfl]
      · exact r1 x hx
    · rw [List.map_cons, List.mem_cons, not_or] at hcn
      rw [r2 c hcn.2, bindTo_ctx, if_neg hcn.1]
    · rw [List.map_cons, List.mem_cons] at hin
      rcases hin with rfl | hin
      · rw [r4 p.1 hi1, bindTo_term, if_pos rfl]
      · rw [r3 i hin, bindTo_term, if_neg fun (h : i = p.1) => hi1 (h ▸ hin)]
    · rw [List.map_cons, List.mem_cons, not_or] at hin
      rw [r4 i hin.2, bindTo_term, if_neg hin.1]
    · rw [rq, fq, List.length_cons, ← List.drop_one, List.drop_drop, Nat.add_comm 1]
    · rw [rc, fc, List.length_cons]
      omega

/-- The credit step and the bindings with the sector UP (R62, R63). -/
theorem pace_eq {s : State} (h : s.link.sectorUp = true) : s.pace =
    (s.setCredit (min (s.reentry.credit + s.setup.pacer) 1024)).bindAll
      ((s.reentry.queue.take (min (min (s.reentry.credit + s.setup.pacer) 1024 / 256)
        (min s.freeContexts.length s.reentry.queue.length))).zip
      (s.freeContexts.take (min (min (s.reentry.credit + s.setup.pacer) 1024 / 256)
        (min s.freeContexts.length s.reentry.queue.length)))) := by
  rw [State.pace, if_pos h]
  exact bindLoop_eq 4 (s.setCredit (min (s.reentry.credit + s.setup.pacer) 1024)) (List.length_filter_le _ _) _ rfl

/-- What a frame event with the sector UP binds: the head of the queue to the free contexts in order, as many as the
credit earned, the free contexts and the queue allow (R62, R63). -/
theorem pace_binds {s : State} (h : s.link.sectorUp = true) (hq : s.reentry.queue.Nodup) {e k : Nat}
    (he : e = min (s.reentry.credit + s.setup.pacer) 1024)
    (hk : k = min (e / 256) (min s.freeContexts.length s.reentry.queue.length)) :
    (∀ (j : Nat) (i : Slot) (c : CtxNo), j < k → s.reentry.queue[j]? = some i → s.freeContexts[j]? = some c →
      s.pace.ctx c = some (Attempt.fresh i)) ∧
    (∀ c, c ∉ s.freeContexts.take k → s.pace.ctx c = s.ctx c) ∧
    (∀ i ∈ s.reentry.queue.take k, s.pace.term i = (s.term i).boundNow) ∧
    (∀ i, i ∉ s.reentry.queue.take k → s.pace.term i = s.term i) ∧
    s.pace.reentry.queue = s.reentry.queue.drop k ∧ s.pace.reentry.credit = e - 256 * k ∧
    s.pace.reentry.grants = s.reentry.grants ∧ SameBut [.terms, .reentry] s s.pace := by
  have hpace := pace_eq h
  rw [← he, ← hk] at hpace
  have hlq : (s.reentry.queue.take k).length = k := by rw [List.length_take]; omega
  have hlf : (s.freeContexts.take k).length = k := by rw [List.length_take]; omega
  have hfst := List.map_fst_zip (l₁ := s.reentry.queue.take k) (l₂ := s.freeContexts.take k) (by omega)
  have hsnd := List.map_snd_zip (l₁ := s.reentry.queue.take k) (l₂ := s.freeContexts.take k) (by omega)
  have hlen : ((s.reentry.queue.take k).zip (s.freeContexts.take k)).length = k := by
    rw [List.length_zip, hlq, hlf, min_self]
  have hfree : s.freeContexts.Nodup := (by decide : allContexts.Nodup).filter _
  have spec := bindAll_spec ((s.reentry.queue.take k).zip (s.freeContexts.take k)) (s.setCredit e)
    (by rw [hfst]; exact hq.sublist (List.take_sublist _ _)) (by rw [hsnd]; exact hfree.sublist (List.take_sublist _ _))
  rw [hfst, hsnd, hlen, ← hpace] at spec
  obtain ⟨hbound, hctx, hterm, hother, hqueue, hcredit, hgrants, hsame⟩ := spec
  refine ⟨fun j i c hj hi hc => hbound (i, c) (List.mem_iff_getElem?.mpr ⟨j, ?_⟩), hctx, hterm, hother, hqueue, hcredit,
    hgrants, (s.setCredit_same e).then hsame rfl rfl⟩
  rw [List.getElem?_zip_eq_some, List.getElem?_take_of_lt hj, List.getElem?_take_of_lt hj]
  exact ⟨hi, hc⟩

/-! ### The REC's frame event -/

/-- The timer of a context that is lowered, as the statements and as the model's ticks say it (R67). -/
theorem lowers_iff (n : FrameNo) (a : Attempt) (k : Nat) :
    Lowers n a k ↔ a.timer = some k ∧ a.stage.waits = true ∧ a.slotFrame ≠ some (n + 2) := by
  have : a.stage.waits = true ↔ a.stage = .inviteWait ∨ a.stage = .proveWait := by
    cases a.stage <;> simp [Stage.waits]
  rw [Lowers, this]
  exact ⟨fun ⟨h1, h2, h3⟩ => ⟨h3, h1, h2⟩, fun ⟨h1, h2, h3⟩ => ⟨h2, h3, h1⟩⟩

theorem lowered_of_lowers {n : FrameNo} {a : Attempt} {k : Nat} (h : Lowers n a k) : a.lowered n = some (k - 1) := by
  obtain ⟨ht, hw⟩ := (lowers_iff n a k).mp h
  rw [Attempt.lowered, if_pos hw, ht]
  rfl

theorem lowered_of_not_lowers {n : FrameNo} {a : Attempt} (h : ∀ k, ¬ Lowers n a k) : a.lowered n = none := by
  unfold Attempt.lowered
  split
  · next hw =>
    cases ht : a.timer with
    | none => rfl
    | some k => exact absurd ((lowers_iff n a k).mpr ⟨ht, hw⟩) (h k)
  · rfl

theorem timesOut_iff (n : FrameNo) (a : Attempt) : TimesOut n a ↔ a.lowered n = some 0 := by
  constructor
  · rintro (h | h) <;> rw [lowered_of_lowers h]
  · intro h
    unfold Attempt.lowered at h
    split at h
    · next hw =>
      obtain ⟨k, hk, h0⟩ := Option.map_eq_some_iff.mp h
      have : k = 0 ∨ k = 1 := by omega
      rcases this with rfl | rfl
      · exact .inl ((lowers_iff n a 0).mpr ⟨hk, hw⟩)
      · exact .inr ((lowers_iff n a 1).mpr ⟨hk, hw⟩)
    · cases h

/-- Settles O35: the frame event of the REC. -/
theorem reentryFrameEventPaces : Obligations.ReentryFrameEventPaces := by
  refine ⟨fun s h => ?_, fun s x rest h => ?_, fun s n rest h hsound hback => ?_, fun s h => ?_⟩
  · rw [State.takeGrants, h]
    show ({ s with reentry := { s.reentry with grants := [] } } : State) = s
    rw [← h]
  · refine ⟨{ s with reentry := { s.reentry with grants := rest } }.takeGrant x, ?_, ?_⟩
    · show execGrantTake s = _
      rw [execGrantTake, h]
    · rw [State.takeGrants, State.takeGrants, h, takeGrant_grants, List.foldl_cons, takeGrant_grants]
  · intro g numbers
    let w : State := { s with link := { s.link with announced := { s.link.announced with reec := rest } } }
    obtain ⟨hqn, hq, hr, hdist⟩ := hsound
    obtain ⟨hgrants, hqueue, hcredit, hsource⟩ := takeGrants_spec w
    have hgs : SameBut [.reentry] w g := w.takeGrants_same
    have hgterm (i : Slot) : g.term i = s.term i := term_of_terms (hgs .terms (by decide)) i
    have hgset : g.setup = s.setup := hgs .setup (by decide)
    have hglink : g.link = w.link := hgs .link (by decide)
    have hdistinct : g.ctxDistinct := fun c d a b ha hb hab => by
      obtain ⟨x, hx, hxa⟩ := hsource c a ha
      obtain ⟨y, hy, hyb⟩ := hsource d b hb
      exact hdist c d x y hx hy (hxa.trans (hab.trans hyb.symm))
    have hranging (c : CtxNo) (a : Attempt) (ha : g.ctx c = some a) : (s.term a.terminal).state = .ranging := by
      obtain ⟨x, hx, hxa⟩ := hsource c a ha
      exact (hr _).mpr ⟨c, x, hx, hxa⟩
    have all := foldl_tickContext n numbers g (by decide) hdistinct (by rw [hgset]; exact hback)
    have hexec : exec .recFrameEvent s = .next (numbers.foldl (State.tickContext n) g).pace := by
      show execRecFrameEvent s = _
      rw [execRecFrameEvent, h]
      rfl
    generalize numbers.foldl (State.tickContext n) g = v at all hexec
    obtain ⟨hvctx, hvterm, hvother, hvmgmt, ⟨hvq, hvc, hvg⟩, hvsame⟩ := all
    have hmem (c : CtxNo) : c ∈ numbers := by revert c; decide
    have hctx (c : CtxNo) (a : Attempt) (ha : g.ctx c = some a) : v.ctx c = a.ticked n := by
      rw [hvctx, if_pos (hmem c), ha]; rfl
    have hterm (c : CtxNo) (a : Attempt) (ha : g.ctx c = some a) :
        v.term a.terminal = a.tickedTerm n s.setup.backoff (g.term a.terminal) := by
      rw [hvterm c (hmem c) a ha, hgset]
    have hqueued (i : Slot) (hi : i ∈ s.reentry.queue) : v.term i = s.term i := by
      rw [hvother i fun c _ a ha e => ?_, hgterm]
      have := hranging c a ha
      rw [e, (hq i).mp hi] at this
      cases this
    have hlink : v.link.sectorUp = s.link.sectorUp := by
      rw [show v.link = g.link from hvsame .link (by decide), hglink]
    refine ⟨v, _, hexec, fun c hc => ?_, fun c a ha hno => ?_, fun c a k ha hlow => ?_, fun i hi => ?_, ?_,
      ⟨hvq, hvc, hvg⟩, hvsame, fun hu => ?_, fun hu => ?_⟩
    · rw [hvctx, if_pos (hmem c), hc]; rfl
    · have hl := lowered_of_not_lowers hno
      rw [hctx c a ha, hterm c a ha]
      simp [Attempt.ticked, Attempt.tickedTerm, hl]
    · have hl := lowered_of_lowers hlow
      simp only [hctx c a ha, hterm c a ha]
      refine ⟨fun hk => ?_, fun hk hp => ?_, fun hk hp hf => ?_, fun hk hp hf => ?_⟩
      · obtain ⟨j, rfl⟩ : ∃ j, k = j + 2 := ⟨k - 2, by omega⟩
        simp [Attempt.ticked, Attempt.tickedTerm, hl]
      · have hl : a.lowered n = some 0 := by rw [hl]; congr 1; omega
        simp [Attempt.ticked, Attempt.tickedTerm, hl, hp]
      · have hl : a.lowered n = some 0 := by rw [hl]; congr 1; omega
        simp [Attempt.ticked, Attempt.tickedTerm, hl, hp, hf, not_le.mpr hf]
      · have hl : a.lowered n = some 0 := by rw [hl]; congr 1; omega
        simp [Attempt.ticked, Attempt.tickedTerm, Attempt.timeoutOutcome, hl, hp, hf, not_lt.mpr hf]
    · exact hvother i fun c _ a ha => hi c a ha
    · rw [hvmgmt]
      refine List.foldl_ext _ _ _ fun m c _ => ?_
      unfold State.tickedMgmt
      have hframe : g.link.frame = s.link.frame := by rw [hglink]
      cases g.ctx c with
      | none => rfl
      | some a => simp only [timesOut_iff, hgset, hframe, Attempt.timeoutOutcome]
    · rw [State.pace, if_neg (by rw [hlink, hu]; nofun)]
    · have hup : v.link.sectorUp = true := hlink.trans hu
      have hvset : v.setup = s.setup := (hvsame .setup (by decide)).trans hgset
      have hvqueue : v.reentry.queue = s.reentry.queue := hvq.trans hqueue
      intro free earned k
      have he : earned = min (v.reentry.credit + v.setup.pacer) 1024 := by
        rw [hvset, hvc.trans hcredit]
      have hk : k = min (earned / 256) (min v.freeContexts.length v.reentry.queue.length) := by
        rw [hvqueue]; rfl
      have binds := pace_binds hup (by rw [hvqueue]; exact hqn) he hk
      rw [hvqueue] at binds
      obtain ⟨b1, b2, b3, b4, b5, b6, b7, b8⟩ := binds
      refine ⟨b5, b6, b7.trans (hvg.trans hgrants), b1, b2, fun i hi => ?_, b4, b8⟩
      rw [b3 i hi, hqueued i (List.mem_of_mem_take hi)]
      rfl
  · show execRecFrameEvent s = _
    rw [execRecFrameEvent, h]

end Sys2Proof.Machine

namespace Sys2Proof.Machine

/-! ### A report leaves the terminals but for their states -/

/-- The report of RAMPING terminals changes of a terminal no field but its state (R19, R115). -/
theorem reportRamping_term (s : State) (i : Slot) :
    s.reportRamping.term i = { s.term i with state := (s.reportRamping.term i).state } := by
  obtain ⟨h, -⟩ := State.foldl_toInService (s.terms.keys fun i t => decide (t.state = .ramping) && !s.hasWaiting i) s
  rw [show s.reportRamping.term i = _ from h i]

/-- A terminal is serviced after a report as before it. -/
theorem reportRamping_serviced (s : State) (i : Slot) :
    (s.reportRamping.term i).state.serviced = (s.term i).state.serviced := by
  rw [s.reportRamping_reported.1 i]
  split
  · next h => exact (congrArg TermState.serviced h.1).symm
  · rfl

theorem reportRamping_flow (s : State) (f : FlowIdx) : s.reportRamping.flow f = s.flow f :=
  flow_of_flows (s.reportRamping_same .flows (by decide)) f

theorem reportRamping_need (s : State) (i : Slot) (x : Direction) :
    (s.reportRamping.term i).need x = (s.term i).need x := by
  rw [reportRamping_term]
  cases x <;> rfl

theorem reportRamping_needWith (s : State) (i : Slot) (x : Direction) (extra : List FlowIdx) :
    s.reportRamping.needWith i x extra = s.needWith i x extra := by
  have hf := reportRamping_flow s
  have ht := reportRamping_term s i
  refine needWith_congr (reportRamping_serviced s i) (by rw [ht]) (chain_congr (by rw [ht]) fun f => by rw [hf])
    (congrArg Setup.m (s.reportRamping_same .setup (by decide))) (s.reportRamping_same .profiles (by decide))
    fun f _ => ?_
  simp only [State.counts, hf, iff_self, and_self]

/-- A report as the statements say it: of a state whose terminals stand in given states, with the setup and the frame
number of the state before (R19, R115). -/
theorem reported_of {s v : State} {before : Slot → TermState} {m : Management}
    (h : SameBut [.terms, .flows, .ledger, .buffer, .mgmt] s v) (hs : ∀ j, (v.term j).state = before j) (hm : v.mgmt = m) :
    Reported s v.reportRamping before m := by
  obtain ⟨hstates, hnotices⟩ := v.reportRamping_reported
  rw [show (fun j => (v.term j).state) = before from funext hs] at hstates hnotices
  rw [hm, show v.setup = s.setup from h .setup (by decide), show v.link = s.link from h .link (by decide)] at hnotices
  exact ⟨hstates, hnotices⟩

theorem Reported.controller {s t : State} {before : Slot → TermState} {m : Management} (h : Reported s t before m) :
    t.mgmt.controller = m.controller := by
  have fold (l : List Slot) : l.foldl (fun m i => m.take s.setup.enable s.link.frame (.inService i)) m =
      (l.map NoticeBody.inService).foldl (fun m b => m.take s.setup.enable s.link.frame b) m := List.foldl_map.symm
  rw [h.2, fold, take_foldl_controller]

/-- A report changes no chain. -/
theorem reportRamping_chain (s : State) (j : Slot) : s.reportRamping.chain j = s.chain j :=
  chain_congr (by rw [reportRamping_term]) fun f => by rw [reportRamping_flow]

/-! ### The admission of one flow -/

/-- The record of a flow newly admitted (R102, R140). -/
def Flow.admittedNow (r : Flow) : Flow :=
  { r with
    state := .admitted, credit := 0
    marker := if r.dir = .down ∧ r.queue ≠ [] then
      some { remaining := r.queue.length, released := 0, discarded := 0 } else r.marker }

/-- A flow ADMITTED and out of the list, before the needs are recomputed (R114). -/
def State.admitBare (s : State) (f : FlowIdx) : State :=
  (s.modFlow f fun r => { r with state := .admitted, credit := 0 }).unlist f

section
variable (s : State) (i : Slot) (f : FlowIdx)

theorem admitBare_flow (g : FlowIdx) : (s.admitBare f).flow g =
    if g = f then { s.flow f with state := .admitted, credit := 0 } else s.flow g := by
  rw [State.admitBare, State.unlist_flow, State.modFlow_flow]

theorem makeAdmitted_eq : s.makeAdmitted i f = ((s.admitBare f).reprice i).setMarker f := rfl

theorem makeAdmitted_flow (g : FlowIdx) :
    (s.makeAdmitted i f).flow g = if g = f then (s.flow f).admittedNow else s.flow g := by
  have hu (g : FlowIdx) : ((s.admitBare f).reprice i).flow g =
      if g = f then { s.flow f with state := .admitted, credit := 0 } else s.flow g := admitBare_flow s f g
  rw [makeAdmitted_eq]
  have hf := hu f
  rw [if_pos rfl] at hf
  unfold State.setMarker
  split
  · next h =>
    rw [hf] at h
    rw [State.modFlow_flow, hf, hu]
    by_cases e : g = f
    · rw [if_pos e, if_pos e]
      simp only [Flow.admittedNow, if_pos h]
    · rw [if_neg e, if_neg e, if_neg e]
  · next h =>
    rw [hf] at h
    rw [hu]
    simp only [Flow.admittedNow, if_neg h]

/-- The marker plays no part in needs, loads and list. -/
theorem makeAdmitted_terms : (s.makeAdmitted i f).terms = ((s.admitBare f).reprice i).terms :=
  ((s.admitBare f).reprice i).setMarker_same f .terms (by decide)

theorem makeAdmitted_ledger : (s.makeAdmitted i f).ledger = ((s.admitBare f).reprice i).ledger :=
  ((s.admitBare f).reprice i).setMarker_same f .ledger (by decide)

theorem makeAdmitted_load (x : Direction) : (s.makeAdmitted i f).load x = ((s.admitBare f).reprice i).load x := by
  cases x <;> simp only [State.load, makeAdmitted_ledger]

theorem makeAdmitted_list : (s.makeAdmitted i f).ledger.list = s.ledger.list.filter (· ≠ f) := by
  rw [makeAdmitted_ledger]
  rfl

end

theorem Flow.admittedNow_admittedNow (r : Flow) : r.admittedNow.admittedNow = r.admittedNow := by
  by_cases h : r.dir = .down ∧ r.queue ≠ []
  · simp only [Flow.admittedNow, if_pos h]
  · simp only [Flow.admittedNow, if_neg h]

/-! ### Runs of admissions -/

/-- What the admissions of a list of flows leave (R114). -/
structure AdmitRun (u v : State) (l : List FlowIdx) : Prop where
  flow : ∀ g, v.flow g = if g ∈ l then (u.flow g).admittedNow else u.flow g
  term : ∀ j, v.term j = { u.term j with needUp := (v.term j).needUp, needDown := (v.term j).needDown }
  list : v.ledger.list = u.ledger.list.filter fun f => decide (f ∉ l)
  same : SameBut [.terms, .flows, .ledger] u v
  loads : LoadsSound u → LoadsSound v
  needs : ChainsSound u → NeedsSound u → NeedsSound v

section
variable {u v w : State} {l l' : List FlowIdx}

theorem AdmitRun.fields (h : AdmitRun u v l) (f : FlowIdx) : (v.flow f).bound = (u.flow f).bound ∧
    (v.flow f).cls = (u.flow f).cls ∧ (v.flow f).chainNext = (u.flow f).chainNext ∧ (v.flow f).dir = (u.flow f).dir ∧
    (v.flow f).cb = (u.flow f).cb := by
  rw [h.flow]; split <;> exact ⟨rfl, rfl, rfl, rfl, rfl⟩

theorem AdmitRun.state (h : AdmitRun u v l) (j : Slot) : (v.term j).state = (u.term j).state := by
  rw [h.term]

theorem AdmitRun.chain (h : AdmitRun u v l) (j : Slot) : v.chain j = u.chain j :=
  chain_congr (by rw [h.term]) fun f => (h.fields f).2.2.1

theorem AdmitRun.chainsSound (h : AdmitRun u v l) (k : ChainsSound u) : ChainsSound v :=
  k.congr (fun f => ⟨(h.fields f).1, (h.fields f).2.1, (h.fields f).2.2.1⟩) fun j => by rw [h.term]

/-- A need after admissions is the need before with the flows admitted counted besides. -/
theorem AdmitRun.needWith (h : AdmitRun u v l) (j : Slot) (x : Direction) (extra : List FlowIdx) :
    v.needWith j x extra = u.needWith j x (l ++ extra) := by
  refine needWith_congr (by rw [h.term]) (by rw [h.term]) (h.chain j)
    (congrArg Setup.m (h.same .setup (by decide))) (h.same .profiles (by decide))
    fun f _ => ⟨?_, (h.fields f).2.2.2.2⟩
  simp only [State.counts, (h.fields f).2.2.2.1, List.mem_append]
  refine and_congr_right fun _ => ?_
  rw [h.flow]
  by_cases hf : f ∈ l <;> simp [hf, Flow.admittedNow]

theorem AdmitRun.refl (u : State) : AdmitRun u u [] where
  flow g := by simp
  term j := rfl
  list := by simp
  same := SameBut.refl _ u
  loads h := h
  needs _ h := h

theorem AdmitRun.append (h : AdmitRun u v l) (k : AdmitRun v w l') : AdmitRun u w (l ++ l') where
  flow g := by
    rw [k.flow, h.flow]
    by_cases h1 : g ∈ l <;> by_cases h2 : g ∈ l' <;> simp [h1, h2, Flow.admittedNow_admittedNow]
  term j := by rw [k.term, h.term]
  list := by
    rw [k.list, h.list, List.filter_filter]
    refine List.filter_congr fun f _ => ?_
    simp [Bool.and_comm]
  same := h.same.then k.same rfl rfl
  loads hu := k.loads (h.loads hu)
  needs hc hn := k.needs (h.chainsSound hc) (h.needs hc hn)

end

/-- One flow admitted is a run of one. -/
theorem makeAdmitted_run {s : State} {i : Slot} {f : FlowIdx} (hb : (s.flow f).bound = some i) :
    AdmitRun s (s.makeAdmitted i f) [f] := by
  let u := s.admitBare f
  have hflow (g : FlowIdx) : (s.makeAdmitted i f).flow g = if g ∈ [f] then (s.flow g).admittedNow else s.flow g := by
    rw [makeAdmitted_flow]
    by_cases e : g = f
    · subst e; simp
    · simp [e]
  have hterm (j : Slot) : (s.makeAdmitted i f).term j = if j = i then
      { s.term i with needUp := u.needWith i .up [], needDown := u.needWith i .down [] } else s.term j := by
    rw [term_of_terms (makeAdmitted_terms s i f), reprice_term]
    rfl
  have hkeep (j : Slot) : (s.makeAdmitted i f).term j = { s.term j with
      needUp := ((s.makeAdmitted i f).term j).needUp, needDown := ((s.makeAdmitted i f).term j).needDown } := by
    rw [hterm]
    split
    · next e => subst e; rfl
    · rfl
  have hsame := s.makeAdmitted_same i f
  refine ⟨hflow, hkeep, ?_, hsame, fun _ => ?_, fun hc hn j x => ?_⟩
  · rw [makeAdmitted_list]
    exact List.filter_congr fun g _ => by simp
  · exact (reprice_loadsSound u i).congr (makeAdmitted_load s i f) fun j x => by
      rw [term_of_terms (makeAdmitted_terms s i f)]
  · have hread (t : State) (ht : t.terms = s.terms) (hset : t.setup = s.setup) (hprof : t.profiles = s.profiles)
        (hf : ∀ g ∈ s.chain j, ((s.makeAdmitted i f).flow g).state = (t.flow g).state)
        (hg : ∀ g, (t.flow g).dir = (s.flow g).dir ∧ (t.flow g).cb = (s.flow g).cb ∧
          (t.flow g).chainNext = (s.flow g).chainNext) :
        (s.makeAdmitted i f).needWith j x [] = t.needWith j x [] := by
      have hd (g : FlowIdx) : ((s.makeAdmitted i f).flow g).dir = (s.flow g).dir ∧
          ((s.makeAdmitted i f).flow g).cb = (s.flow g).cb ∧
          ((s.makeAdmitted i f).flow g).chainNext = (s.flow g).chainNext := by
        rw [hflow]; split <;> exact ⟨rfl, rfl, rfl⟩
      have htj : t.term j = s.term j := term_of_terms ht j
      have hch : t.chain j = s.chain j := chain_congr (by rw [htj]) fun g => (hg g).2.2
      refine needWith_congr (by rw [htj, hkeep]) (by rw [htj, hkeep])
        ((chain_congr (by rw [hkeep]) fun g => (hd g).2.2).trans hch.symm)
        (by rw [hset, hsame .setup (by decide)]) (by rw [hprof, hsame .profiles (by decide)]) fun g hgc => ?_
      rw [hch] at hgc
      simp only [State.counts, hf g hgc, (hd g).1, (hd g).2.1, (hg g).1, (hg g).2.1, iff_self, and_self]
    by_cases e : j = i
    · subst e
      rw [hread u rfl rfl rfl (fun g _ => ?_) fun g => ?_, hterm, if_pos rfl]
      · cases x <;> rfl
      · rw [makeAdmitted_flow, admitBare_flow]
        split <;> rfl
      · rw [admitBare_flow]
        split
        · next e => subst e; exact ⟨rfl, rfl, rfl⟩
        · exact ⟨rfl, rfl, rfl⟩
    · have hne (g : FlowIdx) (hg : g ∈ s.chain j) : g ≠ f := by
        rintro rfl
        exact e (Option.some.inj (((hc.1 j g).mp hg).symm.trans hb))
      rw [hterm, if_neg e, hn j x]
      refine (hread s rfl rfl rfl (fun g hg => ?_) fun g => ⟨rfl, rfl, rfl⟩).symm
      rw [makeAdmitted_flow, if_neg (hne g hg)]

/-- The loads of an admission lie by the change of its terminal's need off the sums before (R108). -/
theorem makeAdmitted_load_need (s : State) (i : Slot) (f : FlowIdx) (h : LoadsSound s) (x : Direction) :
    (s.makeAdmitted i f).load x + (s.term i).need x = s.load x + ((s.makeAdmitted i f).term i).need x := by
  let u := s.admitBare f
  have hl : s.load x = s.terms.total fun t => t.need x := by
    rw [total_need_eq_sum]
    exact (loadsSound_iff s).mp h x
  have hr : (u.reprice i).load x = (u.reprice i).terms.total fun t => t.need x := by
    rw [total_need_eq_sum]
    exact (loadsSound_iff _).mp (reprice_loadsSound u i) x
  rw [makeAdmitted_load, hl, hr, term_of_terms (makeAdmitted_terms s i f)]
  have put := Table.total_put s.terms (fun t : Terminal => t.need x) (by cases x <;> rfl) i
    { s.term i with needUp := u.needWith i .up [], needDown := u.needWith i .down [] }
  have ht : (u.reprice i).term i = { s.term i with needUp := u.needWith i .up [], needDown := u.needWith i .down [] } := by
    rw [reprice_term, if_pos rfl]
    rfl
  rw [ht]
  exact put

/-! ### The walk of the Readmission List -/

/-- Whether an entry of the Readmission List is one of a RAMPING or IN_SERVICE terminal (R113). -/
def State.mayJoin (s : State) (f : FlowIdx) : Bool :=
  match (s.flow f).bound with
  | some i => (s.term i).state.active
  | none => false

/-- A bound flow is admitted for its terminal (R114). -/
def State.admitOne (s : State) (f : FlowIdx) : State :=
  match (s.flow f).bound with
  | some i => s.makeAdmitted i f
  | none => s

/-- A list of flows admitted in its order (R113). -/
def State.admitAll (s : State) (l : List FlowIdx) : State := l.foldl State.admitOne s

/-- Whether a bound flow passes the admission test (R109). -/
def State.passesTest (s : State) (f : FlowIdx) : Prop := ∀ i, (s.flow f).bound = some i → s.admissible i f = true

theorem mayJoin_bound {s : State} {f : FlowIdx} (h : s.mayJoin f = true) :
    ∃ i, (s.flow f).bound = some i ∧ (s.term i).state.active = true := by
  unfold State.mayJoin at h
  split at h
  · next i hi => exact ⟨i, hi, h⟩
  · cases h

theorem admitOne_eq {s : State} {f : FlowIdx} {i : Slot} (h : (s.flow f).bound = some i) :
    s.admitOne f = s.makeAdmitted i f := by
  rw [State.admitOne, h]

theorem AdmitRun.mayJoin {u v : State} {l : List FlowIdx} (h : AdmitRun u v l) (f : FlowIdx) :
    v.mayJoin f = u.mayJoin f := by
  unfold State.mayJoin
  rw [(h.fields f).1]
  cases (u.flow f).bound with
  | none => rfl
  | some i => exact congrArg TermState.active (h.state i)

/-- Admissions of bound flows make a run. -/
theorem admitAll_run (l : List FlowIdx) : ∀ s : State, (∀ f ∈ l, s.mayJoin f = true) → AdmitRun s (s.admitAll l) l := by
  induction l with
  | nil => exact fun s _ => AdmitRun.refl s
  | cons f rest ih =>
    intro s h
    obtain ⟨i, hi, -⟩ := mayJoin_bound (h f List.mem_cons_self)
    have run := makeAdmitted_run hi
    have e : s.admitAll (f :: rest) = (s.makeAdmitted i f).admitAll rest := by
      rw [← admitOne_eq hi]; rfl
    rw [e]
    exact run.append (l' := rest) (ih _ fun g hg => (run.mayJoin g).trans (h g (List.mem_cons_of_mem _ hg)))

/-- A scan of some eligible entries with room for some admissions admits the first `k`: each passes its test in turn,
and the next fails its own where there is room for it (R113). -/
structure ScanTakes (s : State) (room : Nat) (eligible : List FlowIdx) (k : Nat) : Prop where
  length : k ≤ eligible.length
  fits : k ≤ room
  stops : ∀ f, k < room → eligible[k]? = some f → ¬ (s.admitAll (eligible.take k)).passesTest f
  passes : ∀ j f, j < k → eligible[j]? = some f → (s.admitAll (eligible.take j)).passesTest f

theorem scanTakes_zero {s : State} {room : Nat} {l : List FlowIdx}
    (h : ∀ f, 0 < room → l[0]? = some f → ¬ s.passesTest f) : ScanTakes s room l 0 :=
  ⟨Nat.zero_le _, Nat.zero_le _, h, fun j _ hj => absurd hj (Nat.not_lt_zero j)⟩

theorem ScanTakes.succ {s : State} {room k : Nat} {f : FlowIdx} {l : List FlowIdx} (hp : s.passesTest f)
    (h : ScanTakes (s.admitOne f) room l k) : ScanTakes s (room + 1) (f :: l) (k + 1) := by
  refine ⟨Nat.succ_le_succ h.length, Nat.succ_le_succ h.fits, fun g hg => h.stops g (by omega), fun j g hj hg => ?_⟩
  cases j with
  | zero => exact Option.some.inj hg ▸ hp
  | succ j => exact h.passes j g (by omega) hg

/-- The walk of the list admits a leading part of its eligible entries (R113). -/
theorem scanWalk_takes (l : List FlowIdx) : ∀ (done : List FlowIdx) (s : State),
    ∃ k, State.scanWalk l done s =
        (done.reverse ++ (l.filter s.mayJoin).take k, s.admitAll ((l.filter s.mayJoin).take k)) ∧
      ScanTakes s (s.setup.rMax - done.length) (l.filter s.mayJoin) k := by
  induction l with
  | nil => exact fun done s => ⟨0, by simp [State.scanWalk, State.admitAll], scanTakes_zero fun f _ hf => by cases hf⟩
  | cons f rest ih =>
    intro done s
    by_cases hmax : s.setup.rMax ≤ done.length
    · refine ⟨0, ?_, scanTakes_zero fun g hg => by omega⟩
      rw [State.scanWalk, if_pos hmax]
      simp [State.admitAll]
    by_cases hj : s.mayJoin f = true
    · obtain ⟨i, hi, ha⟩ := mayJoin_bound hj
      have hw : State.scanWalk (f :: rest) done s =
          if s.admissible i f then State.scanWalk rest (f :: done) (s.admitOne f) else (done.reverse, s) := by
        rw [State.scanWalk, if_neg hmax, admitOne_eq hi, hi]
        exact if_pos ha
      have htest : s.passesTest f ↔ s.admissible i f = true :=
        ⟨fun h => h i hi, fun h j hj => Option.some.inj (hi.symm.trans hj) ▸ h⟩
      rw [List.filter_cons_of_pos hj, hw]
      by_cases hp : s.admissible i f = true
      · have run : AdmitRun s (s.admitOne f) [f] := admitOne_eq hi ▸ makeAdmitted_run hi
        have hfil : (s.admitOne f).mayJoin = s.mayJoin := funext run.mayJoin
        have hset : (s.admitOne f).setup = s.setup := run.same .setup (by decide)
        obtain ⟨k, hwalk, htakes⟩ := ih (f :: done) (s.admitOne f)
        rw [hfil] at hwalk htakes
        rw [hset, List.length_cons] at htakes
        refine ⟨k + 1, ?_, ?_⟩
        · rw [if_pos hp, hwalk, List.take_succ_cons, List.reverse_cons, List.append_assoc]
          rfl
        · rw [show s.setup.rMax - done.length = s.setup.rMax - (done.length + 1) + 1 by omega]
          exact htakes.succ (htest.mpr hp)
      · refine ⟨0, ?_, scanTakes_zero fun g _ hg => ?_⟩
        · rw [if_neg hp]
          simp [State.admitAll]
        · exact Option.some.inj hg ▸ mt htest.mp hp
    · have hw : State.scanWalk (f :: rest) done s = State.scanWalk rest done s := by
        rw [State.scanWalk, if_neg hmax]
        cases hb : (s.flow f).bound with
        | none => rfl
        | some i =>
          rw [State.mayJoin, hb] at hj
          exact if_neg hj
      rw [List.filter_cons_of_neg hj, hw]
      exact ih done s

end Sys2Proof.Machine

namespace Sys2Proof.Machine

/-! ### The readmission scan -/

/-- The needs and loads of a state after the first of some flows are admitted (R107, R108). -/
theorem admitAll_sound {s : State} {l : List FlowIdx} (hl : ∀ f ∈ l, s.mayJoin f = true) (hc : ChainsSound s)
    (hn : NeedsSound s) (ho : LoadsSound s) (x : Direction) :
    (∀ i, ((s.admitAll l).term i).need x = s.needWith i x l) ∧
    (s.admitAll l).load x = ((List.finRange 256).map fun i => s.needWith i x l).sum := by
  have run := admitAll_run l s hl
  have hneed (i : Slot) : ((s.admitAll l).term i).need x = s.needWith i x l := by
    rw [run.needs hc hn i x, run.needWith, List.append_nil]
  refine ⟨hneed, ?_⟩
  rw [(loadsSound_iff _).mp (run.loads ho) x]
  simp only [hneed]

/-- A flow that passes its test leaves its terminal's need as it was or the load within the ceiling (R109). -/
theorem passes_fits {s : State} {l : List FlowIdx} {f : FlowIdx} {i : Slot} (hl : ∀ g ∈ l ++ [f], s.mayJoin g = true)
    (hc : ChainsSound s) (hn : NeedsSound s) (ho : LoadsSound s) (hb : (s.flow f).bound = some i)
    (hp : (s.admitAll l).passesTest f) :
    s.needWith i (s.flow f).dir (l ++ [f]) = s.needWith i (s.flow f).dir l ∨
      ((List.finRange 256).map fun j => s.needWith j (s.flow f).dir (l ++ [f])).sum ≤
        s.setup.ceiling (s.flow f).dir := by
  have hl' (g : FlowIdx) (hg : g ∈ l) : s.mayJoin g = true := hl g (List.mem_append_left _ hg)
  have run := admitAll_run l s hl'
  have hfields := run.fields f
  have hset : (s.admitAll l).setup = s.setup := run.same .setup (by decide)
  obtain ⟨hneed, -⟩ := admitAll_sound hl' hc hn ho (s.flow f).dir
  obtain ⟨hneed', hload'⟩ := admitAll_sound hl hc hn ho (s.flow f).dir
  have hstep : s.admitAll (l ++ [f]) = (s.admitAll l).makeAdmitted i f := by
    rw [State.admitAll, List.foldl_append]
    exact admitOne_eq (hfields.1.trans hb)
  have hdiff := makeAdmitted_load_need (s.admitAll l) i f (run.loads ho) (s.flow f).dir
  rw [← hstep, hneed, hneed', hload'] at hdiff
  have htest := hp i (hfields.1.trans hb)
  rw [State.admissible] at htest
  simp only [hfields.2.2.2.1, run.needWith, hneed, hset, Bool.or_eq_true, decide_eq_true_eq] at htest
  rcases htest with h | h
  · right; omega
  · left; exact h

/-- The link plays no part in needs. -/
theorem withLink_needWith (s : State) (k : Link) (i : Slot) (x : Direction) (extra : List FlowIdx) :
    ({ s with link := k } : State).needWith i x extra = s.needWith i x extra :=
  needWith_congr rfl rfl (chain_congr rfl fun _ => rfl) rfl rfl fun _ _ => ⟨Iff.rfl, rfl⟩

/-- What a scan leaves: the flows admitted, the needs and loads, the report of RAMPING terminals (R113 to R115). -/
theorem scan_takes (s : State) : ∃ k, ScanTakes s s.setup.rMax (s.ledger.list.filter s.mayJoin) k ∧
    s.scan = (if (s.ledger.list.filter s.mayJoin).take k = [] then s.admitAll ((s.ledger.list.filter s.mayJoin).take k)
      else (s.admitAll ((s.ledger.list.filter s.mayJoin).take k)).raise
        (.admitted ((s.ledger.list.filter s.mayJoin).take k))).reportRamping := by
  obtain ⟨k, hwalk, htakes⟩ := scanWalk_takes s.ledger.list [] s
  refine ⟨k, htakes, ?_⟩
  rw [State.scan, hwalk]
  rfl

/-- What the notice of the flows admitted changes before the report: the Management Agent alone. -/
def State.announceAdmitted (s : State) (l : List FlowIdx) : State := if l = [] then s else s.raise (.admitted l)

theorem announceAdmitted_same (s : State) (l : List FlowIdx) : SameBut [.mgmt] s (s.announceAdmitted l) := by
  unfold State.announceAdmitted
  split
  · exact SameBut.refl _ s
  · exact State.raise_same _ _

theorem announceAdmitted_mgmt (s : State) (l : List FlowIdx) :
    (s.announceAdmitted l).mgmt = if l = [] then s.mgmt else s.notified (.admitted l) := by
  unfold State.announceAdmitted
  split <;> rfl

theorem announceAdmitted_needWith (s : State) (l : List FlowIdx) (i : Slot) (x : Direction) (extra : List FlowIdx) :
    (s.announceAdmitted l).needWith i x extra = s.needWith i x extra := by
  have h := announceAdmitted_same s l
  have ht : (s.announceAdmitted l).term i = s.term i := term_of_terms (h .terms (by decide)) i
  have hf (f : FlowIdx) : (s.announceAdmitted l).flow f = s.flow f := flow_of_flows (h .flows (by decide)) f
  refine needWith_congr (by rw [ht]) (by rw [ht]) (chain_congr (by rw [ht]) fun f => by rw [hf])
    (congrArg Setup.m (h .setup (by decide))) (h .profiles (by decide)) fun f _ => ?_
  simp only [State.counts, hf, iff_self, and_self]

/-- Settles O37: the readmission scan. -/
theorem readmissionIsHeadOfLine : Obligations.ReadmissionIsHeadOfLine := by
  refine ⟨fun s n rest h => ?_, fun s h => ?_⟩
  · let w : State := { s with link := { s.link with announced := { s.link.announced with cled := rest } } }
    intro eligible
    obtain ⟨k, htakes, hscan⟩ := scan_takes w
    change ScanTakes w s.setup.rMax eligible k at htakes
    have hexec : exec .readmissionScan s = .next w.scan := by
      show execReadmissionScan s = _
      rw [execReadmissionScan, h]
    have hmay (f : FlowIdx) (hf : f ∈ eligible) : w.mayJoin f = true := (List.mem_filter.mp hf).2
    have run := admitAll_run (eligible.take k) w fun f hf => hmay f (List.mem_of_mem_take hf)
    let v := w.admitAll (eligible.take k)
    let u := v.announceAdmitted (eligible.take k)
    change w.scan = u.reportRamping at hscan
    have hvu : SameBut [.mgmt] v u := announceAdmitted_same v _
    have hut : SameBut [.terms, .mgmt] u u.reportRamping := u.reportRamping_same
    have hsame : SameBut [.terms, .flows, .ledger, .mgmt] w u.reportRamping :=
      (run.same.then hvu (rs := [.terms, .flows, .ledger, .mgmt]) rfl rfl).then hut rfl rfl
    have hflow (f : FlowIdx) : u.reportRamping.flow f = v.flow f :=
      (reportRamping_flow u f).trans (flow_of_flows (hvu .flows (by decide)) f)
    have hterm (i : Slot) : u.term i = v.term i := term_of_terms (hvu .terms (by decide)) i
    have hneed (i : Slot) (x : Direction) : (u.reportRamping.term i).need x = (v.term i).need x := by
      rw [reportRamping_need, hterm]
    have hneedWith (i : Slot) (x : Direction) (extra : List FlowIdx) :
        u.reportRamping.needWith i x extra = v.needWith i x extra := by
      rw [reportRamping_needWith, announceAdmitted_needWith]
    have hledger : u.reportRamping.ledger = v.ledger :=
      (hut .ledger (by decide)).trans (hvu .ledger (by decide))
    have hload (x : Direction) : u.reportRamping.load x = v.load x := by
      cases x <;> simp only [State.load, hledger]
    have hset : u.reportRamping.setup = s.setup := hsame .setup (by decide)
    refine ⟨w.scan, k, hexec, ?_, htakes.length, htakes.fits, ?_, fun f hf => ?_, fun f hf => ?_,
      fun f i hk hf hb => ?_, fun hc hl => ?_, fun i => ?_, ?_, ?_⟩ <;> rw [hscan]
    · exact hsame .link (by decide)
    · rw [hledger]
      exact run.list
    · rw [hflow, run.flow, if_pos hf]
      rfl
    · rw [hflow, run.flow, if_neg hf]
      rfl
    · have hfail := htakes.stops f hk hf
      have hfields := run.fields f
      have hb' : (v.flow f).bound = some i := hfields.1.trans hb
      have htest : ¬ v.admissible i f = true := fun ha => hfail fun j hj => by
        rw [← Option.some.inj (hb'.symm.trans hj)]
        exact ha
      have hdir : (v.flow f).dir = (s.flow f).dir := hfields.2.2.2.1
      have hvset : v.setup = s.setup := run.same .setup (by decide)
      rw [hneed, hneedWith, hload, hset]
      simp only [State.admissible, hdir, hvset, Bool.or_eq_true, decide_eq_true_eq, not_or, not_le] at htest
      exact ⟨htest.2, htest.1⟩
    · obtain ⟨-, hn, hlu, hld, -, -⟩ := hl
      have hwn (i : Slot) (x : Direction) (extra : List FlowIdx) : w.needWith i x extra = s.needWith i x extra :=
        withLink_needWith s _ i x extra
      have hcw : ChainsSound w := hc.congr (fun _ => ⟨rfl, rfl, rfl⟩) fun _ => rfl
      have hnw : NeedsSound w := fun i x => (hn i x).trans (hwn i x []).symm
      have how : LoadsSound w := ⟨hlu, hld⟩
      intro need load
      refine ⟨fun j f i hj hf hb => ?_, fun x => ?_⟩
      · have hsucc : eligible.take (j + 1) = eligible.take j ++ [f] := by
          rw [List.take_add_one, hf]; rfl
        have hpass := passes_fits (s := w) (l := eligible.take j)
          (fun g hg => hmay g (by rw [← hsucc] at hg; exact List.mem_of_mem_take hg)) hcw hnw how hb
          (htakes.passes j f hj hf)
        rw [← hsucc] at hpass
        simp only [hwn] at hpass
        exact hpass
      · obtain ⟨hneeds, hloads⟩ := admitAll_sound (fun f hf => hmay f (List.mem_of_mem_take hf)) hcw hnw how x
        simp only [hwn] at hneeds hloads
        exact ⟨(hload x).trans hloads, fun i => (hneed i x).trans (hneeds i)⟩
    · rw [reportRamping_term, hterm, run.term]
      rfl
    · have hnil : eligible.take k = [] ↔ k = 0 := by
        rw [List.take_eq_nil_iff]
        have := htakes.length
        constructor
        · rintro (h | h)
          · exact h
          · rw [h] at this; exact Nat.le_zero.mp this
        · exact .inl
      have hvm : v.mgmt = w.mgmt := run.same .mgmt (by decide)
      have hvset : v.setup = w.setup := run.same .setup (by decide)
      have hvlink : v.link = w.link := run.same .link (by decide)
      have hmgmt : u.mgmt = if k = 0 then w.mgmt else w.notified (.admitted (eligible.take k)) := by
        rw [announceAdmitted_mgmt]
        simp only [hnil, State.notified, hvm, hvset, hvlink]
      exact reported_of (s := w) (run.same.then hvu rfl rfl) (fun j => (congrArg _ (hterm j)).trans (run.state j)) hmgmt
    · exact ((withLink_same s _).then hsame (rs := [.terms, .flows, .link, .ledger, .mgmt]) rfl rfl)
  · show execReadmissionScan s = _
    rw [execReadmissionScan, h]

end Sys2Proof.Machine

namespace Sys2Proof.Machine

/-! ### Chains relinked (R86) -/

/-- A walk along chain next depends on the links of the flows it meets. -/
theorem walkChain_congr_on {s t : State} (n : Nat) : ∀ o : Option FlowIdx,
    (∀ f ∈ s.walkChain n o, (t.flow f).chainNext = (s.flow f).chainNext) → t.walkChain n o = s.walkChain n o := by
  induction n with
  | zero => exact fun _ _ => rfl
  | succ n ih =>
    intro o h
    cases o with
    | none => rfl
    | some f =>
      rw [State.walkChain] at h
      rw [State.walkChain, State.walkChain, h f List.mem_cons_self,
        ih _ fun g hg => h g (List.mem_cons_of_mem f hg)]

/-- A chain depends on its head and the links of its flows. -/
theorem chain_congr_on {s t : State} {i : Slot} (hh : (t.term i).chainHead = (s.term i).chainHead)
    (h : ∀ f ∈ s.chain i, (t.flow f).chainNext = (s.flow f).chainNext) : t.chain i = s.chain i := by
  rw [State.chain, hh]
  exact walkChain_congr_on _ _ h

theorem walkChain_length (s : State) (n : Nat) : ∀ o, (s.walkChain n o).length ≤ n := by
  induction n with
  | zero => exact fun _ => le_rfl
  | succ n ih =>
    intro o
    cases o with
    | none => exact Nat.zero_le _
    | some f => exact Nat.succ_le_succ (ih _)

/-- A chain holds at most 16 flows (R86). -/
theorem chain_length (s : State) (i : Slot) : (s.chain i).length ≤ 16 := walkChain_length s _ _

theorem relink_term (l : List FlowIdx) : ∀ (s : State) (j : Slot), (s.relink l).term j = s.term j := by
  induction l with
  | nil => exact fun _ _ => rfl
  | cons f rest ih => exact fun s j => ih _ j

/-- Linking flows leaves the others as they are. -/
theorem relink_flow_notMem (l : List FlowIdx) : ∀ (s : State) (g : FlowIdx), g ∉ l → (s.relink l).flow g = s.flow g := by
  induction l with
  | nil => exact fun _ _ _ => rfl
  | cons f rest ih =>
    intro s g hg
    rw [List.mem_cons, not_or] at hg
    rw [State.relink, ih _ g hg.2, State.modFlow_flow, if_neg hg.1]

/-- Linking flows changes no field of a flow but its link. -/
theorem relink_flow (l : List FlowIdx) : ∀ (s : State) (g : FlowIdx),
    (s.relink l).flow g = { s.flow g with chainNext := ((s.relink l).flow g).chainNext } := by
  induction l with
  | nil => exact fun _ _ => rfl
  | cons f rest ih =>
    intro s g
    rw [State.relink, ih, State.modFlow_flow]
    split
    · next e => rw [e]
    · rfl

/-- The flows linked are met from the first on, in their order. -/
theorem relink_walk (l : List FlowIdx) : ∀ (s : State) (n : Nat), l.Nodup → l.length ≤ n →
    (s.relink l).walkChain n l.head? = l := by
  induction l with
  | nil => intro s n _ _; cases n <;> rfl
  | cons f rest ih =>
    intro s n hn hl
    obtain ⟨hf, hrest⟩ := List.nodup_cons.mp hn
    obtain ⟨m, rfl⟩ : ∃ m, n = m + 1 := ⟨n - 1, by rw [List.length_cons] at hl; omega⟩
    have hnext : ((s.relink (f :: rest)).flow f).chainNext = rest.head? := by
      rw [State.relink, relink_flow_notMem rest _ f hf, State.modFlow_flow, if_pos rfl]
    rw [List.head?_cons, State.walkChain, hnext]
    exact congrArg _ (ih _ m hrest (Nat.le_of_succ_le_succ hl))

section
variable (s : State) (i : Slot) (l : List FlowIdx)

theorem setChain_term (j : Slot) : (s.setChain i l).term j =
    if j = i then { s.term i with chainHead := l.head? } else s.term j := by
  rw [State.setChain, relink_term, State.modTerm_term]

theorem setChain_flow (g : FlowIdx) :
    (s.setChain i l).flow g = { s.flow g with chainNext := ((s.setChain i l).flow g).chainNext } := relink_flow l _ g

theorem setChain_flow_notMem {g : FlowIdx} (h : g ∉ l) : (s.setChain i l).flow g = s.flow g :=
  relink_flow_notMem l _ g h

/-- A terminal given a chain has it. -/
theorem setChain_chain (hn : l.Nodup) (hl : l.length ≤ 16) : (s.setChain i l).chain i = l := by
  rw [State.chain, setChain_term, if_pos rfl]
  exact relink_walk l _ _ hn hl

/-- A chain given to one terminal leaves the chain of another whose flows it does not hold. -/
theorem setChain_chain_other {j : Slot} (hj : j ≠ i) (h : ∀ g ∈ s.chain j, g ∉ l) :
    (s.setChain i l).chain j = s.chain j :=
  chain_congr_on (by rw [setChain_term, if_neg hj]) fun g hg => by rw [setChain_flow_notMem s i l (h g hg)]

end

/-! ### A flow unlinked (R88, R91) -/

section
variable (s : State) (i : Slot) (f : FlowIdx)

theorem unlinkFlow_flow (g : FlowIdx) : (s.unlinkFlow i f).flow g =
    { s.flow g with chainNext := ((s.unlinkFlow i f).flow g).chainNext } := by
  rw [State.unlinkFlow, State.modFlow_flow]
  split
  · next e => rw [e, setChain_flow]
  · exact setChain_flow s i _ g

theorem unlinkFlow_flow_same : (s.unlinkFlow i f).flow f = { s.flow f with chainNext := none } := by
  rw [State.unlinkFlow, State.modFlow_flow, if_pos rfl, setChain_flow_notMem]
  simp

theorem unlinkFlow_flow_notMem {g : FlowIdx} (hg : g ≠ f) (h : g ∉ s.chain i) :
    (s.unlinkFlow i f).flow g = s.flow g := by
  rw [State.unlinkFlow, State.modFlow_flow, if_neg hg, setChain_flow_notMem]
  exact fun hm => h (List.mem_of_mem_filter hm)

theorem unlinkFlow_term (j : Slot) : (s.unlinkFlow i f).term j =
    { s.term j with chainHead := ((s.unlinkFlow i f).term j).chainHead } := by
  rw [State.unlinkFlow, State.modFlow_term, setChain_term]
  split
  · next e => rw [e]
  · rfl

theorem unlinkFlow_term_other {j : Slot} (hj : j ≠ i) : (s.unlinkFlow i f).term j = s.term j := by
  rw [State.unlinkFlow, State.modFlow_term, setChain_term, if_neg hj]

/-- The other flows of the chain keep their order (R91). -/
theorem unlinkFlow_chain (hn : (s.chain i).Nodup) :
    (s.unlinkFlow i f).chain i = (s.chain i).filter fun g => decide (g ≠ f) := by
  have hset := setChain_chain s i ((s.chain i).filter (· ≠ f)) (hn.filter _)
    ((List.length_filter_le _ _).trans (chain_length s i))
  have hkeep : (s.unlinkFlow i f).chain i = (s.setChain i ((s.chain i).filter (· ≠ f))).chain i :=
    chain_congr_on rfl fun g hg => by
      rw [hset, List.mem_filter, decide_eq_true_iff] at hg
      rw [State.unlinkFlow, State.modFlow_flow, if_neg hg.2]
  exact hkeep.trans hset

/-- The chain of another terminal stands where it shares no flow with this one. -/
theorem unlinkFlow_chain_other {j : Slot} (hj : j ≠ i) (h : ∀ g ∈ s.chain j, g ≠ f ∧ g ∉ s.chain i) :
    (s.unlinkFlow i f).chain j = s.chain j :=
  chain_congr_on (by rw [unlinkFlow_term_other s i f hj]) fun g hg => by
    rw [unlinkFlow_flow_notMem s i f (h g hg).1 (h g hg).2]

end

end Sys2Proof.Machine

namespace Sys2Proof.Machine

/-! ### Flows unbound, enabled and disabled -/

section
variable (s : State) (i : Slot) (f : FlowIdx)

/-- A flow unlinked and unbound, before the report (R91). -/
def State.unbound : State := (s.unlinkFlow i f).modFlow f fun r => { r with bound := none }

theorem unbound_same : SameBut [.terms, .flows] s (s.unbound i f) :=
  (s.unlinkFlow_same i f).then (State.modFlow_same _ f _) rfl rfl

theorem unbound_flow_same : (s.unbound i f).flow f = { s.flow f with bound := none, chainNext := none } := by
  rw [State.unbound, State.modFlow_flow, if_pos rfl, unlinkFlow_flow_same]

theorem unbound_flow_other {g : FlowIdx} (h : g ≠ f) : (s.unbound i f).flow g =
    { s.flow g with chainNext := ((s.unbound i f).flow g).chainNext } := by
  rw [State.unbound, State.modFlow_flow, if_neg h, unlinkFlow_flow]

theorem unbound_term (j : Slot) : (s.unbound i f).term j =
    { s.term j with chainHead := ((s.unbound i f).term j).chainHead } := by
  rw [State.unbound, State.modFlow_term]
  exact unlinkFlow_term s i f j

theorem unbound_chain (j : Slot) : (s.unbound i f).chain j = (s.unlinkFlow i f).chain j :=
  chain_congr rfl fun g => by
    rw [State.unbound, State.modFlow_flow]
    split
    · next e => rw [e]
    · rfl

theorem unbind_eq {s : State} {i : Slot} {f : FlowIdx} (h : (s.flow f).bound = some i) :
    s.unbind f = (s.unbound i f).reportRamping := by
  rw [State.unbind, h]
  rfl

theorem makeWaiting_flow (c : Cause) (g : FlowIdx) :
    (s.makeWaiting f c).flow g = if g = f then { s.flow f with state := .waiting c } else s.flow g := by
  rw [State.makeWaiting, State.placeReadmission_flow, State.modFlow_flow]

theorem makeWaiting_list (c : Cause) :
    (s.makeWaiting f c).ledger.list = placeByClass (fun g => (s.flow g).cls.val) f s.ledger.list := withdraw_list s f c

theorem enable_eq {s : State} {i : Slot} {f : FlowIdx} (h : (s.flow f).bound = some i)
    (hd : (s.flow f).state = .disabled) : s.enable f = ((s.makeWaiting f .new).noteWaiting i).reportRamping := by
  rw [State.enable, if_pos hd, noteFlowWaiting_some]
  rw [makeWaiting_flow, if_pos rfl]
  exact h

theorem makeDisabled_flow (g : FlowIdx) : (s.makeDisabled f).flow g =
    if g = f then { s.flow f with state := .disabled, credit := 0, marker := none } else s.flow g := by
  simp only [State.makeDisabled, State.dropCredit, State.modFlow_flow]
  split <;> rfl

theorem flushQueue_flow (g : FlowIdx) : (s.flushQueue f).flow g = if g = f then
    { s.flow f with
      queue := []
      counters := { (s.flow f).counters with
        flush := min ((s.flow f).counters.flush + (s.flow f).queue.length) 4294967295 } } else s.flow g := by
  rw [State.flushQueue, State.freeUp_flow, State.modFlow_flow]
  rfl

theorem flushQueue_buffer : (s.flushQueue f).buffer =
    { s.buffer with freeCells := s.buffer.freeCells + (s.flow f).cellsHeld } := rfl

/-- The needs of a flow's terminal recomputed, and the loads with them (R107, R108). -/
theorem repriceFlow_repriced : Repriced s (s.repriceFlow f) (s.flow f).bound := by
  unfold State.repriceFlow
  cases (s.flow f).bound with
  | none => exact ⟨fun _ _ => rfl, fun _ => ⟨rfl, rfl⟩, fun h => absurd rfl h⟩
  | some i =>
    refine ⟨fun j x => ?_, fun h => (nomatch h), fun _ => reprice_loadsSound s i⟩
    by_cases e : j = i
    · subst e
      rw [if_pos rfl]
      exact reprice_need s j x
    · rw [if_neg fun h => e (Option.some.inj h).symm]
      exact congrArg (fun t => Terminal.need t x) ((reprice_term s i j).trans (if_neg e))

theorem repriceFlow_term (j : Slot) : (s.repriceFlow f).term j = { s.term j with
    needUp := ((s.repriceFlow f).term j).needUp, needDown := ((s.repriceFlow f).term j).needDown } := by
  unfold State.repriceFlow
  split
  · rw [reprice_term]
    split
    · next e => rw [e]
    · rfl
  · rfl

theorem repriceFlow_list : (s.repriceFlow f).ledger.list = s.ledger.list := by
  unfold State.repriceFlow
  split <;> rfl

theorem repriceFlow_flow (g : FlowIdx) : (s.repriceFlow f).flow g = s.flow g :=
  flow_of_flows (s.repriceFlow_same f .flows (by decide)) g

end

/-- What a need reads in another state with the same terminals but for their states in service, and the same flows in
what the needs read. -/
theorem needWith_kept {s t : State} {x : Direction} {i : Slot} {extra : List FlowIdx}
    (hs : (t.term i).state.serviced = (s.term i).state.serviced) (hc : (t.term i).current = (s.term i).current)
    (hh : (t.term i).chainHead = (s.term i).chainHead) (hset : t.setup = s.setup) (hp : t.profiles = s.profiles)
    (hf : ∀ f, (t.flow f).chainNext = (s.flow f).chainNext ∧ (t.flow f).dir = (s.flow f).dir ∧
      (t.flow f).state = (s.flow f).state ∧ (t.flow f).cb = (s.flow f).cb) :
    t.needWith i x extra = s.needWith i x extra := by
  refine needWith_congr hs hc (chain_congr hh fun f => (hf f).1) (congrArg Setup.m hset) hp fun f _ => ?_
  obtain ⟨-, hd, hst, hcb⟩ := hf f
  simp only [State.counts, hd, hst, hcb, iff_self, and_self]

/-- Needs and loads as repriced stay so where what they read stays (R108). -/
theorem Repriced.mono {s u v : State} {b : Option Slot} (h : Repriced s u b)
    (ht : ∀ i x, (v.term i).need x = (u.term i).need x) (hn : ∀ i x, v.needWith i x [] = u.needWith i x [])
    (hl : v.ledger.loadUp = u.ledger.loadUp ∧ v.ledger.loadDown = u.ledger.loadDown) : Repriced s v b := by
  obtain ⟨hneed, hnone, hsome⟩ := h
  refine ⟨fun i x => ?_, fun hb => ?_, fun hb => ?_⟩
  · rw [ht, hn]; exact hneed i x
  · obtain ⟨hu, hd⟩ := hnone hb
    exact ⟨hl.1.trans hu, hl.2.trans hd⟩
  · have hloads : LoadsSound u := hsome hb
    exact hloads.congr (fun | .up => hl.1 | .down => hl.2) ht

/-- A report keeps needs and loads. -/
theorem Repriced.reported {s u : State} {b : Option Slot} (h : Repriced s u b) : Repriced s u.reportRamping b := by
  have hl : u.reportRamping.ledger = u.ledger := u.reportRamping_same .ledger (by decide)
  exact h.mono (reportRamping_need u) (fun i x => reportRamping_needWith u i x []) ⟨by rw [hl], by rw [hl]⟩

/-- The record of a flow disabled, its queue flushed (R93). -/
def Flow.disabledNow (x : Flow) : Flow :=
  { x with
    state := .disabled, credit := 0, marker := none, queue := []
    counters := { x.counters with flush := min (x.counters.flush + x.queue.length) 4294967295 } }

/-- A flow disabled, before the report (R93, R121): what the CLED's part leaves of the disabled flow, flushed. -/
theorem flushed_disabled {s p : State} {f : FlowIdx} (hp : ∀ g, p.flow g = (s.makeDisabled f).flow g)
    (hb : p.buffer = s.buffer) :
    (p.flushQueue f).flow f = (s.flow f).disabledNow ∧ OtherFlows f s (p.flushQueue f) ∧
    (p.flushQueue f).buffer = { s.buffer with freeCells := s.buffer.freeCells + (s.flow f).cellsHeld } := by
  refine ⟨?_, fun g hg => ?_, ?_⟩
  · rw [flushQueue_flow, if_pos rfl, hp, makeDisabled_flow, if_pos rfl]
    rfl
  · rw [flushQueue_flow, if_neg hg, hp, makeDisabled_flow, if_neg hg]
  · rw [flushQueue_buffer, hb, hp, makeDisabled_flow, if_pos rfl]
    rfl

/-- A flush keeps needs and loads. -/
theorem Repriced.flushed {s p : State} {b : Option Slot} (h : Repriced s p b) (f : FlowIdx) :
    Repriced s (p.flushQueue f) b := by
  refine h.mono (fun _ _ => rfl) (fun i x => ?_) ⟨rfl, rfl⟩
  refine needWith_kept rfl rfl rfl rfl rfl fun g => ?_
  rw [flushQueue_flow]
  split
  · next e => subst e; exact ⟨rfl, rfl, rfl, rfl⟩
  · exact ⟨rfl, rfl, rfl, rfl⟩

/-- Where no need is recomputed none changes. -/
theorem Repriced.none_of {s t : State} (ht : ∀ i x, (t.term i).need x = (s.term i).need x)
    (hu : t.ledger.loadUp = s.ledger.loadUp) (hd : t.ledger.loadDown = s.ledger.loadDown) : Repriced s t none :=
  ⟨fun i x => ht i x, fun _ => ⟨hu, hd⟩, fun h => absurd rfl h⟩

/-- A flow that is not DISABLED is disabled (R93). -/
theorem disable_spec {s : State} {f : FlowIdx} (h : (s.flow f).state ≠ .disabled) : ∃ v,
    s.disable f = v.reportRamping ∧ v.flow f = (s.flow f).disabledNow ∧ OtherFlows f s v ∧
    v.buffer = { s.buffer with freeCells := s.buffer.freeCells + (s.flow f).cellsHeld } ∧
    ((s.flow f).state.isWaiting = true →
      v.ledger = { s.ledger with list := s.ledger.list.filter fun g => decide (g ≠ f) }) ∧
    ((s.flow f).state = .admitted → v.ledger.list = s.ledger.list) ∧
    Repriced s v (if (s.flow f).state = .admitted then (s.flow f).bound else none) ∧
    (∀ j, v.term j = { s.term j with needUp := (v.term j).needUp, needDown := (v.term j).needDown }) ∧
    SameBut [.terms, .flows, .ledger, .buffer] s v := by
  have hmade := s.makeDisabled_same f
  cases hs : (s.flow f).state with
  | disabled => exact absurd hs h
  | waiting c =>
    have hsame : SameBut [.flows, .ledger] s ((s.makeDisabled f).unlist f) :=
      hmade.then (State.unlist_same _ f) rfl rfl
    obtain ⟨h1, h2, h3⟩ := flushed_disabled (p := (s.makeDisabled f).unlist f) (fun _ => rfl) rfl
    refine ⟨((s.makeDisabled f).unlist f).flushQueue f, by rw [State.disable, hs], h1, h2, h3, fun _ => rfl,
      fun h => (nomatch h), ?_, fun _ => rfl, hsame.then (State.flushQueue_same _ f) rfl rfl⟩
    rw [if_neg nofun]
    exact .none_of (fun _ _ => rfl) rfl rfl
  | admitted =>
    have hsame : SameBut [.terms, .flows, .ledger] s ((s.makeDisabled f).repriceFlow f) :=
      hmade.then (State.repriceFlow_same _ f) rfl rfl
    obtain ⟨h1, h2, h3⟩ := flushed_disabled (p := (s.makeDisabled f).repriceFlow f) (repriceFlow_flow _ f)
      (hsame .buffer (by decide))
    have hbound : ((s.makeDisabled f).flow f).bound = (s.flow f).bound := by rw [makeDisabled_flow, if_pos rfl]
    have hrep : Repriced s ((s.makeDisabled f).repriceFlow f) (s.flow f).bound :=
      hbound ▸ repriceFlow_repriced (s.makeDisabled f) f
    refine ⟨((s.makeDisabled f).repriceFlow f).flushQueue f, by rw [State.disable, hs], h1, h2, h3,
      fun h => (nomatch h), fun _ => ?_, hrep.flushed f, fun j => repriceFlow_term (s.makeDisabled f) f j,
      hsame.then (State.flushQueue_same _ f) rfl rfl⟩
    exact (congrArg Ledger.list (State.flushQueue_same _ f .ledger (by decide))).trans (repriceFlow_list _ f)

end Sys2Proof.Machine

namespace Sys2Proof.Machine

/-- A flow unbound in the chain of its terminal leaves the rest of it in order (R91). -/
theorem unbind_spec {s : State} {i : Slot} {f : FlowIdx} (hb : (s.flow f).bound = some i) :
    (s.unbind f).flow f = { s.flow f with bound := none, chainNext := none } ∧
    ((s.chain i).Nodup → (s.unbind f).chain i = (s.chain i).filter fun g => decide (g ≠ f)) ∧
    (∀ g, g ≠ f → (s.unbind f).flow g = { s.flow g with chainNext := ((s.unbind f).flow g).chainNext }) ∧
    (∀ j, (s.unbind f).term j = { s.term j with
      state := ((s.unbind f).term j).state, chainHead := ((s.unbind f).term j).chainHead }) ∧
    Reported s (s.unbind f) (fun j => (s.term j).state) s.mgmt := by
  have hsame := unbound_same s i f
  rw [unbind_eq hb]
  refine ⟨?_, fun hn => ?_, fun g hg => ?_, fun j => ?_, ?_⟩
  · rw [reportRamping_flow, unbound_flow_same]
  · rw [reportRamping_chain, unbound_chain, unlinkFlow_chain s i f hn]
  · rw [reportRamping_flow]
    exact unbound_flow_other s i f hg
  · rw [reportRamping_term, unbound_term]
  · exact reported_of (hsame.mono rfl) (fun j => by rw [unbound_term]) (hsame .mgmt (by decide))

/-- A DISABLED bound flow enabled is WAITING, and its terminal with it (R19, R92). -/
theorem enable_spec {s : State} {i : Slot} {f : FlowIdx} (hb : (s.flow f).bound = some i)
    (hd : (s.flow f).state = .disabled) :
    (s.enable f).flow f = { s.flow f with state := .waiting .new } ∧ OtherFlows f s (s.enable f) ∧
    PlacedByClass (fun g => (s.flow g).cls.val) f s.ledger.list (s.enable f).ledger.list ∧
    (s.enable f).ledger.loadUp = s.ledger.loadUp ∧ (s.enable f).ledger.loadDown = s.ledger.loadDown ∧
    (∀ j, (s.enable f).chain j = s.chain j) ∧
    (∀ j, (s.enable f).term j = { s.term j with
      state := ((s.enable f).term j).state
      beforeFade := if j = i ∧ (s.term j).state = .fading then some .ramping else (s.term j).beforeFade }) ∧
    Reported s (s.enable f)
      (fun j => if j = i ∧ (s.term j).state = .inService then .ramping else (s.term j).state) (s.notedMgmt i) := by
  let v := (s.makeWaiting f .new).noteWaiting i
  have hnote := (s.makeWaiting f .new).noteWaiting_same i
  have hsame : SameBut [.terms, .flows, .ledger, .mgmt] s v := (s.makeWaiting_same f .new).then hnote rfl rfl
  have hflow (g : FlowIdx) : (s.enable f).flow g = (s.makeWaiting f .new).flow g := by
    rw [enable_eq hb hd, reportRamping_flow]
    exact flow_of_flows (hnote .flows (by decide)) g
  have hledger : (s.enable f).ledger = (s.makeWaiting f .new).ledger := by
    rw [enable_eq hb hd]
    exact (v.reportRamping_same .ledger (by decide)).trans (hnote .ledger (by decide))
  have hterm (j : Slot) : v.term j = if j = i then (s.term i).noted else s.term j := noteWaiting_term _ i j
  have hkeep (j : Slot) : (s.enable f).term j = { s.term j with
      state := ((s.enable f).term j).state
      beforeFade := if j = i ∧ (s.term j).state = .fading then some .ramping else (s.term j).beforeFade } := by
    rw [enable_eq hb hd, reportRamping_term, hterm]
    by_cases e : j = i
    · subst e
      simp only [if_true, true_and, Terminal.noted]
    · simp only [e, false_and, if_false]
  refine ⟨?_, fun g hg => ?_, ?_, ?_, ?_, fun j => ?_, hkeep, ?_⟩
  · rw [hflow, makeWaiting_flow, if_pos rfl]
  · rw [hflow, makeWaiting_flow, if_neg hg]
  · rw [hledger, makeWaiting_list]
    exact placeByClass_placed _ _ _
  · rw [hledger]; rfl
  · rw [hledger]; rfl
  · refine chain_congr (by rw [hkeep]) fun g => ?_
    rw [hflow, makeWaiting_flow]
    split
    · next e => rw [e]
    · rfl
  · rw [enable_eq hb hd]
    refine reported_of (hsame.mono rfl) (fun j => ?_) (noteWaiting_mgmt _ i)
    rw [hterm]
    by_cases e : j = i
    · subst e
      simp only [if_true, true_and, Terminal.noted]
    · simp only [e, false_and, if_false]

/-- Settles O54: UNBIND_FLOW, ENABLE_FLOW and DISABLE_FLOW. -/
theorem flowIsUnboundEnabledDisabled : Obligations.FlowIsUnboundEnabledDisabled := by
  intro src body s hl answered taken
  let w := s.controlledBy src
  have hws : SameBut [.mgmt] s w := s.controlledBy_same src
  have hchain (j : Slot) : w.chain j = s.chain j := chain_congr rfl fun _ => rfl
  refine ⟨fun h => ⟨?_, ?_, ?_⟩, fun f hf => ?_⟩
  · exact answer_refuse hl (by rw [checkUnbind, flowOf_eq_none h])
  · exact answer_refuse hl (by rw [checkEnable, flowOf_eq_none h])
  · exact answer_refuse hl (by rw [checkDisable, flowOf_eq_none h])
  intro x
  refine ⟨fun hx => ?_, fun hx hb => ?_, fun i hx hb => ?_, fun hb => ?_,
    fun i hb => ⟨fun hx => ?_, fun hx => ?_⟩, fun hx => ?_, fun hx => ?_⟩
  · exact answer_refuse hl (by rw [checkUnbind, flowOf_eq_some hf]; exact if_pos hx)
  · refine (answer_take (effect := fun s => s.unbind f) hl
      (by rw [checkUnbind, flowOf_eq_some hf]; exact if_neg (not_not.mpr hx))).trans ?_
    have : w.unbind f = w := by rw [State.unbind, show (w.flow f).bound = none from hb]
    exact congrArg (fun u : State => Host.Outcome.next (answered u 0x21#8 .ok)) this
  · obtain ⟨h1, h2, h3, h4, h5⟩ := unbind_spec (s := w) hb
    refine ⟨w.unbind f, answer_take (effect := fun s => s.unbind f) hl
      (by rw [checkUnbind, flowOf_eq_some hf]; exact if_neg (not_not.mpr hx)), h1, fun hn => ?_, h3, h4, h5,
      h5.controller, hws.then (w.unbind_same f) rfl rfl⟩
    rw [← hchain] at hn ⊢
    exact h2 hn
  · exact answer_refuse hl (by rw [checkEnable, flowOf_eq_some hf]; exact if_pos hb)
  · refine (answer_take (effect := fun s => s.enable f) hl
      (by rw [checkEnable, flowOf_eq_some hf]; exact if_neg (by rw [hb]; nofun))).trans ?_
    have : w.enable f = w := if_neg hx
    exact congrArg (fun u : State => Host.Outcome.next (answered u 0x22#8 .ok)) this
  · obtain ⟨h1, h2, h3, h4, h5, h6, h7, h8⟩ := enable_spec (s := w) hb hx
    refine ⟨w.enable f, answer_take (effect := fun s => s.enable f) hl
      (by rw [checkEnable, flowOf_eq_some hf]; exact if_neg (by rw [hb]; nofun)), h1, h2, h3, h4, h5,
      fun hfc hst => ?_, fun hst => ?_, h7, h8, ?_, hws.then (w.enable_same f) rfl rfl⟩
    · have hw : (w.enable f).hasWaiting i = true :=
        (hasWaiting_iff _ i).mpr ⟨f, by rw [h6, hchain]; exact hfc, by rw [h1]; rfl⟩
      rw [h8.1 i, hw]
      have hst' : (w.term i).state = .inService := hst
      simp [hst']
    · have hst' : (w.term i).state = .fading := hst
      have hstate : ((w.enable f).term i).state = .fading := by
        rw [h8.1 i]
        simp [hst']
      rw [h7 i, hstate, hst']
      simp only [and_self, if_true]
      rw [← hst']
      rfl
    · rw [h8.controller, State.notedMgmt]
      split
      · exact Management.take_controller _ _ _ _
      · rfl
  · refine (answer_take (effect := fun s => s.disable f) hl (by rw [checkDisable, flowOf_eq_some hf])).trans ?_
    have : w.disable f = w := by rw [State.disable, show (w.flow f).state = .disabled from hx]
    exact congrArg (fun u : State => Host.Outcome.next (answered u 0x23#8 .ok)) this
  · obtain ⟨v, hv, h1, h2, h3, h4, h5, h6, h7, h8⟩ := disable_spec (s := w) hx
    have hrep : Reported w v.reportRamping (fun j => (s.term j).state) (s.mgmt.controlledBy src) :=
      reported_of (h8.mono rfl) (fun j => by rw [h7]; rfl) (h8 .mgmt (by decide))
    have hledger : v.reportRamping.ledger = v.ledger := v.reportRamping_same .ledger (by decide)
    refine ⟨w.disable f, answer_take (effect := fun s => s.disable f) hl (by rw [checkDisable, flowOf_eq_some hf]),
      ?_, fun g hg => ?_, ?_, fun hx => ?_, fun hx => ?_, ?_, fun j => ?_, ?_, ?_,
      hws.then (w.disable_same f) rfl rfl⟩ <;> rw [hv]
    · rw [reportRamping_flow]; exact h1
    · rw [reportRamping_flow]; exact h2 g hg
    · exact (v.reportRamping_same .buffer (by decide)).trans h3
    · exact hledger.trans (h4 hx)
    · rw [hledger]; exact h5 hx
    · exact h6.reported
    · rw [reportRamping_term, h7]
      rfl
    · exact hrep
    · exact hrep.controller

end Sys2Proof.Machine

namespace Sys2Proof.Machine

/-! ### A lowered limit trims the tail of a queue (R90, R141) -/

/-- The entries a marker counts among those discarded where a queue falls from one length to another (R141). -/
def Marker.countedIn (m : Marker) (q left : Nat) : Nat := min q m.remaining - min left m.remaining

/-- A marker after so many counted discards: absent where they were all it had to count (R141). -/
def Marker.dropped (m : Marker) (c : Nat) : Option Marker :=
  if c = 0 then some m else if c = m.remaining then none else
    some { m with remaining := m.remaining - c, discarded := m.discarded + c }

/-- The record of a flow after so many tail discards (R90). -/
def Flow.trimmed (x : Flow) (k : Nat) : Flow :=
  { x with
    queue := x.queue.take (x.queue.length - k)
    counters := { x.counters with full := if k = 0 then x.counters.full else min (x.counters.full + k) 4294967295 }
    marker := x.marker.bind fun m => m.dropped (m.countedIn x.queue.length (x.queue.length - k)) }

/-- The Management Agent after so many tail discards: a marker counted to its end has raised DRAINED (R141). -/
def State.trimMgmt (s : State) (f : FlowIdx) (k : Nat) : Management :=
  match (s.flow f).marker with
  | none => s.mgmt
  | some m =>
    let counted := m.countedIn (s.flow f).queue.length ((s.flow f).queue.length - k)
    if counted ≠ 0 ∧ counted = m.remaining then
      s.notified (.drained f (s.flow f).bound m.released (m.discarded + counted))
    else s.mgmt

/-- What so many tail discards of a flow leave. -/
structure TrimmedBy (s t : State) (f : FlowIdx) (k : Nat) : Prop where
  flow : t.flow f = (s.flow f).trimmed k
  other : OtherFlows f s t
  buffer : t.buffer = { s.buffer with freeCells := s.buffer.freeCells + ((s.flow f).cellsHeld - (t.flow f).cellsHeld) }
  mgmt : t.mgmt = s.trimMgmt f k
  same : SameBut [.flows, .buffer, .mgmt] s t

/-- The cells of some entries (R127). -/
def cellsIn (l : List QEntry) : Nat := (l.map QEntry.cells).sum

theorem cellsIn_append (l m : List QEntry) : cellsIn (l ++ m) = cellsIn l + cellsIn m := by
  rw [cellsIn, List.map_append, List.sum_append]
  rfl

theorem cellsIn_take_le (l : List QEntry) (n : Nat) : cellsIn (l.take n) ≤ cellsIn l := by
  conv_rhs => rw [← List.take_append_drop n l]
  rw [cellsIn_append]
  exact Nat.le_add_right _ _

theorem dropped_zero (m : Marker) : m.dropped 0 = some m := if_pos rfl

theorem countedIn_self (m : Marker) (q : Nat) : m.countedIn q q = 0 := Nat.sub_self _

/-- While entries are left a marker is not counted to its end: it holds what remains. -/
theorem dropped_of_left {m : Marker} {q left : Nat} (hl : 0 < left) (hq : left ≤ q) :
    m.dropped (m.countedIn q left) = some
      { m with
        remaining := m.remaining - m.countedIn q left, discarded := m.discarded + m.countedIn q left } := by
  unfold Marker.dropped Marker.countedIn
  split
  · next h => rw [h]; rfl
  · rw [if_neg (by omega)]

/-- One discard more where entries are left. -/
theorem dropped_step {m : Marker} {q left : Nat} (hq : left + 1 ≤ q) (n : Marker)
    (hn : m.dropped (m.countedIn q (left + 1)) = some n) :
    n.dropped (if left + 1 ≤ n.remaining then 1 else 0) = m.dropped (m.countedIn q left) := by
  rw [dropped_of_left (Nat.succ_pos left) hq, Option.some.injEq] at hn
  subst hn
  have hc : m.countedIn q left = m.countedIn q (left + 1) +
      if left + 1 ≤ m.remaining - m.countedIn q (left + 1) then 1 else 0 := by
    unfold Marker.countedIn
    split <;> omega
  have hle : m.countedIn q (left + 1) = 0 ∨ m.countedIn q (left + 1) < m.remaining := by unfold Marker.countedIn; omega
  generalize m.countedIn q (left + 1) = c at hc hle
  rw [hc]
  unfold Marker.dropped
  by_cases h : left + 1 ≤ m.remaining - c
  · simp only [if_pos h]
    by_cases h1 : 1 = m.remaining - c
    · simp only [if_pos h1]
      rw [if_neg (by omega), if_neg (by omega), if_pos (by omega)]
    · simp only [if_neg h1]
      rw [if_neg (by omega), if_neg (by omega), if_neg (by omega)]
      simp only [Option.some.injEq, Marker.mk.injEq, true_and]
      omega
  · simp only [if_neg h, if_true, Nat.add_zero]
    by_cases h0 : c = 0
    · simp [h0]
    · rw [if_neg h0, if_neg (by omega)]

/-- The marker of a flow after the discard of its tail entry (R141). -/
def Flow.tailMarker (x : Flow) : Option Marker :=
  x.marker.bind fun m => m.dropped (if x.queue.length ≤ m.remaining then 1 else 0)

section
variable {s : State} {f : FlowIdx} {e : QEntry}

/-- One tail discard of a queue with entries (R90). -/
theorem discardTail_flow (h : (s.flow f).queue.getLast? = some e) (g : FlowIdx) : (s.discardTail f).flow g =
    if g = f then
      { s.flow f with
        queue := (s.flow f).queue.dropLast
        counters := { (s.flow f).counters with full := satAdd (s.flow f).counters.full 1 }
        marker := (s.flow f).tailMarker }
    else s.flow g := by
  have hne : (s.flow f).queue ≠ [] := by
    intro h0
    rw [h0] at h
    cases h
  have hpos := List.length_pos_iff.mpr hne
  unfold State.discardTail Flow.tailMarker
  rw [h]
  cases hm : (s.flow f).marker with
  | none =>
    simp only [State.freeUp_flow, State.modFlow_flow, hm, Option.bind_none]
  | some m =>
    simp only [Option.bind_some]
    by_cases hc : (s.flow f).queue.length ≤ m.remaining
    · simp only [if_pos hc, Marker.dropped, Nat.one_ne_zero, if_false]
      unfold State.countMarker
      simp only [State.freeUp_flow, State.modFlow_flow, if_true, hm]
      by_cases h1 : m.remaining - 1 = 0
      · rw [if_pos h1, if_pos (show 1 = m.remaining by omega)]
        simp only [State.raise_flow, State.modFlow_flow, State.freeUp_flow, if_true]
        split <;> rfl
      · rw [if_neg h1, if_neg (show ¬ 1 = m.remaining by omega)]
        simp only [State.modFlow_flow, State.freeUp_flow, if_true]
        split <;> rfl
    · simp only [if_neg hc, dropped_zero, State.freeUp_flow, State.modFlow_flow, hm]

theorem discardTail_buffer (h : (s.flow f).queue.getLast? = some e) :
    (s.discardTail f).buffer = { s.buffer with freeCells := s.buffer.freeCells + e.cells } := by
  unfold State.discardTail
  rw [h]
  simp only
  split
  · rfl
  · split
    · exact State.countMarker_same _ f false .buffer (by decide)
    · rfl

theorem discardTail_mgmt (h : (s.flow f).queue.getLast? = some e) : (s.discardTail f).mgmt =
    match (s.flow f).marker with
    | none => s.mgmt
    | some m =>
      if (s.flow f).queue.length ≤ m.remaining ∧ m.remaining - 1 = 0 then
        s.notified (.drained f (s.flow f).bound m.released (m.discarded + 1))
      else s.mgmt := by
  unfold State.discardTail
  rw [h]
  cases hm : (s.flow f).marker with
  | none => rfl
  | some m =>
    simp only
    by_cases hc : (s.flow f).queue.length ≤ m.remaining
    · simp only [hc, true_and]
      unfold State.countMarker
      simp only [State.freeUp_flow, State.modFlow_flow, if_true, hm]
      split <;> rfl
    · simp only [hc, false_and, if_false]
      rfl

end

end Sys2Proof.Machine

namespace Sys2Proof.Machine

section
variable {s t : State} {f : FlowIdx} {k : Nat}

theorem trimmed_zero (x : Flow) : x.trimmed 0 = x := by
  have hm : (x.marker.bind fun m => m.dropped (m.countedIn x.queue.length (x.queue.length - 0))) = x.marker := by
    simp only [Nat.sub_zero, countedIn_self, dropped_zero, Option.bind_fun_some]
  rw [Flow.trimmed, hm]
  simp only [Nat.sub_zero, List.take_length, if_true]

theorem TrimmedBy.zero (s : State) (f : FlowIdx) : TrimmedBy s s f 0 where
  flow := (trimmed_zero _).symm
  other _ _ := rfl
  buffer := by rw [Nat.sub_self, Nat.add_zero]
  mgmt := by
    unfold State.trimMgmt
    split
    · rfl
    · exact (if_neg fun h => h.1 (countedIn_self _ _)).symm
  same := SameBut.refl _ s

/-- One discard more of a flow's record (R90, R141). -/
theorem trimmed_succ (x : Flow) (h : k < x.queue.length) : x.trimmed (k + 1) =
    { x.trimmed k with
      queue := (x.trimmed k).queue.dropLast
      counters := { (x.trimmed k).counters with full := satAdd (x.trimmed k).counters.full 1 }
      marker := (x.trimmed k).tailMarker } := by
  have hlen : (x.trimmed k).queue.length = (x.queue.length - (k + 1)) + 1 := by
    show (x.queue.take (x.queue.length - k)).length = _
    rw [List.length_take]
    omega
  have hqueue : (x.trimmed k).queue.dropLast = x.queue.take (x.queue.length - (k + 1)) := by
    show (x.queue.take (x.queue.length - k)).dropLast = _
    rw [List.dropLast_eq_take, List.take_take, List.length_take]
    congr 1
    omega
  have hfull : satAdd (x.trimmed k).counters.full 1 = min (x.counters.full + (k + 1)) 4294967295 := by
    show min ((if k = 0 then x.counters.full else min (x.counters.full + k) 4294967295) + 1) 4294967295 = _
    split <;> omega
  have hmarker : (x.trimmed k).tailMarker =
      x.marker.bind fun m => m.dropped (m.countedIn x.queue.length (x.queue.length - (k + 1))) := by
    rw [Flow.tailMarker, hlen]
    show (x.marker.bind fun m => m.dropped (m.countedIn x.queue.length (x.queue.length - k))).bind _ = _
    cases x.marker with
    | none => rfl
    | some m =>
      rw [Option.bind_some, Option.bind_some]
      rw [show x.queue.length - k = x.queue.length - (k + 1) + 1 by omega]
      have hle : x.queue.length - (k + 1) + 1 ≤ x.queue.length := by omega
      have hleft := dropped_of_left (m := m) (Nat.succ_pos (x.queue.length - (k + 1))) hle
      rw [hleft, Option.bind_some]
      exact dropped_step hle _ hleft
  rw [hqueue, hfull, hmarker]
  rfl

/-- While entries are left no DRAINED has been raised (R141). -/
theorem trimMgmt_of_left (s : State) (h : k < (s.flow f).queue.length) : s.trimMgmt f k = s.mgmt := by
  unfold State.trimMgmt
  split
  · rfl
  · exact if_neg fun ⟨h0, h1⟩ => by
      unfold Marker.countedIn at h0 h1
      omega

/-- The notice of one discard more (R141). -/
theorem trimMgmt_succ (s : State) (h : k < (s.flow f).queue.length) : s.trimMgmt f (k + 1) =
    match ((s.flow f).trimmed k).marker with
    | none => s.mgmt
    | some m =>
      if ((s.flow f).trimmed k).queue.length ≤ m.remaining ∧ m.remaining - 1 = 0 then
        s.notified (.drained f (s.flow f).bound m.released (m.discarded + 1))
      else s.mgmt := by
  have hlen : ((s.flow f).trimmed k).queue.length = ((s.flow f).queue.length - (k + 1)) + 1 := by
    show ((s.flow f).queue.take ((s.flow f).queue.length - k)).length = _
    rw [List.length_take]
    omega
  have hmk : ((s.flow f).trimmed k).marker = (s.flow f).marker.bind fun m =>
      m.dropped (m.countedIn (s.flow f).queue.length ((s.flow f).queue.length - (k + 1) + 1)) := by
    rw [show (s.flow f).queue.length - (k + 1) + 1 = (s.flow f).queue.length - k by omega]
    rfl
  rw [hlen, hmk]
  unfold State.trimMgmt
  cases (s.flow f).marker with
  | none => rfl
  | some m =>
    rw [Option.bind_some, dropped_of_left (Nat.succ_pos _) (by omega)]
    simp only
    have hc : m.countedIn (s.flow f).queue.length ((s.flow f).queue.length - (k + 1)) ≠ 0 ∧
        m.countedIn (s.flow f).queue.length ((s.flow f).queue.length - (k + 1)) = m.remaining ↔
        (s.flow f).queue.length - (k + 1) + 1 ≤
            m.remaining - m.countedIn (s.flow f).queue.length ((s.flow f).queue.length - (k + 1) + 1) ∧
          m.remaining - m.countedIn (s.flow f).queue.length ((s.flow f).queue.length - (k + 1) + 1) - 1 = 0 := by
      unfold Marker.countedIn
      omega
    by_cases hd : m.countedIn (s.flow f).queue.length ((s.flow f).queue.length - (k + 1)) ≠ 0 ∧
        m.countedIn (s.flow f).queue.length ((s.flow f).queue.length - (k + 1)) = m.remaining
    · have hlast : m.countedIn (s.flow f).queue.length ((s.flow f).queue.length - (k + 1)) =
          m.countedIn (s.flow f).queue.length ((s.flow f).queue.length - (k + 1) + 1) + 1 := by
        revert hd
        unfold Marker.countedIn
        omega
      rw [if_pos hd, if_pos (hc.mp hd), hlast, Nat.add_assoc]
    · rw [if_neg hd, if_neg fun h => hd (hc.mpr h)]

theorem cellsHeld_eq (x : Flow) : x.cellsHeld = cellsIn x.queue := rfl

/-- One discard more (R90). -/
theorem TrimmedBy.succ (h : TrimmedBy s t f k) (hk : k < (s.flow f).queue.length) :
    TrimmedBy s (t.discardTail f) f (k + 1) := by
  have hqueue : (t.flow f).queue = (s.flow f).queue.take ((s.flow f).queue.length - k) := by rw [h.flow]; rfl
  obtain ⟨e, he⟩ : ∃ e, (t.flow f).queue.getLast? = some e := by
    rw [← Option.isSome_iff_exists, List.getLast?_isSome, hqueue, Ne, List.take_eq_nil_iff]
    rintro (h0 | h0)
    · omega
    · rw [h0] at hk; exact absurd hk (Nat.not_lt_zero k)
  have hflow : (t.discardTail f).flow f = (s.flow f).trimmed (k + 1) := by
    rw [discardTail_flow he, if_pos rfl, trimmed_succ _ hk, h.flow]
  have hcells : (t.flow f).cellsHeld = ((t.discardTail f).flow f).cellsHeld + e.cells := by
    have hsplit := List.dropLast_append_getLast? e he
    rw [discardTail_flow he, if_pos rfl, cellsHeld_eq, cellsHeld_eq, ← hsplit, cellsIn_append, hsplit]
    simp [cellsIn]
  have hle : (t.flow f).cellsHeld ≤ (s.flow f).cellsHeld := by
    rw [cellsHeld_eq, hqueue]
    exact cellsIn_take_le _ _
  have hmgmt : t.mgmt = s.mgmt := h.mgmt.trans (trimMgmt_of_left s hk)
  refine ⟨hflow, fun g hg => ?_, ?_, ?_, h.same.then (t.discardTail_same f) rfl rfl⟩
  · rw [discardTail_flow he, if_neg hg, h.other g hg]
  · rw [discardTail_buffer he, h.buffer]
    simp only [Buffer.mk.injEq, and_true]
    omega
  · rw [discardTail_mgmt he, trimMgmt_succ s hk, h.flow]
    simp only [State.notified, hmgmt, show t.setup = s.setup from h.same .setup (by decide),
      show t.link = s.link from h.same .link (by decide)]
    rfl

/-- A limit taking effect discards from the tail until the queue fits it, and no entry more (R90). -/
theorem trimTail_spec (n : Nat) : ∀ (t : State) (k : Nat), TrimmedBy s t f k → k + n = (s.flow f).queue.length →
    (0 < k → (s.flow f).limit < cellsIn ((s.flow f).queue.take ((s.flow f).queue.length - k + 1))) →
    ∃ j, TrimmedBy s (State.trimTail f n t) f j ∧ j ≤ (s.flow f).queue.length ∧
      cellsIn ((s.flow f).queue.take ((s.flow f).queue.length - j)) ≤ (s.flow f).limit ∧
      (0 < j → (s.flow f).limit < cellsIn ((s.flow f).queue.take ((s.flow f).queue.length - j + 1))) := by
  induction n with
  | zero =>
    intro t k h hk hlast
    refine ⟨k, h, by omega, ?_, hlast⟩
    rw [show (s.flow f).queue.length - k = 0 by omega]
    exact Nat.zero_le _
  | succ n ih =>
    intro t k h hk hlast
    have hlimit : (t.flow f).limit = (s.flow f).limit := by rw [h.flow]; rfl
    have hheld : (t.flow f).cellsHeld = cellsIn ((s.flow f).queue.take ((s.flow f).queue.length - k)) := by
      rw [h.flow]; rfl
    rw [State.trimTail, hlimit, hheld]
    split
    · next hfit => exact ⟨k, h, by omega, hfit, hlast⟩
    · next hfit =>
      refine ih _ (k + 1) (h.succ (by omega)) (by omega) fun _ => ?_
      rw [show (s.flow f).queue.length - (k + 1) + 1 = (s.flow f).queue.length - k by omega]
      omega

end

end Sys2Proof.Machine

namespace Sys2Proof.Machine

/-! ### The fields of a SET_FLOW, and a change of CB (R87, R89) -/

section
variable (s : State) (f : FlowIdx)

theorem noteFlowWaiting_term (j : Slot) : (s.noteFlowWaiting f).term j =
    if (s.flow f).bound = some j then (s.term j).noted else s.term j := by
  cases hb : (s.flow f).bound with
  | none =>
    rw [noteFlowWaiting_none hb]
    exact (if_neg nofun).symm
  | some i =>
    rw [noteFlowWaiting_some hb, noteWaiting_term]
    by_cases e : j = i
    · subst e; rw [if_pos rfl, if_pos rfl]
    · rw [if_neg e, if_neg fun h => e (Option.some.inj h).symm]

theorem noteFlowWaiting_mgmt : (s.noteFlowWaiting f).mgmt =
    match (s.flow f).bound with
    | some j => s.notedMgmt j
    | none => s.mgmt := by
  cases hb : (s.flow f).bound with
  | none => rw [noteFlowWaiting_none hb]
  | some i => rw [noteFlowWaiting_some hb, noteWaiting_mgmt]

theorem noteFlowWaiting_flow (g : FlowIdx) : (s.noteFlowWaiting f).flow g = s.flow g :=
  flow_of_flows (s.noteFlowWaiting_same f .flows (by decide)) g

theorem notedMgmt_congr {s t : State} {i : Slot} (hm : t.mgmt = s.mgmt) (hc : t.setup = s.setup) (hl : t.link = s.link)
    (h : (t.term i).state = (s.term i).state) : t.notedMgmt i = s.notedMgmt i := by
  simp only [State.notedMgmt, State.notified, hm, hc, hl, h]

/-- A flow noted WAITING changes no need. -/
theorem Repriced.noted {s p : State} {b : Option Slot} (h : Repriced s p b) (f : FlowIdx) :
    Repriced s (p.noteFlowWaiting f) b := by
  have hsame := p.noteFlowWaiting_same f
  have ht (i : Slot) : ((p.noteFlowWaiting f).term i).state.serviced = (p.term i).state.serviced ∧
      ((p.noteFlowWaiting f).term i).current = (p.term i).current ∧
      ((p.noteFlowWaiting f).term i).chainHead = (p.term i).chainHead ∧
      ∀ x, ((p.noteFlowWaiting f).term i).need x = (p.term i).need x := by
    rw [noteFlowWaiting_term]
    split
    · exact ⟨Terminal.noted_serviced _, rfl, rfl, fun x => by cases x <;> rfl⟩
    · exact ⟨rfl, rfl, rfl, fun _ => rfl⟩
  have hledger : (p.noteFlowWaiting f).ledger = p.ledger := hsame .ledger (by decide)
  refine h.mono (fun i => (ht i).2.2.2) (fun i x => ?_) ⟨by rw [hledger], by rw [hledger]⟩
  obtain ⟨hs, hc, hh, -⟩ := ht i
  refine needWith_kept hs hc hh (hsame .setup (by decide)) (hsame .profiles (by decide)) fun g => ?_
  rw [noteFlowWaiting_flow]
  exact ⟨rfl, rfl, rfl, rfl⟩

end

/-- The record of a flow with the fields of a SET_FLOW but its binding and class (R87, R89). -/
def Flow.written (x : Flow) (w : FlowWrite) : Flow :=
  { x with dir := w.dir, policy := w.policy, cb := w.cb, pb := w.pb, limit := w.limit, holdAge := w.holdAge }

/-- The record of a flow withdrawn for its CB (R89, R121). -/
def Flow.withdrawnNew (x : Flow) : Flow := { x with state := .waiting .new, credit := 0, marker := none }

theorem writeFlow_flow (s : State) (w : FlowWrite) (g : FlowIdx) :
    (s.writeFlow w).flow g = if g = w.flow then (s.flow w.flow).written w else s.flow g := s.modFlow_flow _ g _

/-- The fields written, with the CB changed or not. -/
def State.rate (s : State) (w : FlowWrite) (c : Bool) : State :=
  if c then (s.writeFlow w).withdrawForRate w.flow else s.writeFlow w

/-- What the fields of a SET_FLOW but its binding and class leave (R87, R89, R121). -/
structure Rated (s p : State) (w : FlowWrite) (gone : Prop) [Decidable gone] : Prop where
  flow : p.flow w.flow = if gone then ((s.flow w.flow).written w).withdrawnNew else (s.flow w.flow).written w
  other : OtherFlows w.flow s p
  placed : gone → PlacedByClass (fun g => (s.flow g).cls.val) w.flow s.ledger.list p.ledger.list
  list : ¬ gone → p.ledger.list = s.ledger.list
  repriced : Repriced s p (if gone then (s.flow w.flow).bound else none)
  term : ∀ j, p.term j = { s.term j with
    state := if gone ∧ (s.flow w.flow).bound = some j ∧ (s.term j).state = .inService then .ramping
      else (s.term j).state
    beforeFade := if gone ∧ (s.flow w.flow).bound = some j ∧ (s.term j).state = .fading then some .ramping
      else (s.term j).beforeFade
    needUp := (p.term j).needUp, needDown := (p.term j).needDown }
  mgmt : p.mgmt = if gone then match (s.flow w.flow).bound with
    | some j => s.notedMgmt j
    | none => s.mgmt else s.mgmt
  same : SameBut [.terms, .flows, .ledger, .mgmt] s p

/-- The fields alone. -/
theorem writeFlow_rated (s : State) (w : FlowWrite) {gone : Prop} [Decidable gone] (h : ¬ gone) :
    Rated s (s.writeFlow w) w gone where
  flow := by rw [writeFlow_flow, if_pos rfl, if_neg h]
  other g hg := by rw [writeFlow_flow, if_neg hg]
  placed hg := absurd hg h
  list _ := rfl
  repriced := by
    rw [if_neg h]
    exact .none_of (fun _ _ => rfl) rfl rfl
  term j := by
    simp only [h, false_and, if_false]
    rfl
  mgmt := (if_neg h).symm
  same := (s.writeFlow_same w).mono rfl

/-- The fields of an ADMITTED flow with another CB: it is withdrawn, its terminal's needs recomputed and its state
adjusted. -/
theorem withdrawForRate_rated (s : State) (w : FlowWrite) {gone : Prop} [Decidable gone] (h : gone) :
    Rated s ((((s.writeFlow w).withdraw w.flow .new).repriceFlow w.flow).noteFlowWaiting w.flow) w gone := by
  let q := s.writeFlow w
  let v := q.withdraw w.flow .new
  have hv (g : FlowIdx) : v.flow g =
      if g = w.flow then ((s.flow w.flow).written w).withdrawnNew else s.flow g := by
    rw [withdraw_flow, writeFlow_flow, if_pos rfl, writeFlow_flow]
    split
    · rfl
    · rfl
  have hbound : (v.flow w.flow).bound = (s.flow w.flow).bound := by rw [hv, if_pos rfl]; rfl
  have hvsame : SameBut [.flows, .ledger] s v := (s.writeFlow_same w).then (q.withdraw_same _ _) rfl rfl
  have hvterm (j : Slot) : v.term j = s.term j := term_of_terms (hvsame .terms (by decide)) j
  have hr := v.repriceFlow_same w.flow
  have hrb : ((v.repriceFlow w.flow).flow w.flow).bound = (s.flow w.flow).bound := by rw [repriceFlow_flow, hbound]
  have hn := (v.repriceFlow w.flow).noteFlowWaiting_same w.flow
  have hsame : SameBut [.terms, .flows, .ledger] s (v.repriceFlow w.flow) := hvsame.then hr rfl rfl
  have hlist : ((v.repriceFlow w.flow).noteFlowWaiting w.flow).ledger.list =
      placeByClass (fun g => (s.flow g).cls.val) w.flow s.ledger.list := by
    rw [hn .ledger (by decide), repriceFlow_list, withdraw_list]
    refine congrArg (fun k => placeByClass k w.flow s.ledger.list) (funext fun g => ?_)
    rw [writeFlow_flow]
    split
    · next e => rw [e]; rfl
    · rfl
  refine ⟨?_, fun g hg => ?_, fun _ => hlist ▸ placeByClass_placed _ _ _, fun hg => absurd h hg, ?_, fun j => ?_, ?_,
    hsame.then hn rfl rfl⟩
  · rw [noteFlowWaiting_flow, repriceFlow_flow, hv, if_pos rfl, if_pos h]
  · rw [noteFlowWaiting_flow, repriceFlow_flow, hv, if_neg hg]
  · have hrep := repriceFlow_repriced v w.flow
    rw [hbound] at hrep
    rw [if_pos h]
    obtain ⟨h1, h2, h3⟩ := hrep.noted w.flow
    refine ⟨fun i x => ?_, h2, h3⟩
    rw [h1, hvterm]
  · have ht := repriceFlow_term v w.flow j
    rw [noteFlowWaiting_term, hrb]
    by_cases e : (s.flow w.flow).bound = some j
    · rw [if_pos e, ht, hvterm]
      simp only [h, e, true_and, Terminal.noted]
    · rw [if_neg e, ht, hvterm]
      simp only [e, false_and, and_false, if_false]
  · rw [noteFlowWaiting_mgmt, hrb, if_pos h]
    cases hb : (s.flow w.flow).bound with
    | none => exact hsame .mgmt (by decide)
    | some j =>
      exact notedMgmt_congr (hsame .mgmt (by decide)) (hsame .setup (by decide)) (hsame .link (by decide))
        (by rw [repriceFlow_term, hvterm])

theorem rate_rated (s : State) (w : FlowWrite) (c : Bool) :
    Rated s (s.rate w c) w (c = true ∧ (s.flow w.flow).state = .admitted) := by
  have hstate : ((s.writeFlow w).flow w.flow).state = (s.flow w.flow).state := by
    rw [writeFlow_flow, if_pos rfl]; rfl
  unfold State.rate
  by_cases hc : c = true
  · rw [if_pos hc, State.withdrawForRate, hstate]
    split
    · next ha => exact withdrawForRate_rated s w ⟨hc, ha⟩
    · next ha => exact writeFlow_rated s w fun h => ha h.2
  · rw [if_neg hc]
    exact writeFlow_rated s w fun h => hc h.1

end Sys2Proof.Machine

namespace Sys2Proof.Machine

/-! ### A flow put in its place in a chain (R86, R88) -/

/-- A flow put into a list at its place by class and index. -/
def State.insertIn (s : State) (f : FlowIdx) (l : List FlowIdx) : List FlowIdx :=
  l.takeWhile (fun g => s.chainBefore g f) ++ f :: l.dropWhile fun g => s.chainBefore g f

theorem linkFlow_eq (s : State) (i : Slot) (f : FlowIdx) :
    s.linkFlow i f = s.setChain i (s.insertIn f (s.chain i)) := rfl

theorem chainBefore_iff (s : State) (f g : FlowIdx) : s.chainBefore f g = true ↔ ChainOrder s f g := by
  simp [State.chainBefore, ChainOrder]

theorem ChainOrder.trans {s : State} {f g h : FlowIdx} (a : ChainOrder s f g) (b : ChainOrder s g h) :
    ChainOrder s f h := by
  simp only [ChainOrder, Fin.lt_def, Fin.ext_iff] at *
  omega

theorem chainOrder_of_not {s : State} {f g : FlowIdx} (h : ¬ ChainOrder s g f) (hne : g ≠ f) : ChainOrder s f g := by
  simp only [ChainOrder, Fin.lt_def, Fin.ext_iff, ne_eq] at *
  omega

section
variable (s : State) (f : FlowIdx) (l : List FlowIdx)

theorem insertIn_perm : (s.insertIn f l).Perm (f :: l) := by
  refine List.perm_middle.trans ?_
  rw [List.takeWhile_append_dropWhile]

theorem insertIn_length : (s.insertIn f l).length = l.length + 1 := (insertIn_perm s f l).length_eq

theorem insertIn_mem (g : FlowIdx) : g ∈ s.insertIn f l ↔ g = f ∨ g ∈ l := by
  rw [(insertIn_perm s f l).mem_iff, List.mem_cons]

theorem insertIn_nodup (hf : f ∉ l) (hn : l.Nodup) : (s.insertIn f l).Nodup :=
  (insertIn_perm s f l).nodup_iff.mpr (List.nodup_cons.mpr ⟨hf, hn⟩)

/-- The other flows keep their order. -/
theorem insertIn_filter :
    (s.insertIn f l).filter (fun g => decide (g ≠ f)) = l.filter fun g => decide (g ≠ f) := by
  conv_rhs => rw [← List.takeWhile_append_dropWhile (p := fun g => s.chainBefore g f) (l := l)]
  rw [State.insertIn, List.filter_append, List.filter_cons_of_neg (by simp), List.filter_append]

theorem takeWhile_before {g : FlowIdx} (h : g ∈ l.takeWhile fun g => s.chainBefore g f) : ChainOrder s g f :=
  (chainBefore_iff s g f).mp (List.mem_takeWhile_imp (p := fun g => s.chainBefore g f) h)

theorem dropWhile_head {g : FlowIdx} (h : (l.dropWhile fun g => s.chainBefore g f).head? = some g) :
    ¬ ChainOrder s g f := by
  have := List.head?_dropWhile_not (fun g => s.chainBefore g f) l
  rw [h] at this
  rw [← chainBefore_iff]
  exact Bool.not_eq_true _ ▸ (by simpa using this)

/-- A list by class and index stays so. -/
theorem insertIn_pairwise (hf : f ∉ l) (hp : l.Pairwise (ChainOrder s)) : (s.insertIn f l).Pairwise (ChainOrder s) := by
  have hsplit := List.takeWhile_append_dropWhile (p := fun g => s.chainBefore g f) (l := l)
  have hparts := hp
  rw [← hsplit, List.pairwise_append] at hparts
  obtain ⟨ha, hb, hab⟩ := hparts
  have hafter (g : FlowIdx) (hg : g ∈ l.dropWhile fun g => s.chainBefore g f) : ChainOrder s f g := by
    obtain ⟨x, rest, hx⟩ := List.exists_cons_of_ne_nil (List.ne_nil_of_mem hg)
    have hxl : x ∈ l := by
      rw [← hsplit, hx]
      exact List.mem_append_right _ List.mem_cons_self
    have hfx : ChainOrder s f x := chainOrder_of_not (dropWhile_head s f l (by rw [hx]; rfl)) fun e => hf (e ▸ hxl)
    rw [hx] at hg hb
    rcases List.mem_cons.mp hg with rfl | hg
    · exact hfx
    · exact hfx.trans ((List.pairwise_cons.mp hb).1 g hg)
  refine List.pairwise_append.mpr ⟨ha, List.pairwise_cons.mpr ⟨hafter, hb⟩, fun x hx y hy => ?_⟩
  rcases List.mem_cons.mp hy with rfl | hy
  · exact takeWhile_before s y l hx
  · exact hab x hx y hy

end

end Sys2Proof.Machine

namespace Sys2Proof.Machine

/-! ### The binding and linking of a SET_FLOW (R88) -/

/-- The terminal a SET_FLOW leaves the flow bound to: the one given, or else the old one (R88). -/
def State.boundTo (s : State) (w : FlowWrite) : Option Slot := w.terminal.or (s.flow w.flow).bound

/-- A flow out of its old chain. -/
def State.unchain (s : State) (f : FlowIdx) : State :=
  match (s.flow f).bound with
  | some i => s.unlinkFlow i f
  | none => s

/-- A flow out of its old chain, with the terminal and the class of a SET_FLOW. -/
def State.rebound (s : State) (w : FlowWrite) : State :=
  (s.unchain w.flow).modFlow w.flow fun r => { r with bound := s.boundTo w, cls := w.cls }

theorem bindFlow_eq (s : State) (w : FlowWrite) : s.bindFlow w =
    if s.boundTo w = (s.flow w.flow).bound ∧ (s.flow w.flow).cls = w.cls then s
    else match s.boundTo w with
      | some i => (s.rebound w).linkFlow i w.flow
      | none => s.rebound w := rfl

section
variable (s : State) (w : FlowWrite)

theorem unchain_same (f : FlowIdx) : SameBut [.terms, .flows] s (s.unchain f) := by
  unfold State.unchain
  split
  · exact s.unlinkFlow_same _ f
  · exact SameBut.refl _ s

theorem unchain_flow (f g : FlowIdx) : (s.unchain f).flow g =
    { s.flow g with chainNext := ((s.unchain f).flow g).chainNext } := by
  unfold State.unchain
  split
  · exact unlinkFlow_flow s _ f g
  · rfl

theorem unchain_term (f : FlowIdx) (j : Slot) : (s.unchain f).term j =
    { s.term j with chainHead := ((s.unchain f).term j).chainHead } := by
  unfold State.unchain
  split
  · exact unlinkFlow_term s _ f j
  · rfl

/-- In sound chains a flow out of its old chain is in none, and the others keep their places. -/
theorem unchain_chain (f : FlowIdx) (h : ChainsSound s) (j : Slot) :
    (s.unchain f).chain j = (s.chain j).filter fun g => decide (g ≠ f) := by
  have hmem := h.1
  have hout (hj : (s.flow f).bound ≠ some j) : (s.chain j).filter (fun g => decide (g ≠ f)) = s.chain j :=
    List.filter_eq_self.mpr fun g hg => decide_eq_true fun e => hj ((hmem j f).mp (e ▸ hg))
  unfold State.unchain
  cases hb : (s.flow f).bound with
  | none => exact (hout (by rw [hb]; nofun)).symm
  | some i =>
    by_cases e : j = i
    · subst e
      exact unlinkFlow_chain s j f (h.nodup j)
    · have hne : (s.flow f).bound ≠ some j := by rw [hb]; exact fun k => e (Option.some.inj k).symm
      rw [hout hne]
      refine unlinkFlow_chain_other s i f e fun g hg => ⟨?_, fun hi => ?_⟩
      · rintro rfl
        exact hne ((hmem j g).mp hg)
      · exact e (Option.some.inj (((hmem j g).mp hg).symm.trans ((hmem i g).mp hi)))

theorem rebound_same : SameBut [.terms, .flows] s (s.rebound w) :=
  (unchain_same s w.flow).then (State.modFlow_same _ w.flow _) rfl rfl

theorem rebound_flow_same : (s.rebound w).flow w.flow =
    { s.flow w.flow with
      bound := s.boundTo w, cls := w.cls, chainNext := ((s.rebound w).flow w.flow).chainNext } := by
  rw [State.rebound, State.modFlow_flow, if_pos rfl, unchain_flow]

theorem rebound_flow_other {g : FlowIdx} (h : g ≠ w.flow) : (s.rebound w).flow g =
    { s.flow g with chainNext := ((s.rebound w).flow g).chainNext } := by
  rw [State.rebound, State.modFlow_flow, if_neg h]
  exact unchain_flow s w.flow g

theorem rebound_term (j : Slot) : (s.rebound w).term j =
    { s.term j with chainHead := ((s.rebound w).term j).chainHead } := by
  rw [State.rebound, State.modFlow_term]
  exact unchain_term s w.flow j

theorem rebound_chain (j : Slot) : (s.rebound w).chain j = (s.unchain w.flow).chain j :=
  chain_congr rfl fun g => by
    rw [State.rebound, State.modFlow_flow]
    split
    · next e => rw [e]
    · rfl

end

/-- What the binding and linking leave of the records. -/
structure Bound (s b : State) (w : FlowWrite) : Prop where
  flow : b.flow w.flow = { s.flow w.flow with
    bound := s.boundTo w, cls := w.cls, chainNext := (b.flow w.flow).chainNext }
  other : ∀ g, g ≠ w.flow → b.flow g = { s.flow g with chainNext := (b.flow g).chainNext }
  term : ∀ j, b.term j = { s.term j with chainHead := (b.term j).chainHead }
  same : SameBut [.terms, .flows] s b

theorem rebound_bound (s : State) (w : FlowWrite) : Bound s (s.rebound w) w :=
  ⟨rebound_flow_same s w, fun _ h => rebound_flow_other s w h, rebound_term s w, rebound_same s w⟩

theorem Bound.linked {s b : State} {w : FlowWrite} (h : Bound s b w) (i : Slot) : Bound s (b.linkFlow i w.flow) w where
  flow := by
    rw [linkFlow_eq, setChain_flow, h.flow]
  other g hg := by rw [linkFlow_eq, setChain_flow, h.other g hg]
  term j := by
    rw [linkFlow_eq, setChain_term]
    split
    · next e => rw [e, h.term]
    · exact h.term j
  same := h.same.then (b.linkFlow_same i w.flow) rfl rfl

theorem bindFlow_bound (s : State) (w : FlowWrite) : Bound s (s.bindFlow w) w := by
  rw [bindFlow_eq]
  split
  · next h =>
    refine ⟨?_, fun _ _ => rfl, fun _ => rfl, SameBut.refl _ s⟩
    rw [h.1, ← h.2]
  · split
    · exact (rebound_bound s w).linked _
    · exact rebound_bound s w

/-- A flow joins a chain it does not stand in. -/
theorem linkFlow_chain {s : State} {i : Slot} {f : FlowIdx} (hf : f ∉ s.chain i) (hn : (s.chain i).Nodup)
    (hl : (s.chain i).length < 16) : (s.linkFlow i f).chain i = s.insertIn f (s.chain i) :=
  setChain_chain s i (s.insertIn f (s.chain i)) (insertIn_nodup s f _ hf hn) (by rw [insertIn_length]; omega)

/-- A flow that was not bound joins its terminal's chain at its place (R88). -/
theorem bindFlow_joins {s : State} {w : FlowWrite} {i : Slot} (hb : (s.flow w.flow).bound = none)
    (ht : w.terminal = some i) (hf : w.flow ∉ s.chain i) (hn : (s.chain i).Nodup) (hl : (s.chain i).length < 16) :
    ∃ a b, s.chain i = a ++ b ∧ (s.bindFlow w).chain i = a ++ w.flow :: b ∧
      (∀ g ∈ a, (s.flow g).cls < w.cls ∨ (s.flow g).cls = w.cls ∧ g < w.flow) ∧
      ∀ g, b.head? = some g → w.cls < (s.flow g).cls ∨ (s.flow g).cls = w.cls ∧ w.flow ≤ g := by
  have hto : s.boundTo w = some i := by rw [State.boundTo, ht]; rfl
  have hun : s.unchain w.flow = s := by rw [State.unchain, hb]
  have hbind : s.bindFlow w = (s.rebound w).linkFlow i w.flow := by
    rw [bindFlow_eq, hto, hb, if_neg fun h => nomatch h.1]
  have hchain : (s.rebound w).chain i = s.chain i := by rw [rebound_chain, hun]
  have hjoin := linkFlow_chain (s := s.rebound w) (by rw [hchain]; exact hf) (by rw [hchain]; exact hn)
    (by rw [hchain]; exact hl)
  rw [← hbind, hchain, State.insertIn] at hjoin
  have hcls : ((s.rebound w).flow w.flow).cls = w.cls := by rw [rebound_flow_same]
  have hother (g : FlowIdx) (hg : g ∈ s.chain i) : ((s.rebound w).flow g).cls = (s.flow g).cls := by
    rw [rebound_flow_other s w]
    rintro rfl
    exact hf hg
  have hsplit := List.takeWhile_append_dropWhile (p := fun g => (s.rebound w).chainBefore g w.flow) (l := s.chain i)
  refine ⟨_, _, hsplit.symm, hjoin, fun g hg => ?_, fun g hg => ?_⟩
  · have hgc : g ∈ s.chain i := by
      rw [← hsplit]
      exact List.mem_append_left _ hg
    have horder := takeWhile_before (s.rebound w) w.flow _ hg
    rw [ChainOrder, hcls, hother g hgc] at horder
    exact horder
  · have hgc : g ∈ s.chain i := by
      rw [← hsplit]
      exact List.mem_append_right _ (List.mem_of_head? hg)
    have horder := dropWhile_head (s.rebound w) w.flow _ hg
    rw [ChainOrder, hcls, hother g hgc] at horder
    simp only [Fin.lt_def, Fin.le_def, Fin.ext_iff] at horder ⊢
    omega

/-- In sound chains the flow leaves its old chain and stands in its new one alone, every chain by class and index, and
the other flows keep their chains and their order (R86, R88). -/
theorem bindFlow_chains {s : State} {w : FlowWrite} (h : ChainsSound s)
    (hl : ∀ i, w.terminal = some i → (s.flow w.flow).bound ≠ some i → (s.chain i).length < 16) (j : Slot) :
    ((s.bindFlow w).chain j).filter (fun g => decide (g ≠ w.flow)) =
      (s.chain j).filter (fun g => decide (g ≠ w.flow)) ∧
    (w.flow ∈ (s.bindFlow w).chain j ↔ s.boundTo w = some j) ∧
    ((s.bindFlow w).chain j).Pairwise (ChainOrder (s.bindFlow w)) := by
  have bound := bindFlow_bound s w
  obtain ⟨hmem, hsorted, -, -⟩ := id h
  have horder (f g : FlowIdx) (hf : f ≠ w.flow) (hg : g ≠ w.flow) (t : State) (ht : Bound s t w) :
      ChainOrder s f g → ChainOrder t f g := by
    unfold ChainOrder
    rw [ht.other f hf, ht.other g hg]
    exact id
  have hunchain (j : Slot) : (s.rebound w).chain j = (s.chain j).filter fun g => decide (g ≠ w.flow) := by
    rw [rebound_chain, unchain_chain s w.flow h]
  have hout (j : Slot) : w.flow ∉ (s.rebound w).chain j := by
    rw [hunchain]
    simp
  have hsort (j : Slot) (t : State) (ht : Bound s t w) : ((s.rebound w).chain j).Pairwise (ChainOrder t) := by
    rw [hunchain]
    refine List.Pairwise.imp_of_mem (fun hf hg ho => horder _ _ ?_ ?_ t ht ho) ((hsorted j).2.filter _)
    · exact of_decide_eq_true (List.mem_filter.mp hf).2
    · exact of_decide_eq_true (List.mem_filter.mp hg).2
  have hself (j : Slot) : ((s.rebound w).chain j).filter (fun g => decide (g ≠ w.flow)) =
      (s.chain j).filter fun g => decide (g ≠ w.flow) := by
    rw [hunchain, List.filter_filter]
    exact List.filter_congr fun g _ => Bool.and_self _
  have hnodup (j : Slot) : ((s.rebound w).chain j).Nodup := by
    rw [hunchain]
    exact (h.nodup j).filter _
  rw [bindFlow_eq] at bound ⊢
  by_cases hsame : s.boundTo w = (s.flow w.flow).bound ∧ (s.flow w.flow).cls = w.cls
  · rw [if_pos hsame]
    exact ⟨rfl, by rw [hmem, hsame.1], (hsorted j).2⟩
  rw [if_neg hsame] at bound ⊢
  cases hto : s.boundTo w with
  | none =>
    rw [hto] at bound
    exact ⟨hself j, ⟨fun k => absurd k (hout j), fun k => nomatch k⟩, hsort j _ bound⟩
  | some i =>
    rw [hto] at bound
    have hlen : ((s.rebound w).chain i).length < 16 := by
      rw [hunchain]
      by_cases hi : (s.flow w.flow).bound = some i
      · refine lt_of_lt_of_le (List.length_filter_lt_length_iff_exists.mpr ⟨w.flow, (hmem i w.flow).mpr hi, ?_⟩)
          (hsorted i).1
        simp
      · refine lt_of_le_of_lt (List.length_filter_le _ _) (hl i ?_ hi)
        rw [State.boundTo] at hto
        rcases Option.or_eq_some_iff.mp hto with ht | ⟨-, hb⟩
        · exact ht
        · exact absurd hb hi
    have hjoin := linkFlow_chain (hout i) (hnodup i) hlen
    by_cases e : j = i
    · subst e
      simp only [hjoin]
      refine ⟨(insertIn_filter _ _ _).trans (hself j), by simp [insertIn_mem], ?_⟩
      have hp := insertIn_pairwise (s.rebound w) w.flow _ (hout j) (hsort j _ (rebound_bound s w))
      refine hp.imp fun {a b} ho => ?_
      unfold ChainOrder at ho ⊢
      have hc (g : FlowIdx) : (((s.rebound w).linkFlow j w.flow).flow g).cls = ((s.rebound w).flow g).cls := by
        rw [linkFlow_eq, setChain_flow]
      rw [hc, hc]
      exact ho
    · have hkeep : ((s.rebound w).linkFlow i w.flow).chain j = (s.rebound w).chain j := by
        rw [linkFlow_eq]
        refine setChain_chain_other _ i _ e fun g hg hgi => ?_
        rcases (insertIn_mem _ _ _ g).mp hgi with rfl | hgi
        · exact hout j hg
        · rw [hunchain] at hg hgi
          exact e (Option.some.inj (((hmem j g).mp (List.mem_of_mem_filter hg)).symm.trans
            ((hmem i g).mp (List.mem_of_mem_filter hgi))))
      simp only [hkeep]
      exact ⟨hself j, ⟨fun k => absurd k (hout j), fun k => absurd (Option.some.inj k).symm e⟩, hsort j _ bound⟩

end Sys2Proof.Machine

namespace Sys2Proof.Machine

/-! ### SET_FLOW before its report (R87 to R90) -/

/-- Whether a SET_FLOW ends with the CLED's report (R19, R115). -/
def FlowWrite.reports (w : FlowWrite) (r : Flow) : Bool :=
  w.rebinds r || (r.bound.isSome && (decide (w.cls ≠ r.cls) || decide (w.cb ≠ r.cb)))

/-- The binding, the fields and the change of CB of a SET_FLOW. -/
def State.setFields (s : State) (w : FlowWrite) : State :=
  (s.bindFlow w).rate w (decide (w.cb ≠ (s.flow w.flow).cb))

/-- A SET_FLOW before its report: the queue trimmed where the limit is lowered. -/
def State.setFlowQuiet (s : State) (w : FlowWrite) : State :=
  if w.limit < (s.flow w.flow).limit then (s.setFields w).trimToLimit w.flow else s.setFields w

theorem setFlow_eq (s : State) (w : FlowWrite) : s.setFlow w =
    if w.reports (s.flow w.flow) = true then (s.setFlowQuiet w).reportRamping else s.setFlowQuiet w := rfl

/-- The record of a flow with the fields of a SET_FLOW, withdrawn where it is to be. -/
def Flow.rewritten (x : Flow) (w : FlowWrite) (gone : Prop) [Decidable gone] : Flow :=
  if gone then (x.written w).withdrawnNew else x.written w

/-- What the binding, the fields and the change of CB leave, before the queue is trimmed. -/
structure FieldsSet (s p : State) (w : FlowWrite) (gone : Prop) [Decidable gone] : Prop where
  flow : p.flow w.flow = { (s.flow w.flow).rewritten w gone with
    bound := s.boundTo w, cls := w.cls, chainNext := (p.flow w.flow).chainNext }
  other : ∀ g, g ≠ w.flow → p.flow g = { s.flow g with chainNext := (p.flow g).chainNext }
  placed : gone → PlacedByClass (fun g => (s.flow g).cls.val) w.flow s.ledger.list p.ledger.list
  list : ¬ gone → p.ledger.list = s.ledger.list
  repriced : Repriced s p (if gone then (s.flow w.flow).bound else none)
  term : ∀ j, p.term j = { s.term j with
    state := if gone ∧ (s.flow w.flow).bound = some j ∧ (s.term j).state = .inService then .ramping
      else (s.term j).state
    chainHead := (p.term j).chainHead
    beforeFade := if gone ∧ (s.flow w.flow).bound = some j ∧ (s.term j).state = .fading then some .ramping
      else (s.term j).beforeFade
    needUp := (p.term j).needUp, needDown := (p.term j).needDown }
  mgmt : p.mgmt = if gone then match (s.flow w.flow).bound with
    | some j => s.notedMgmt j
    | none => s.mgmt else s.mgmt
  chain : ∀ j, p.chain j = (s.bindFlow w).chain j
  same : SameBut [.terms, .flows, .ledger, .mgmt] s p

/-- The fields of a SET_FLOW leave every link. -/
theorem Rated.chain {s p : State} {w : FlowWrite} {gone : Prop} [Decidable gone] (h : Rated s p w gone) (j : Slot) :
    p.chain j = s.chain j := by
  refine chain_congr (by rw [h.term]) fun g => ?_
  by_cases e : g = w.flow
  · rw [e, h.flow]
    split <;> rfl
  · rw [h.other g e]

/-- A flow withdrawn for its CB is neither bound anew nor moved in its chain, as its class and terminal would have to
change only in DISABLED (R87). -/
theorem setFields_set (s : State) (w : FlowWrite) {gone : Prop} [Decidable gone]
    (hg : gone ↔ (s.flow w.flow).state = .admitted ∧ w.cb ≠ (s.flow w.flow).cb)
    (hstay : (s.flow w.flow).state = .admitted → s.boundTo w = (s.flow w.flow).bound ∧ (s.flow w.flow).cls = w.cls) :
    FieldsSet s (s.setFields w) w gone := by
  have bound := bindFlow_bound s w
  have hstate : ((s.bindFlow w).flow w.flow).state = (s.flow w.flow).state := by rw [bound.flow]
  have rated := rate_rated (s.bindFlow w) w (decide (w.cb ≠ (s.flow w.flow).cb))
  have hiff : (decide (w.cb ≠ (s.flow w.flow).cb) = true ∧ ((s.bindFlow w).flow w.flow).state = .admitted) ↔ gone := by
    rw [hstate, decide_eq_true_iff, hg, and_comm]
  have rated : Rated (s.bindFlow w) (s.setFields w) w gone := by
    obtain ⟨h1, h2, h3, h4, h5, h6, h7, h8⟩ := rated
    simp only [hiff] at h1 h3 h4 h5 h6 h7
    exact ⟨h1, h2, h3, h4, h5, h6, h7, h8⟩
  by_cases h : gone
  · obtain ⟨ha, -⟩ := hg.mp h
    have hs : s.bindFlow w = s := by rw [bindFlow_eq, if_pos (hstay ha)]
    have hchain := rated.chain
    rw [hs] at rated hchain
    refine ⟨?_, fun g hg => by rw [rated.other g hg], rated.placed, rated.list, rated.repriced, fun j => ?_, rated.mgmt,
      fun j => by rw [hs, hchain], rated.same⟩
    · rw [rated.flow, Flow.rewritten, (hstay ha).1, ← (hstay ha).2]
      split <;> rfl
    · rw [rated.term]
  · refine ⟨?_, fun g hg => ?_, fun k => absurd k h, fun _ => ?_, ?_, fun j => ?_, ?_, rated.chain,
      bound.same.then rated.same rfl rfl⟩
    · rw [rated.flow, Flow.rewritten, if_neg h, if_neg h, bound.flow]
      rfl
    · rw [rated.other g hg, bound.other g hg]
    · rw [rated.list h, bound.same .ledger (by decide)]
    · have hrep := rated.repriced
      rw [if_neg h] at hrep ⊢
      obtain ⟨hneed, hload, -⟩ := hrep
      have hl : (s.bindFlow w).ledger = s.ledger := bound.same .ledger (by decide)
      refine .none_of (fun i x => ?_) ((hload rfl).1.trans (by rw [hl])) ((hload rfl).2.trans (by rw [hl]))
      rw [hneed, if_neg nofun, bound.term]
      cases x <;> rfl
    · rw [rated.term, bound.term]
      simp only [h, false_and, if_false]
    · rw [rated.mgmt, if_neg h, if_neg h, bound.same .mgmt (by decide)]

/-- The trim of a SET_FLOW: it leaves the longest head part of the queue that fits a lowered limit (R90). -/
theorem setFlowQuiet_trimmed {s : State} {w : FlowWrite} {gone : Prop} [Decidable gone]
    (h : FieldsSet s (s.setFields w) w gone) : ∃ k, TrimmedBy (s.setFields w) (s.setFlowQuiet w) w.flow k ∧
      k ≤ (s.flow w.flow).queue.length ∧
      ((s.flow w.flow).limit ≤ w.limit ∨ (s.flow w.flow).cellsHeld ≤ w.limit → k = 0) ∧
      (w.limit < (s.flow w.flow).limit →
        cellsIn ((s.flow w.flow).queue.take ((s.flow w.flow).queue.length - k)) ≤ w.limit) ∧
      (0 < k → w.limit < cellsIn ((s.flow w.flow).queue.take ((s.flow w.flow).queue.length - k + 1))) := by
  have hqueue : ((s.setFields w).flow w.flow).queue = (s.flow w.flow).queue := by
    rw [h.flow, Flow.rewritten]
    split <;> rfl
  have hlimit : ((s.setFields w).flow w.flow).limit = w.limit := by
    rw [h.flow, Flow.rewritten]
    split <;> rfl
  unfold State.setFlowQuiet
  split
  · next hlow =>
    obtain ⟨k, hk, hle, hfit, hlast⟩ := trimTail_spec (f := w.flow) _ (s.setFields w) 0 (.zero _ _) (Nat.zero_add _)
      fun k => absurd k (Nat.not_lt_zero 0)
    rw [hqueue] at hle hfit hlast
    rw [hlimit] at hfit hlast
    refine ⟨k, hk, hle, fun hh => ?_, fun _ => hfit, hlast⟩
    by_contra h0
    have hover := (hlast (Nat.pos_of_ne_zero h0)).trans_le (cellsIn_take_le _ _)
    rw [← cellsHeld_eq] at hover
    omega
  · next hlow => exact ⟨0, .zero _ _, Nat.zero_le _, fun _ => rfl, fun hh => absurd hh hlow, fun k => absurd k (Nat.not_lt_zero 0)⟩

end Sys2Proof.Machine

namespace Sys2Proof.Machine

/-! ### The body of a SET_FLOW (R87) -/

theorem directionOf_eq_some {b : Byte} {x : Direction} (h : b = 0#8 ∨ b = 1#8) (hx : x = .down ↔ b = 0#8) :
    directionOf b = some x := by
  rcases h with rfl | rfl
  · rw [hx.mpr rfl]; rfl
  · cases x with
    | up => rfl
    | down => exact absurd (hx.mp rfl) (by decide)

theorem directionOf_eq_none {b : Byte} (h : ¬ (b = 0#8 ∨ b = 1#8)) : directionOf b = none := by
  rw [not_or] at h
  rw [directionOf, if_neg h.1, if_neg h.2]

theorem fadePolicyOf_eq_some {b : Byte} (h : b = 0#8 ∨ b = 1#8) :
    fadePolicyOf b = some (if b = 0#8 then .hold else .shed) := by
  rcases h with rfl | rfl <;> rfl

theorem fadePolicyOf_eq_none {b : Byte} (h : ¬ (b = 0#8 ∨ b = 1#8)) : fadePolicyOf b = none := by
  rw [not_or] at h
  rw [fadePolicyOf, if_neg h.1, if_neg h.2]

theorem toWrite_eq_none {b : FlowBody} (h : flowOf b.index = none ∨ b.dir = none ∨ b.policy = none) :
    b.toWrite = none := by
  unfold FlowBody.toWrite
  rcases h with h | h | h <;> rw [h]
  · cases flowOf b.index <;> rfl
  · cases flowOf b.index with
    | none => rfl
    | some f => cases b.dir <;> rfl

/-- The write that a SET_FLOW of a flow, a direction and a class asks for, after the clamps (R87). -/
def flowWriteOf (body : List Byte) (f : FlowIdx) (dir : Direction) (cls : Fin 8) : FlowWrite where
  flow := f
  terminal := if bitAt body 2 0 then some (slotAt body 3) else none
  dir := dir
  cls := cls
  policy := if byteAt body 6 = 0#8 then .hold else .shed
  cb := min 16383 (nat16At body 8)
  pb := min 16383 (max (min 16383 (nat16At body 8)) (nat16At body 10))
  limit := min 4096 (max 1 (nat16At body 12))
  holdAge := min 32767 (max 1 (nat16At body 14))

theorem toWrite_readFlowBody {body : List Byte} {f : FlowIdx} {dir : Direction} {cls : Fin 8}
    (hf : f.val = nat16At body 0) (hd : byteAt body 4 = 0#8 ∨ byteAt body 4 = 1#8)
    (hp : byteAt body 6 = 0#8 ∨ byteAt body 6 = 1#8) (hdir : dir = .down ↔ byteAt body 4 = 0#8)
    (hcls : cls.val = min 7 (nat8At body 5)) :
    (readFlowBody body).toWrite = some (flowWriteOf body f dir cls) := by
  have hcb (n : Nat) : clamp 0 16383 n = min 16383 n := by rw [clamp, Nat.zero_max]
  have hc : flowClass (clamp 0 7 (nat8At body 5)) = cls := by
    apply Fin.ext
    show min (clamp 0 7 (nat8At body 5)) 7 = cls.val
    rw [hcls, clamp]
    omega
  unfold FlowBody.toWrite
  rw [show flowOf (readFlowBody body).index = _ from flowOf_eq_some hf,
    show (readFlowBody body).dir = _ from directionOf_eq_some hd hdir,
    show (readFlowBody body).policy = _ from fadePolicyOf_eq_some hp]
  simp only [FlowBody.clamp, readFlowBody, hcb, hc, flowWriteOf]
  rfl

theorem clamp_eq_self {lo hi n : Nat} (h : lo ≤ hi) : clamp lo hi n = n ↔ lo ≤ n ∧ n ≤ hi := by
  unfold clamp
  omega

/-- A flow body is clamped where a number of it lies outside its range (R87). -/
theorem flowBody_clamp_eq (b : FlowBody) : b.clamp = b ↔
    b.cls ≤ 7 ∧ b.cb ≤ 16383 ∧ min 16383 b.cb ≤ b.pb ∧ b.pb ≤ 16383 ∧ 1 ≤ b.limit ∧ b.limit ≤ 4096 ∧
      1 ≤ b.holdAge ∧ b.holdAge ≤ 32767 := by
  have hcb : clamp 0 16383 b.cb = min 16383 b.cb := by rw [clamp, Nat.zero_max]
  have hfields : b.clamp = b ↔ clamp 0 7 b.cls = b.cls ∧ clamp 0 16383 b.cb = b.cb ∧
      clamp (clamp 0 16383 b.cb) 16383 b.pb = b.pb ∧ clamp 1 4096 b.limit = b.limit ∧
      clamp 1 32767 b.holdAge = b.holdAge := by
    cases b
    simp only [FlowBody.clamp, FlowBody.mk.injEq, true_and]
  have hcls := clamp_eq_self (lo := 0) (hi := 7) (n := b.cls) (by omega)
  have hpb := clamp_eq_self (lo := min 16383 b.cb) (hi := 16383) (n := b.pb) (by omega)
  have hlimit := clamp_eq_self (lo := 1) (hi := 4096) (n := b.limit) (by omega)
  have hage := clamp_eq_self (lo := 1) (hi := 32767) (n := b.holdAge) (by omega)
  rw [hfields, hcb, hcls, hpb, hlimit, hage]
  omega

theorem flowWriteOf_rebinds (body : List Byte) (f : FlowIdx) (dir : Direction) (cls : Fin 8) (x : Flow) :
    (flowWriteOf body f dir cls).rebinds x = true ↔ bitAt body 2 0 = true ∧ x.bound ≠ some (slotAt body 3) := by
  show ((if bitAt body 2 0 then some (slotAt body 3) else none : Option Slot).isSome &&
    decide ((if bitAt body 2 0 then some (slotAt body 3) else none) ≠ x.bound)) = true ↔ _
  generalize slotAt body 3 = i
  cases bitAt body 2 0 with
  | false => exact ⟨fun h => (nomatch h), fun h => (nomatch h.1)⟩
  | true =>
    simp only [if_true, Option.isSome_some, Bool.true_and, decide_eq_true_iff, true_and]
    exact ne_comm

/-- The terminal a SET_FLOW leaves the flow bound to. -/
theorem flowWriteOf_boundTo (body : List Byte) (f : FlowIdx) (dir : Direction) (cls : Fin 8) (s : State) :
    s.boundTo (flowWriteOf body f dir cls) = if bitAt body 2 0 then some (slotAt body 3) else (s.flow f).bound := by
  unfold State.boundTo flowWriteOf
  cases bitAt body 2 0 <;> rfl

end Sys2Proof.Machine

namespace Sys2Proof.Machine

/-! ### What a SET_FLOW leaves, its report apart -/

/-- The counters of a flow after tail discards, by the entries left (R90). -/
theorem trimmed_counters (x : Flow) {k : Nat} (h : k ≤ x.queue.length) : (x.trimmed k).counters =
    if x.queue.length - k = x.queue.length then x.counters else
      { x.counters with
        full := min (x.counters.full + (x.queue.length - (x.queue.length - k))) 4294967295 } := by
  show ({ x.counters with
    full := if k = 0 then x.counters.full else min (x.counters.full + k) 4294967295 } : FlowCounters) = _
  by_cases h0 : k = 0
  · rw [if_pos h0, if_pos (by omega)]
  · rw [if_neg h0, if_neg (by omega), show x.queue.length - (x.queue.length - k) = k by omega]

/-- The record of a flow rewritten, field by field. -/
theorem rewritten_eq (x : Flow) (w : FlowWrite) (gone : Prop) [Decidable gone] : x.rewritten w gone =
    { x.written w with
      state := if gone then .waiting .new else x.state
      credit := if gone then 0 else x.credit
      marker := if gone then none else x.marker } := by
  unfold Flow.rewritten
  by_cases h : gone
  · simp only [if_pos h]; rfl
  · simp only [if_neg h]; rfl

/-- A trim leaves the terminals, the ledger and what chains and needs read of the flows. -/
theorem TrimmedBy.term {s t : State} {f : FlowIdx} {k : Nat} (h : TrimmedBy s t f k) (j : Slot) :
    t.term j = s.term j := term_of_terms (h.same .terms (by decide)) j

theorem TrimmedBy.ledger {s t : State} {f : FlowIdx} {k : Nat} (h : TrimmedBy s t f k) : t.ledger = s.ledger :=
  h.same .ledger (by decide)

theorem TrimmedBy.links {s t : State} {f : FlowIdx} {k : Nat} (h : TrimmedBy s t f k) (g : FlowIdx) :
    (t.flow g).chainNext = (s.flow g).chainNext ∧ (t.flow g).dir = (s.flow g).dir ∧
    (t.flow g).state = (s.flow g).state ∧ (t.flow g).cb = (s.flow g).cb := by
  by_cases e : g = f
  · rw [e, h.flow]; exact ⟨rfl, rfl, rfl, rfl⟩
  · rw [h.other g e]; exact ⟨rfl, rfl, rfl, rfl⟩

section
variable {s : State} {w : FlowWrite} {gone : Prop} [Decidable gone] {k : Nat}
  (fields : FieldsSet s (s.setFields w) w gone) (trim : TrimmedBy (s.setFields w) (s.setFlowQuiet w) w.flow k)
include fields trim

theorem setFlowQuiet_flow : (s.setFlowQuiet w).flow w.flow = { ((s.flow w.flow).rewritten w gone).trimmed k with
    bound := s.boundTo w, cls := w.cls, chainNext := ((s.setFlowQuiet w).flow w.flow).chainNext } := by
  rw [trim.flow, fields.flow]
  rfl

theorem setFlowQuiet_other (g : FlowIdx) (hg : g ≠ w.flow) : (s.setFlowQuiet w).flow g =
    { s.flow g with chainNext := ((s.setFlowQuiet w).flow g).chainNext } := by
  rw [trim.other g hg, fields.other g hg]

theorem setFlowQuiet_chain (j : Slot) : (s.setFlowQuiet w).chain j = (s.bindFlow w).chain j := by
  rw [← fields.chain j]
  exact chain_congr (by rw [trim.term]) fun g => (trim.links g).1

theorem setFlowQuiet_repriced : Repriced s (s.setFlowQuiet w) (if gone then (s.flow w.flow).bound else none) := by
  have ht := trim.term
  have hl := trim.ledger
  refine fields.repriced.mono (fun i x => by rw [ht]) (fun i x => ?_) ⟨by rw [hl], by rw [hl]⟩
  exact needWith_kept (by rw [ht]) (by rw [ht]) (by rw [ht]) (trim.same .setup (by decide))
    (trim.same .profiles (by decide)) trim.links

theorem setFlowQuiet_buffer : (s.setFlowQuiet w).buffer = { s.buffer with
    freeCells := s.buffer.freeCells +
      ((s.flow w.flow).cellsHeld - ((s.setFlowQuiet w).flow w.flow).cellsHeld) } := by
  have hheld : ((s.setFields w).flow w.flow).cellsHeld = (s.flow w.flow).cellsHeld := by
    rw [fields.flow, rewritten_eq]
    rfl
  have hb : (s.setFields w).buffer = s.buffer := fields.same .buffer (by decide)
  rw [trim.buffer, hheld, hb]

/-- The notices of a SET_FLOW before its report (R19, R141). -/
theorem setFlowQuiet_mgmt : (s.setFlowQuiet w).mgmt =
    if gone then match (s.flow w.flow).bound with
      | some j => s.notedMgmt j
      | none => s.mgmt
    else match (s.flow w.flow).marker with
      | some m =>
        if m.countedIn (s.flow w.flow).queue.length ((s.flow w.flow).queue.length - k) ≠ 0 ∧
            m.countedIn (s.flow w.flow).queue.length ((s.flow w.flow).queue.length - k) = m.remaining then
          s.notified (.drained w.flow (s.boundTo w) m.released
            (m.discarded + m.countedIn (s.flow w.flow).queue.length ((s.flow w.flow).queue.length - k)))
        else s.mgmt
      | none => s.mgmt := by
  have hmgmt := fields.mgmt
  have hset : (s.setFields w).setup = s.setup := fields.same .setup (by decide)
  have hlink : (s.setFields w).link = s.link := fields.same .link (by decide)
  rw [trim.mgmt]
  unfold State.trimMgmt
  rw [fields.flow, rewritten_eq]
  by_cases h : gone
  · simp only [if_pos h] at hmgmt ⊢
    exact hmgmt
  · simp only [if_neg h] at hmgmt ⊢
    simp only [State.notified, hmgmt, hset, hlink]
    cases (s.flow w.flow).marker <;> rfl

theorem setFlowQuiet_controller : (s.setFlowQuiet w).mgmt.controller = s.mgmt.controller := by
  rw [setFlowQuiet_mgmt fields trim]
  split
  · split
    · unfold State.notedMgmt
      split
      · exact Management.take_controller _ _ _ _
      · rfl
    · rfl
  · split
    · split
      · exact Management.take_controller _ _ _ _
      · rfl
    · rfl

theorem setFlowQuiet_same : SameBut [.terms, .flows, .ledger, .buffer, .mgmt] s (s.setFlowQuiet w) :=
  fields.same.then trim.same rfl rfl

end

/-! ### The report where a command ends with one -/

/-- A report, where a command makes one. -/
def State.reportIf (s : State) (c : Bool) : State := if c = true then s.reportRamping else s

section
variable (s : State) (c : Bool)

theorem reportIf_same : SameBut [.terms, .mgmt] s (s.reportIf c) := by
  unfold State.reportIf
  split
  · exact s.reportRamping_same
  · exact SameBut.refl _ s

theorem reportIf_flow (g : FlowIdx) : (s.reportIf c).flow g = s.flow g :=
  flow_of_flows (reportIf_same s c .flows (by decide)) g

theorem reportIf_term (j : Slot) : (s.reportIf c).term j =
    { s.term j with state := ((s.reportIf c).term j).state } := by
  unfold State.reportIf
  split
  · exact reportRamping_term s j
  · rfl

theorem reportIf_chain (j : Slot) : (s.reportIf c).chain j = s.chain j :=
  chain_congr (by rw [reportIf_term]) fun g => by rw [reportIf_flow]

theorem reportIf_controller : (s.reportIf c).mgmt.controller = s.mgmt.controller := by
  unfold State.reportIf
  split
  · exact s.reportRamping_reported.controller
  · rfl

theorem Repriced.reportedIf {s u : State} {b : Option Slot} (h : Repriced s u b) (c : Bool) :
    Repriced s (u.reportIf c) b := by
  unfold State.reportIf
  split
  · exact h.reported
  · exact h

end

theorem setFlow_eq_reportIf (s : State) (w : FlowWrite) :
    s.setFlow w = (s.setFlowQuiet w).reportIf (w.reports (s.flow w.flow)) := setFlow_eq s w

/-! ### What a SET_FLOW leaves -/

theorem setFlow_list {s : State} {w : FlowWrite} {k : Nat}
    (trim : TrimmedBy (s.setFields w) (s.setFlowQuiet w) w.flow k) :
    (s.setFlow w).ledger.list = (s.setFields w).ledger.list := by
  rw [setFlow_eq_reportIf, reportIf_same _ _ .ledger (by decide), trim.ledger]

section
variable {s : State} {w : FlowWrite} {gone : Prop} [Decidable gone] {k : Nat}
  (fields : FieldsSet s (s.setFields w) w gone) (trim : TrimmedBy (s.setFields w) (s.setFlowQuiet w) w.flow k)
include fields trim

theorem setFlow_flow : (s.setFlow w).flow w.flow = { ((s.flow w.flow).rewritten w gone).trimmed k with
    bound := s.boundTo w, cls := w.cls, chainNext := ((s.setFlow w).flow w.flow).chainNext } := by
  rw [setFlow_eq_reportIf, reportIf_flow, setFlowQuiet_flow fields trim]

theorem setFlow_other (g : FlowIdx) (hg : g ≠ w.flow) : (s.setFlow w).flow g =
    { s.flow g with chainNext := ((s.setFlow w).flow g).chainNext } := by
  rw [setFlow_eq_reportIf, reportIf_flow, setFlowQuiet_other fields trim g hg]

theorem setFlow_term (j : Slot) : (s.setFlow w).term j = { s.term j with
    state := ((s.setFlow w).term j).state, chainHead := ((s.setFlow w).term j).chainHead
    beforeFade := if gone ∧ (s.flow w.flow).bound = some j ∧ (s.term j).state = .fading then some .ramping
      else (s.term j).beforeFade
    needUp := ((s.setFlow w).term j).needUp, needDown := ((s.setFlow w).term j).needDown } := by
  rw [setFlow_eq_reportIf, reportIf_term, trim.term, fields.term]

theorem setFlow_buffer : (s.setFlow w).buffer = { s.buffer with
    freeCells := s.buffer.freeCells + ((s.flow w.flow).cellsHeld - ((s.setFlow w).flow w.flow).cellsHeld) } := by
  rw [setFlow_eq_reportIf, reportIf_flow, reportIf_same _ _ .buffer (by decide), setFlowQuiet_buffer fields trim]

theorem setFlow_repriced : Repriced s (s.setFlow w) (if gone then (s.flow w.flow).bound else none) := by
  rw [setFlow_eq_reportIf]
  exact (setFlowQuiet_repriced fields trim).reportedIf _

theorem setFlow_controller : (s.setFlow w).mgmt.controller = s.mgmt.controller := by
  rw [setFlow_eq_reportIf, reportIf_controller, setFlowQuiet_controller fields trim]

/-- The chains are those of the binding and linking. -/
theorem setFlow_chain (j : Slot) : (s.setFlow w).chain j = (s.bindFlow w).chain j := by
  rw [setFlow_eq_reportIf, reportIf_chain, setFlowQuiet_chain fields trim]

theorem setFlow_cls (g : FlowIdx) : ((s.setFlow w).flow g).cls = ((s.bindFlow w).flow g).cls := by
  have bound := bindFlow_bound s w
  by_cases e : g = w.flow
  · rw [e, setFlow_flow fields trim, bound.flow]
  · rw [setFlow_other fields trim g e, bound.other g e]

/-- The chains of a SET_FLOW in sound chains (R86, R88). -/
theorem setFlow_chains (h : ChainsSound s)
    (hl : ∀ i, w.terminal = some i → (s.flow w.flow).bound ≠ some i → (s.chain i).length < 16) (j : Slot) :
    ((s.setFlow w).chain j).filter (fun g => decide (g ≠ w.flow)) =
      (s.chain j).filter (fun g => decide (g ≠ w.flow)) ∧
    (w.flow ∈ (s.setFlow w).chain j ↔ s.boundTo w = some j) ∧
    ((s.setFlow w).chain j).Pairwise (ChainOrder (s.setFlow w)) := by
  obtain ⟨h1, h2, h3⟩ := bindFlow_chains h hl j
  rw [setFlow_chain fields trim]
  refine ⟨h1, h2, h3.imp fun {a b} ho => ?_⟩
  unfold ChainOrder at ho ⊢
  rw [setFlow_cls fields trim, setFlow_cls fields trim]
  exact ho

/-- The states and the notices of a SET_FLOW, its report made or not (R19, R115). -/
theorem setFlow_reported {before : Slot → TermState} {m : Management}
    (hs : ∀ j, before j = if gone ∧ (s.flow w.flow).bound = some j ∧ (s.term j).state = .inService then .ramping
      else (s.term j).state) (hm : (s.setFlowQuiet w).mgmt = m) :
    (w.reports (s.flow w.flow) = true → Reported s (s.setFlow w) before m) ∧
    (¬ w.reports (s.flow w.flow) = true →
      (s.setFlow w).mgmt = m ∧ ∀ j, ((s.setFlow w).term j).state = before j) := by
  have hstate (j : Slot) : ((s.setFlowQuiet w).term j).state = before j := by
    rw [trim.term, fields.term, hs]
  rw [setFlow_eq]
  refine ⟨fun h => ?_, fun h => ?_⟩
  · rw [if_pos h]
    exact reported_of (setFlowQuiet_same fields trim) hstate hm
  · rw [if_neg h]
    exact ⟨hm, hstate⟩

end

end Sys2Proof.Machine

namespace Sys2Proof.Machine

/-! ### The checks of SET_FLOW (R87) -/

section
variable {body : List Byte} {s : State} {w : FlowWrite}

theorem checkSetFlow_range (h : (readFlowBody body).toWrite = none) :
    checkSetFlow (readFlowBody body) s = .refuse .range := by
  rw [checkSetFlow, h]

theorem checkSetFlow_absent (h : (readFlowBody body).toWrite = some w)
    (ha : (w.terminal.map fun i => (s.term i).state) = some .absent) :
    checkSetFlow (readFlowBody body) s = .refuse .absent := by
  rw [checkSetFlow, h]
  exact if_pos ha

theorem checkSetFlow_busy (h : (readFlowBody body).toWrite = some w)
    (ha : (w.terminal.map fun i => (s.term i).state) ≠ some .absent)
    (hb : (s.flow w.flow).state ≠ .disabled ∧ (w.rebinds (s.flow w.flow) = true ∨ w.dir ≠ (s.flow w.flow).dir ∨
      w.cls ≠ (s.flow w.flow).cls)) :
    checkSetFlow (readFlowBody body) s = .refuse .busy := by
  rw [checkSetFlow, h]
  exact (if_neg ha).trans (if_pos hb)

theorem checkSetFlow_full (h : (readFlowBody body).toWrite = some w)
    (ha : (w.terminal.map fun i => (s.term i).state) ≠ some .absent)
    (hb : ¬ ((s.flow w.flow).state ≠ .disabled ∧ (w.rebinds (s.flow w.flow) = true ∨ w.dir ≠ (s.flow w.flow).dir ∨
      w.cls ≠ (s.flow w.flow).cls)))
    (hc : w.rebinds (s.flow w.flow) = true ∧
      (w.terminal.map fun i => decide (Config.chainMax ≤ (s.chain i).length)) = some true) :
    checkSetFlow (readFlowBody body) s = .refuse .chainFull := by
  rw [checkSetFlow, h]
  exact (if_neg ha).trans ((if_neg hb).trans (if_pos hc))

theorem checkSetFlow_taken (h : (readFlowBody body).toWrite = some w)
    (ha : (w.terminal.map fun i => (s.term i).state) ≠ some .absent)
    (hb : ¬ ((s.flow w.flow).state ≠ .disabled ∧ (w.rebinds (s.flow w.flow) = true ∨ w.dir ≠ (s.flow w.flow).dir ∨
      w.cls ≠ (s.flow w.flow).cls)))
    (hc : ¬ (w.rebinds (s.flow w.flow) = true ∧
      (w.terminal.map fun i => decide (Config.chainMax ≤ (s.chain i).length)) = some true)) :
    checkSetFlow (readFlowBody body) s =
      .take (okOr (decide ((readFlowBody body).clamp ≠ readFlowBody body))) (fun s => s.setFlow w) [] := by
  rw [checkSetFlow, h]
  exact (if_neg ha).trans ((if_neg hb).trans (if_neg hc))

end

/-! ### The checks and the report by the bytes of a SET_FLOW -/

section
variable (body : List Byte) (f : FlowIdx) (dir : Direction) (cls : Fin 8) (x : Flow) (s : State)

theorem flowWriteOf_absent : ((flowWriteOf body f dir cls).terminal.map fun i => (s.term i).state) = some .absent ↔
    bitAt body 2 0 = true ∧ (s.term (slotAt body 3)).state = .absent := by
  unfold flowWriteOf
  cases bitAt body 2 0 with
  | false => exact ⟨fun h => (nomatch h), fun h => (nomatch h.1)⟩
  | true => exact ⟨fun h => ⟨rfl, Option.some.inj h⟩, fun h => congrArg some h.2⟩

/-- Whether the binding, the direction or the class of a flow that is not DISABLED would change (R87). -/
theorem flowWriteOf_busy : (x.state ≠ .disabled ∧ ((flowWriteOf body f dir cls).rebinds x = true ∨
      (flowWriteOf body f dir cls).dir ≠ x.dir ∨ (flowWriteOf body f dir cls).cls ≠ x.cls)) ↔
    x.state ≠ .disabled ∧ ((bitAt body 2 0 = true ∧ x.bound ≠ some (slotAt body 3)) ∨ x.dir ≠ dir ∨ x.cls ≠ cls) := by
  rw [flowWriteOf_rebinds, ne_comm (a := x.dir), ne_comm (a := x.cls)]
  rfl

/-- Whether a binding to another terminal finds its chain full (R87). -/
theorem flowWriteOf_full : ((flowWriteOf body f dir cls).rebinds x = true ∧
      ((flowWriteOf body f dir cls).terminal.map fun i => decide (Config.chainMax ≤ (s.chain i).length)) = some true) ↔
    (bitAt body 2 0 = true ∧ x.bound ≠ some (slotAt body 3)) ∧ 16 ≤ (s.chain (slotAt body 3)).length := by
  rw [flowWriteOf_rebinds]
  refine and_congr_right fun ⟨hg, _⟩ => ?_
  unfold flowWriteOf
  rw [if_pos hg]
  exact ⟨fun h => of_decide_eq_true (Option.some.inj h), fun h => congrArg some (decide_eq_true h)⟩

theorem flowWriteOf_reports : (flowWriteOf body f dir cls).reports x = true ↔
    (bitAt body 2 0 = true ∧ x.bound ≠ some (slotAt body 3)) ∨
      x.bound ≠ none ∧ (cls ≠ x.cls ∨ min 16383 (nat16At body 8) ≠ x.cb) := by
  rw [FlowWrite.reports, Bool.or_eq_true, flowWriteOf_rebinds, Bool.and_eq_true, Option.isSome_iff_ne_none,
    Bool.or_eq_true, decide_eq_true_iff, decide_eq_true_iff]
  rfl

/-- A terminal given is that of the write. -/
theorem flowWriteOf_given {i : Slot} (h : (flowWriteOf body f dir cls).terminal = some i) :
    bitAt body 2 0 = true ∧ slotAt body 3 = i := by
  have h' : (if bitAt body 2 0 then some (slotAt body 3) else none) = some i := h
  split at h'
  · next hg => exact ⟨hg, Option.some.inj h'⟩
  · cases h'

end

/-- The status of a command that is taken (R178). -/
theorem okOr_ok_iff (c : Prop) [Decidable c] :
    (okOr (decide c) = .ok ↔ ¬ c) ∧ (okOr (decide c) ≠ .ok → okOr (decide c) = .clamped) := by
  by_cases h : c <;> simp [okOr, h]

/-- Settles O53: SET_FLOW. -/
theorem setFlowWritesTheFlow : Obligations.SetFlowWritesTheFlow := by
  intro src body s hl refused named
  refine ⟨fun h => answer_refuse hl (checkSetFlow_range (toWrite_eq_none ?_)), fun f dir cls hf hnamed hdir hcls => ?_⟩
  · rcases h with h | h
    · exact .inl (flowOf_eq_none h)
    · rcases not_and_or.mp h with h | h
      · exact .inr (.inl (directionOf_eq_none h))
      · exact .inr (.inr (fadePolicyOf_eq_none h))
  intro x given i cb limit
  let w := flowWriteOf body f dir cls
  have hw : (readFlowBody body).toWrite = some w := toWrite_readFlowBody hf hnamed.1 hnamed.2 hdir hcls
  have habsent := flowWriteOf_absent body f dir cls s
  have hbusy := flowWriteOf_busy body f dir cls x
  have hfull := flowWriteOf_full body f dir cls x s
  refine ⟨fun hg ha => answer_refuse hl (checkSetFlow_absent hw (habsent.mpr ⟨hg, ha⟩)), fun hpresent => ?_⟩
  have hna : (w.terminal.map fun i => (s.term i).state) ≠ some .absent := fun h => by
    obtain ⟨hg, ha⟩ := habsent.mp h
    exact hpresent.elim (fun hp => Bool.false_ne_true (hp.symm.trans hg)) fun hp => hp ha
  intro rebinds
  refine ⟨fun hd hc => answer_refuse hl (checkSetFlow_busy hw hna (hbusy.mpr ⟨hd, hc⟩)), fun hfree => ?_⟩
  have hnb := mt hbusy.mp fun ⟨hd, hc⟩ => hfree.elim hd fun ⟨h1, h2, h3⟩ =>
    hc.elim h1 fun h => h.elim (fun h => h h2) fun h => h h3
  refine ⟨fun hr hlen => answer_refuse hl (checkSetFlow_full hw hna hnb (hfull.mpr ⟨hr, hlen⟩)), fun hroom => ?_⟩
  have hnf := mt hfull.mp fun ⟨hr, hlen⟩ => hroom.elim (fun h => h hr) fun h => absurd h (Nat.not_lt.mpr hlen)
  let s₀ := s.controlledBy src
  let gone : Prop := x.state = .admitted ∧ cb ≠ x.cb
  have hchain (j : Slot) : s₀.chain j = s.chain j := chain_congr rfl fun _ => rfl
  have hbound : s₀.boundTo w = if given then some i else x.bound := flowWriteOf_boundTo body f dir cls s₀
  have hstay (ha : x.state = .admitted) : s₀.boundTo w = x.bound ∧ x.cls = w.cls := by
    obtain ⟨h1, -, h3⟩ := hfree.resolve_left fun h => nomatch ha.symm.trans h
    refine ⟨?_, h3⟩
    rw [hbound]
    split
    · next hg => exact (not_not.mp fun h => h1 ⟨hg, h⟩).symm
    · rfl
  have fields := setFields_set s₀ w (gone := gone) Iff.rfl hstay
  obtain ⟨k, trim, hk, hkeep, hfit, hlast⟩ := setFlowQuiet_trimmed fields
  have hstatus := okOr_ok_iff ((readFlowBody body).clamp ≠ readFlowBody body)
  refine ⟨s₀.setFlow w, _, answer_take (effect := fun s => s.setFlow w) hl (checkSetFlow_taken hw hna hnb hnf), ?_⟩
  have hflow : (s₀.setFlow w).flow f = _ := setFlow_flow fields trim
  have hother : ∀ g, g ≠ f → _ := setFlow_other fields trim
  have hterm := setFlow_term fields trim
  have hbuffer := setFlow_buffer fields trim
  have hrepriced := setFlow_repriced fields trim
  have hcontroller := setFlow_controller fields trim
  have hchains := setFlow_chains fields trim
  have hjoined := setFlow_chain fields trim i
  have hlist := setFlow_list trim
  have hmgmt := setFlowQuiet_mgmt fields trim
  have hsame := (s.controlledBy_same src).then (s₀.setFlow_same w) (rs := [.terms, .flows, .ledger, .buffer, .mgmt]) rfl rfl
  have hreported := fun before m => setFlow_reported fields trim (before := before) (m := m)
  rw [hbound, rewritten_eq] at hflow
  generalize s₀.setFlow w = u at *
  have hqueue : (u.flow f).queue = x.queue.take (x.queue.length - k) := by rw [hflow]; rfl
  refine ⟨?_, ?_, ?_, ?_, ?_, ?_, ?_, ?_, ?_, ?_, fun h => ?_, fun h => ?_, ?_, hstatus.1.trans ?_, hstatus.2,
    fun hb hg hfc hn => ?_, fun hc j => ?_, hother, hcontroller, hsame⟩
  · rw [hflow]; rfl
  · rw [hflow]; rfl
  · rw [hflow]; rfl
  · rw [hflow]; rfl
  · rw [hflow]; rfl
  · rw [hflow]; rfl
  · rw [hflow]; rfl
  · rw [hflow]
  · rw [hflow]; rfl
  · rw [hqueue]
    exact List.take_prefix _ _
  · rw [hqueue, hkeep h]
    exact List.take_length
  · rw [cellsHeld_eq, hqueue]
    exact hfit h
  · intro left withdrawn counted
    have hleft : left = x.queue.length - k := by
      show (u.flow f).queue.length = _
      rw [hqueue, List.length_take]
      omega
    have hcounted (m : Marker) : m.countedIn x.queue.length (x.queue.length - k) = counted m := by
      rw [← hleft]
      rfl
    refine ⟨fun h => ?_, ?_, hbuffer, ?_, ?_, fun h => ?_, fun h => ?_, hrepriced, hterm, ?_⟩
    · rw [hleft]
      exact hlast (by omega)
    · rw [hflow, hleft]
      exact trimmed_counters _ hk
    · rw [hflow]; rfl
    · rw [hflow]
      change ((if withdrawn then none else x.marker).bind fun m =>
        m.dropped (m.countedIn x.queue.length (x.queue.length - k))) = _
      simp only [hcounted]
      by_cases h : withdrawn
      · rw [if_pos h, if_pos h]
        rfl
      · rw [if_neg h, if_neg h]
        rfl
    · rw [hlist]
      exact fields.placed h
    · rw [hlist]
      exact fields.list h
    · intro after noted told
      have htold : (s₀.setFlowQuiet w).mgmt = told := by
        have hb : (u.flow f).bound = s₀.boundTo w := by rw [hflow, hbound]
        rw [hmgmt]
        change (if withdrawn then (match x.bound with
          | some j => s₀.notedMgmt j
          | none => s₀.mgmt)
          else match x.marker with
            | some m =>
              if m.countedIn x.queue.length (x.queue.length - k) ≠ 0 ∧
                  m.countedIn x.queue.length (x.queue.length - k) = m.remaining then
                s₀.notified (.drained f (s₀.boundTo w) m.released
                  (m.discarded + m.countedIn x.queue.length (x.queue.length - k)))
              else s₀.mgmt
            | none => s₀.mgmt) = _
        simp only [hcounted, ← hb]
        refine if_congr Iff.rfl ?_ ?_
        · cases x.bound <;> rfl
        · cases x.marker <;> rfl
      have hreports := flowWriteOf_reports body f dir cls x
      obtain ⟨h1, h2⟩ := hreported after told (fun _ => rfl) htold
      exact ⟨fun h => h1 (hreports.mpr h), fun h => h2 (mt hreports.mp h)⟩
  · rw [not_not]
    exact flowBody_clamp_eq (readFlowBody body)
  · have hlen : (s.chain i).length < 16 := hroom.resolve_left fun h => h ⟨hg, by rw [hb]; nofun⟩
    obtain ⟨a, b, h1, h2, h3, h4⟩ := bindFlow_joins (s := s₀) (w := w) (i := i) hb (if_pos hg)
      (by rw [hchain]; exact hfc) (by rw [hchain]; exact hn) (by rw [hchain]; exact hlen)
    exact ⟨a, b, (hchain i).symm.trans h1, hjoined.trans h2, h3, h4⟩
  · have hsound : ChainsSound s₀ := hc.congr (fun _ => ⟨rfl, rfl, rfl⟩) fun _ => rfl
    obtain ⟨h1, h2, h3⟩ := hchains hsound (fun i' ht hne => by
      obtain ⟨hg, rfl⟩ := flowWriteOf_given body f dir cls ht
      rw [hchain]
      exact hroom.resolve_left fun h => h ⟨hg, hne⟩) j
    rw [hchain] at h1
    exact ⟨h1, h2.trans (by rw [hbound]), h3⟩

end Sys2Proof.Machine

namespace Sys2Proof.Machine

/-! ### Links and service: what most operations keep -/

/-- The second state has the first's chain links: the bindings, classes and chain nexts of the flows, and the chain heads
(R86). -/
structure SameLinks (s t : State) : Prop where
  flow : ∀ f, (t.flow f).bound = (s.flow f).bound ∧ (t.flow f).cls = (s.flow f).cls ∧
    (t.flow f).chainNext = (s.flow f).chainNext
  head : ∀ i, (t.term i).chainHead = (s.term i).chainHead

/-- Every terminal that the second state serves was served in the first, at the same profile: none has entered service or
changed its profile. -/
def KeepsService (s t : State) : Prop := ∀ i, (t.term i).state.serviced = true →
  (s.term i).state.serviced = true ∧ (t.term i).current = (s.term i).current

/-- Between two states no chain link has changed, no terminal has entered service and none in service has changed its
profile. -/
structure Quiet (s t : State) : Prop where
  links : SameLinks s t
  service : KeepsService s t

theorem SameLinks.refl (s : State) : SameLinks s s := ⟨fun _ => ⟨rfl, rfl, rfl⟩, fun _ => rfl⟩

theorem SameLinks.trans {s t u : State} (h : SameLinks s t) (k : SameLinks t u) : SameLinks s u where
  flow f := ⟨(k.flow f).1.trans (h.flow f).1, (k.flow f).2.1.trans (h.flow f).2.1, (k.flow f).2.2.trans (h.flow f).2.2⟩
  head i := (k.head i).trans (h.head i)

/-- Chains are sound alike where the links are the same (R86). -/
theorem SameLinks.chainsSound {s t : State} (h : SameLinks s t) (k : ChainsSound s) : ChainsSound t :=
  k.congr h.flow h.head

theorem KeepsService.trans {s t u : State} (h : KeepsService s t) (k : KeepsService t u) : KeepsService s u := by
  intro i hi
  obtain ⟨h1, e1⟩ := k i hi
  obtain ⟨h2, e2⟩ := h i h1
  exact ⟨h2, e1.trans e2⟩

theorem Quiet.refl (s : State) : Quiet s s := ⟨.refl s, fun _ h => ⟨h, rfl⟩⟩

theorem Quiet.trans {s t u : State} (h : Quiet s t) (k : Quiet t u) : Quiet s u :=
  ⟨h.links.trans k.links, h.service.trans k.service⟩

theorem Quiet.foldl {α : Type} {g : State → α → State} (h : ∀ s a, Quiet s (g s a)) (l : List α) :
    ∀ s, Quiet s (l.foldl g s) := by
  induction l with
  | nil => exact Quiet.refl
  | cons a rest ih => exact fun s => (h s a).trans (ih _)

theorem Quiet.withBuffer {s t : State} (h : Quiet s t) (b : Buffer) : Quiet s { t with buffer := b } :=
  ⟨⟨h.links.flow, h.links.head⟩, h.service⟩

/-- A change that is quiet on either condition is quiet. -/
theorem Quiet.ite {c : Prop} [Decidable c] {s t u : State} (h : Quiet s t) (k : Quiet s u) :
    Quiet s (if c then t else u) := by
  split
  · exact h
  · exact k

/-- A change that touches neither terminals nor flows is quiet. -/
theorem SameBut.quiet {ps : List Part} {s t : State} (h : SameBut ps s t) (ht : Part.terms ∉ ps)
    (hf : Part.flows ∉ ps) : Quiet s t where
  links := ⟨fun f => by rw [flow_of_flows (h .flows hf)]; exact ⟨rfl, rfl, rfl⟩,
    fun i => by rw [term_of_terms (h .terms ht)]⟩
  service i hi := by
    rw [term_of_terms (h .terms ht)] at hi ⊢
    exact ⟨hi, rfl⟩

section
variable (s : State)

/-- A change of flows that keeps their links is quiet. -/
theorem quiet_of_flows {t : State} (ht : t.terms = s.terms) (hf : ∀ f, (t.flow f).bound = (s.flow f).bound ∧
    (t.flow f).cls = (s.flow f).cls ∧ (t.flow f).chainNext = (s.flow f).chainNext) : Quiet s t where
  links := ⟨hf, fun i => by rw [term_of_terms ht]⟩
  service i hi := by
    rw [term_of_terms ht] at hi ⊢
    exact ⟨hi, rfl⟩

/-- A change of one flow that keeps its links is quiet. -/
theorem quiet_modFlow (f : FlowIdx) {g : Flow → Flow}
    (h : ∀ r, (g r).bound = r.bound ∧ (g r).cls = r.cls ∧ (g r).chainNext = r.chainNext := by
      exact fun _ => ⟨rfl, rfl, rfl⟩) : Quiet s (s.modFlow f g) :=
  quiet_of_flows s rfl fun j => by
    rw [State.modFlow_flow]
    split
    · next e => subst e; exact h _
    · exact ⟨rfl, rfl, rfl⟩

/-- A change of terminals that keeps their chain heads, and the profile of those it leaves in service, is quiet. -/
theorem quiet_of_terms {t : State} (hf : t.flows = s.flows)
    (ht : ∀ i, (t.term i).chainHead = (s.term i).chainHead ∧ ((t.term i).state.serviced = true →
      (s.term i).state.serviced = true ∧ (t.term i).current = (s.term i).current)) : Quiet s t where
  links := ⟨fun f => by rw [flow_of_flows hf]; exact ⟨rfl, rfl, rfl⟩, fun i => (ht i).1⟩
  service i := (ht i).2

/-- A change of one terminal that keeps its chain head, and its profile where it leaves it in service, is quiet. -/
theorem quiet_modTerm_at (i : Slot) {g : Terminal → Terminal} (hh : (g (s.term i)).chainHead = (s.term i).chainHead)
    (hs : (g (s.term i)).state.serviced = true →
      (s.term i).state.serviced = true ∧ (g (s.term i)).current = (s.term i).current) : Quiet s (s.modTerm i g) :=
  quiet_of_terms s rfl fun j => by
    rw [State.modTerm_term]
    split
    · next e => subst e; exact ⟨hh, hs⟩
    · exact ⟨rfl, fun h => ⟨h, rfl⟩⟩

/-- A change of one terminal that keeps its chain head, state and profile is quiet. -/
theorem quiet_modTerm (i : Slot) {g : Terminal → Terminal}
    (h : ∀ t, (g t).chainHead = t.chainHead ∧ (g t).state = t.state ∧ (g t).current = t.current := by
      exact fun _ => ⟨rfl, rfl, rfl⟩) : Quiet s (s.modTerm i g) := by
  obtain ⟨h1, h2, h3⟩ := h (s.term i)
  exact quiet_modTerm_at s i h1 fun k => ⟨h2 ▸ k, h3⟩

/-- A change of one terminal that keeps its chain head and leaves it out of service is quiet. -/
theorem quiet_modTerm_out (i : Slot) {g : Terminal → Terminal}
    (h : ∀ t, (g t).chainHead = t.chainHead ∧ (g t).state.serviced = false := by exact fun _ => ⟨rfl, rfl⟩) :
    Quiet s (s.modTerm i g) :=
  quiet_modTerm_at s i (h _).1 fun k => absurd k (by rw [(h _).2]; nofun)

theorem raise_quiet (b : NoticeBody) : Quiet s (s.raise b) := (s.raise_same b).quiet (by decide) (by decide)

theorem count_quiet (f : SectorCounters → SectorCounters) : Quiet s (s.count f) :=
  (s.count_same f).quiet (by decide) (by decide)

theorem setCtx_quiet (c : CtxNo) (a : Option Attempt) : Quiet s (s.setCtx c a) :=
  (s.setCtx_same c a).quiet (by decide) (by decide)

/-! ### Queues -/

theorem dropCredit_quiet (f : FlowIdx) : Quiet s (s.dropCredit f) := quiet_modFlow s f

theorem countMarker_quiet (f : FlowIdx) (r : Bool) : Quiet s (s.countMarker f r) := by
  simp only [State.countMarker]
  split
  · exact .refl s
  · exact .ite ((quiet_modFlow s f).trans (raise_quiet _ _)) (quiet_modFlow s f)

/-- An entry taken out of a queue, its cells free and counted by the marker, is quiet. -/
theorem dequeue_quiet (f : FlowIdx) {g : Flow → Flow} (n : Nat) (r : Bool)
    (h : ∀ r, (g r).bound = r.bound ∧ (g r).cls = r.cls ∧ (g r).chainNext = r.chainNext := by
      exact fun _ => ⟨rfl, rfl, rfl⟩) : Quiet s (((s.modFlow f g).freeUp n).countMarker f r) :=
  ((quiet_modFlow s f h).trans ((State.freeUp_same _ n).quiet (by decide) (by decide))).trans (countMarker_quiet _ f r)

theorem releaseHead_quiet (f : FlowIdx) : Quiet s (s.releaseHead f) := by
  unfold State.releaseHead
  split
  · exact .refl s
  · exact dequeue_quiet s f _ true

theorem discardStale_quiet (f : FlowIdx) : Quiet s (s.discardStale f) := by
  unfold State.discardStale
  split
  · exact .refl s
  · exact dequeue_quiet s f _ false

theorem discardTail_quiet (f : FlowIdx) : Quiet s (s.discardTail f) := by
  unfold State.discardTail
  split
  · exact .refl s
  · next e _ =>
    have h : Quiet s ((s.modFlow f fun r => { r with
        queue := r.queue.dropLast
        counters := { r.counters with full := satAdd r.counters.full 1 } }).freeUp e.cells) :=
      (quiet_modFlow s f).trans ((State.freeUp_same _ _).quiet (by decide) (by decide))
    simp only []
    split
    · exact h
    · exact .ite (h.trans (countMarker_quiet _ f false)) h

theorem trimTail_quiet (f : FlowIdx) (n : Nat) : ∀ s : State, Quiet s (State.trimTail f n s) := by
  induction n with
  | zero => exact .refl
  | succ n ih => exact fun s => .ite (.refl s) ((discardTail_quiet s f).trans (ih _))

theorem discardShed_quiet (f : FlowIdx) : Quiet s (s.discardShed f) :=
  (quiet_modFlow s f).trans ((State.freeUp_same _ _).quiet (by decide) (by decide))

theorem flushQueue_quiet (f : FlowIdx) : Quiet s (s.flushQueue f) :=
  (quiet_modFlow s f).trans ((State.freeUp_same _ _).quiet (by decide) (by decide))

theorem enqueue_quiet (f : FlowIdx) (p : Packet) : Quiet s (s.enqueue f p) :=
  .ite (quiet_modFlow s f) <| .ite ((quiet_modFlow s f).trans (count_quiet _ _)) <|
    (quiet_modFlow s f).withBuffer _

theorem setMarker_quiet (f : FlowIdx) : Quiet s (s.setMarker f) := .ite (quiet_modFlow s f) (.refl s)

theorem flushAll_quiet : Quiet s s.flushAll :=
  quiet_of_flows s rfl fun f => by rw [State.flushAll_flow]; exact ⟨rfl, rfl, rfl⟩

/-! ### Ledger -/

theorem reprice_quiet (i : Slot) : Quiet s (s.reprice i) :=
  (quiet_modTerm s i).trans ((State.sumLoads_same _).quiet (by decide) (by decide))

theorem repriceFlow_quiet (f : FlowIdx) : Quiet s (s.repriceFlow f) := by
  unfold State.repriceFlow
  split
  · exact reprice_quiet s _
  · exact .refl s

theorem makeWaiting_quiet (f : FlowIdx) (c : Cause) : Quiet s (s.makeWaiting f c) :=
  (quiet_modFlow s f).trans ((State.placeReadmission_same _ f).quiet (by decide) (by decide))

theorem withdraw_quiet (f : FlowIdx) (c : Cause) : Quiet s (s.withdraw f c) :=
  (makeWaiting_quiet s f c).trans (dropCredit_quiet _ f)

theorem noteWaiting_quiet (i : Slot) : Quiet s (s.noteWaiting i) :=
  quiet_of_terms s (s.noteWaiting_same i .flows (by decide)) fun j => by
    rw [noteWaiting_term]
    split
    · next e => subst e; rw [Terminal.noted_serviced]; exact ⟨rfl, fun h => ⟨h, rfl⟩⟩
    · exact ⟨rfl, fun h => ⟨h, rfl⟩⟩

theorem noteFlowWaiting_quiet (f : FlowIdx) : Quiet s (s.noteFlowWaiting f) := by
  unfold State.noteFlowWaiting
  split
  · exact noteWaiting_quiet s _
  · exact .refl s

theorem reportRamping_quiet : Quiet s s.reportRamping :=
  quiet_of_terms s (s.reportRamping_same .flows (by decide)) fun j => by
    rw [reportRamping_serviced, reportRamping_term]
    exact ⟨rfl, fun h => ⟨h, rfl⟩⟩

/-- The flows shed and the needs recomputed change no link, no service and no profile (R111). -/
theorem ShedRun.quiet {u v : State} {l : List FlowIdx} (h : ShedRun u v l) : Quiet u v where
  links := ⟨fun f => by obtain ⟨h1, h2, h3, -⟩ := h.fields f; exact ⟨h1, h2, h3⟩, fun i => (h.termFields i).1⟩
  service i := by
    obtain ⟨-, hc, hs⟩ := h.termFields i
    rw [hs, hc]
    exact fun k => ⟨k, rfl⟩

theorem shedToFit_quiet : Quiet s s.shedToFit := by
  obtain ⟨up, down, e, -⟩ := shedToFit_takes s
  rw [e]
  exact (shedAll_run _ s).quiet

theorem makeAdmitted_quiet (i : Slot) (f : FlowIdx) : Quiet s (s.makeAdmitted i f) :=
  (((quiet_modFlow s f).trans ((State.unlist_same _ f).quiet (by decide) (by decide))).trans (reprice_quiet _ i)).trans
    (setMarker_quiet _ f)

theorem scanWalk_quiet (l : List FlowIdx) : ∀ (done : List FlowIdx) (s : State),
    Quiet s (State.scanWalk l done s).2 := by
  induction l with
  | nil => exact fun _ s => .refl s
  | cons f rest ih =>
    intro done s
    unfold State.scanWalk
    split_ifs
    · exact .refl s
    · split
      · exact ih done s
      · split_ifs
        · exact (makeAdmitted_quiet s _ f).trans (ih _ _)
        · exact .refl s
        · exact ih done s

theorem scan_quiet : Quiet s s.scan := by
  have h := scanWalk_quiet s.ledger.list [] s
  exact (Quiet.ite h (h.trans (raise_quiet _ _))).trans (reportRamping_quiet _)

theorem withdrawAll_quiet (c : Cause) (l : List FlowIdx) : Quiet s (s.withdrawAll c l) :=
  .foldl (fun s f => .ite (withdraw_quiet s f c) (.refl s)) l s

theorem discardShedQueues_quiet (l : List FlowIdx) : Quiet s (s.discardShedQueues l) :=
  .foldl (fun s f => .ite (discardShed_quiet s f) (.refl s)) l s

theorem rebuildLedger_quiet : Quiet s s.rebuildLedger where
  links := ⟨fun f => by rw [State.rebuildLedger_flow]; split <;> exact ⟨rfl, rfl, rfl⟩,
    fun i => by rw [State.rebuildLedger_term]⟩
  service i := by
    rw [State.rebuildLedger_term]
    exact fun h => ⟨h, rfl⟩

end

end Sys2Proof.Machine

namespace Sys2Proof.Machine

section
variable (s : State)

/-! ### Terminals -/

theorem makeQueued_quiet (i : Slot) : Quiet s (s.makeQueued i) :=
  (quiet_modTerm_out s i).trans ((State.placeReentry_same _ i).quiet (by decide) (by decide))

theorem enterDown_quiet (i : Slot) (n : Nat) (b : Bool) : Quiet s (s.enterDown i n b) := by
  have h : Quiet s ((s.modTerm i fun t =>
      { t with state := .down, timer := some n, outageSeen := true }).raise (.down i)) :=
    (quiet_modTerm_out s i).trans (raise_quiet _ _)
  exact .ite (h.trans (makeQueued_quiet _ i)) h

theorem leaveService_quiet (i : Slot) {d : TermState} (hd : d.serviced = false) (c : Cause) (b : Bool) :
    Quiet s (s.leaveService i d c b) := by
  have h := (quiet_modTerm_out s i (g := fun t =>
      { t with state := d, current := none, beforeFade := none, dwell := 0, window := Window.cleared })
    fun _ => ⟨rfl, hd⟩).trans (withdrawAll_quiet _ c (s.chain i))
  exact (Quiet.ite (h.trans (discardShedQueues_quiet _ _)) h).trans (reprice_quiet _ i)

theorem outage_quiet (i : Slot) (b : Bool) : Quiet s (s.outage i b) :=
  ((leaveService_quiet s i rfl _ _).trans (quiet_modTerm _ i)).trans (enterDown_quiet _ i _ b)

theorem enterFading_quiet (i : Slot) : Quiet s (s.enterFading i) := by
  simp only [State.enterFading]
  split
  case h_1 h | h_2 h =>
    exact (quiet_modTerm_at s i rfl fun _ => ⟨by rw [h]; rfl, rfl⟩).trans (raise_quiet _ _)
  all_goals exact .refl s

theorem exitFading_quiet {i : Slot} (h : (s.term i).state = .fading) : Quiet s (s.exitFading i) := by
  have back (st : TermState) (b : NoticeBody) : Quiet s ((s.modTerm i fun t =>
      { t with state := st, beforeFade := none, dwell := 0, window := t.window.restart }).raise b) :=
    (quiet_modTerm_at s i rfl fun _ => ⟨by rw [h]; rfl, rfl⟩).trans (raise_quiet _ _)
  simp only [State.exitFading]
  split <;> exact back _ _

theorem judgeFading_quiet {i : Slot} (h : (s.term i).state = .fading) (q : Nat) (m : Bool) :
    Quiet s (s.judgeFading i q m) := .ite (exitFading_quiet s h) (quiet_modTerm s i)

theorem judgeResume_quiet (i : Slot) (p : ProfIdx) (q : Nat) (m : Bool) : Quiet s (s.judgeResume i p q m) :=
  .ite (quiet_modTerm s i) (.refl s)

theorem restartWindows_quiet : Quiet s s.restartWindows :=
  quiet_of_terms s rfl fun i => by rw [State.restartWindows_term]; exact ⟨rfl, fun h => ⟨h, rfl⟩⟩

theorem clearWindows_quiet : Quiet s s.clearWindows :=
  quiet_of_terms s rfl fun i => by rw [State.clearWindows_term]; exact ⟨rfl, fun h => ⟨h, rfl⟩⟩

/-! ### Attempts -/

theorem failedDown_quiet (i : Slot) : Quiet s (s.failedDown i) := (quiet_modTerm s i).trans (enterDown_quiet _ i _ false)

theorem takeOutcome_quiet (i : Slot) {o : AttemptOutcome} (e : Option ProfIdx) (b : Bool)
    (ho : o ≠ .admitted := by decide) :
    Quiet s (s.takeOutcome i o e b) := by
  have h : Quiet s (s.modTerm i fun t => { t with lastOutcome := some o }) := quiet_modTerm s i
  cases o with
  | admitted => exact absurd rfl ho
  | parked => exact h.trans (quiet_modTerm_out _ i (g := fun t => { t with state := .parked }))
  | sectorLost => exact h.trans (enterDown_quiet _ i _ b)
  | noResponse | corrupt | weak | proveFailed | identityMismatch | adjustLimit => exact h.trans (failedDown_quiet _ i)

theorem endAttempt_quiet (c : CtxNo) (a : Attempt) {o : AttemptOutcome} (b : Bool)
    (ho : o ≠ .admitted := by decide) :
    Quiet s (s.endAttempt c a o b) := by
  have h := (setCtx_quiet s c none).trans (takeOutcome_quiet _ a.terminal a.entryProfile b ho)
  exact .ite (h.trans (raise_quiet _ _)) h

theorem failContext_quiet (c : CtxNo) (a : Attempt) {o : AttemptOutcome} (g : Stage)
    (ho : o ≠ .admitted := by decide) :
    Quiet s (s.failContext c a o g) := .ite (setCtx_quiet s c _) (endAttempt_quiet s c a false ho)

theorem failProving_quiet (c : CtxNo) (a : Attempt) : Quiet s (s.failProving c a) := failContext_quiet s c _ _

theorem send_quiet (r : LinkRecord) : Quiet s (s.send r) := (s.send_same r).quiet (by decide) (by decide)

theorem adjust_quiet (c : CtxNo) (a : Attempt) (t p : Int) : Quiet s (s.adjust c a t p) :=
  .ite ((send_quiet s _).trans (setCtx_quiet _ c _)) (endAttempt_quiet s c a false)

theorem learnIdentity_quiet (i : Slot) (d : Mac) : Quiet s (s.learnIdentity i d) := by
  have h : Quiet s (s.modTerm i fun t => { t with identity := some d }) := quiet_modTerm s i
  refine .ite (.refl s) ?_
  split
  · exact .ite h (h.trans (raise_quiet _ _))
  · exact h

theorem judgeRanging_quiet (c : CtxNo) (a : Attempt) (r : RangingReport) : Quiet s (s.judgeRanging c a r) :=
  .ite (endAttempt_quiet s c a false) <| .ite (failContext_quiet s c a _) <|
    .ite (endAttempt_quiet s c a false) <| .ite (failContext_quiet s c a _) <|
      .ite (adjust_quiet s c a _ _) <| (learnIdentity_quiet s _ _).trans (setCtx_quiet _ c _)

theorem judgeRangingMiss_quiet (c : CtxNo) (a : Attempt) : Quiet s (s.judgeRangingMiss c a) :=
  .ite (endAttempt_quiet s c a false) (failContext_quiet s c a _)

theorem judgeProvingMiss_quiet (c : CtxNo) (a : Attempt) : Quiet s (s.judgeProvingMiss c a) :=
  (quiet_modTerm s a.terminal).trans (.ite (endAttempt_quiet _ c a false) (failProving_quiet _ c a))

theorem timeout_quiet (c : CtxNo) : Quiet s (s.timeout c) := by
  unfold State.timeout
  split
  · exact .refl s
  · refine .ite ?_ (.refl s)
    split
    · exact .ite (endAttempt_quiet s c _ false) (failContext_quiet s c _ _)
    · exact .ite (endAttempt_quiet s c _ false) (failProving_quiet s c _)
    · exact .refl s
    · exact .refl s

theorem tickContext_quiet (n : FrameNo) (c : CtxNo) : Quiet s (State.tickContext n s c) := by
  unfold State.tickContext
  split
  · exact .refl s
  · refine .ite ?_ (.refl s)
    split
    · exact .refl s
    · exact (setCtx_quiet s c _).trans (timeout_quiet _ c)

theorem bindTo_quiet (i : Slot) (c : CtxNo) : Quiet s (s.bindTo i c) :=
  quiet_of_terms s rfl fun j => by
    rw [bindTo_term]
    split
    · next e => subst e; exact ⟨rfl, nofun⟩
    · exact ⟨rfl, fun h => ⟨h, rfl⟩⟩

theorem bindLoop_quiet (n : Nat) : ∀ s : State, Quiet s (State.bindLoop n s) := by
  induction n with
  | zero => exact .refl
  | succ n ih =>
    intro s
    unfold State.bindLoop
    split
    · exact .ite ((bindTo_quiet s _ _).trans (ih _)) (.refl s)
    · exact .refl s

theorem reecFrame_quiet (n : FrameNo) : Quiet s (s.reecFrame n) :=
  (Quiet.foldl (fun s c => tickContext_quiet s n c) _ s).trans <|
    .ite (((State.setCredit_same _ _).quiet (by decide) (by decide)).trans (bindLoop_quiet 4 _)) (.refl _)

theorem quiet_loseAttempt (i : Slot) (b : Bool) : Quiet s (s.loseAttempt i b) := by
  unfold State.loseAttempt
  split
  · exact endAttempt_quiet s _ _ b (by split <;> decide)
  · exact takeOutcome_quiet s i _ b

/-! ### Release -/

theorem setStamp_quiet (n : FrameNo) : Quiet s (s.setStamp n) := by
  have h : Quiet s { s with buffer := { s.buffer with stamp := some n } } := (Quiet.refl s).withBuffer _
  refine .ite (h.trans (quiet_of_flows _ rfl fun f => ?_)) h
  rw [State.flow, Table.get_map _ _ _ (by rfl)]
  exact ⟨rfl, rfl, rfl⟩

theorem sweepHeads_quiet (n : FrameNo) (f : FlowIdx) (k : Nat) : ∀ s : State, Quiet s (State.sweepHeads n f k s) := by
  induction k with
  | zero => exact .refl
  | succ k ih => exact fun s => .ite ((discardStale_quiet s f).trans (ih _)) (.refl s)

theorem summarize_quiet (f : FlowIdx) (k : Nat) : Quiet s (s.summarize f k) :=
  (s.summarize_same f k).quiet (by decide) (by decide)

theorem sweep_quiet (n : FrameNo) : Quiet s (s.sweep n) :=
  (Quiet.foldl (fun s f => sweepHeads_quiet n f _ s) _ s).trans (.foldl (fun s f => summarize_quiet s f _) _ _)

theorem stepCredit_quiet : Quiet s s.stepCredit :=
  quiet_of_flows s rfl fun f => by
    rw [show s.stepCredit.flow f = _ from Table.get_map s.flows _ f rfl]
    exact ⟨rfl, rfl, rfl⟩

theorem Pass.release_quiet (p : Pass) (i : Slot) (f : FlowIdx) (e : QEntry) (b : Bool) :
    Quiet p.state (p.release i f e b).state :=
  .ite ((releaseHead_quiet p.state f).trans (quiet_modFlow _ f)) (releaseHead_quiet p.state f)

theorem releaseCommitted_quiet (i : Slot) (f : FlowIdx) (n : Nat) :
    ∀ p : Pass, Quiet p.state (releaseCommitted i f n p).state := by
  induction n with
  | zero => exact fun p => .refl p.state
  | succ n ih =>
    intro p
    unfold releaseCommitted
    split
    · exact .refl p.state
    · split_ifs
      · exact (p.release_quiet i f _ true).trans (ih _)
      · exact .refl p.state

theorem releaseExcess_quiet (i : Slot) (f : FlowIdx) (n : Nat) :
    ∀ p : Pass, Quiet p.state (releaseExcess i f n p).state := by
  induction n with
  | zero => exact fun p => .refl p.state
  | succ n ih =>
    intro p
    unfold releaseExcess
    split
    · exact .refl p.state
    · split_ifs
      · exact (p.release_quiet i f _ false).trans (ih _)
      · exact .refl p.state

theorem runPass_quiet (one : Slot → FlowIdx → Nat → Pass → Pass)
    (h : ∀ i f n p, Quiet p.state (one i f n p).state) (l : List FlowIdx) :
    ∀ p : Pass, Quiet p.state (runPass one l p).state := by
  induction l with
  | nil => exact fun p => .refl p.state
  | cons f rest ih =>
    intro p
    have hone : Quiet p.state (match (p.state.flow f).bound with
        | some i => one i f (p.state.flow f).queue.length p
        | none => p).state := by
      split
      · exact h _ f _ p
      · exact .refl p.state
    exact hone.trans (ih _)

theorem releaseFrame_quiet (n : FrameNo) : Quiet s (s.releaseFrame n) :=
  ((((setStamp_quiet s n).trans (sweep_quiet _ n)).trans (stepCredit_quiet _)).trans
    ((runPass_quiet _ releaseCommitted_quiet _ ⟨_, _, []⟩).trans (runPass_quiet _ releaseExcess_quiet _ _))).trans
    ((State.sendBursts_same _ n _).quiet (by decide) (by decide))

theorem staleOnce_quiet (f : FlowIdx) : Quiet s (s.staleOnce f) := by
  unfold State.staleOnce
  split
  · exact .ite ((discardStale_quiet s f).trans (summarize_quiet _ f 1)) (.refl s)
  · exact .refl s

/-! ### The sector link and the trunk -/

theorem loseTerminal_quiet (i : Slot) : Quiet s (s.loseTerminal i) := by
  unfold State.loseTerminal
  split
  case h_1 | h_2 | h_3 => exact outage_quiet s i false
  case h_4 => exact ((s.unqueue_same i).quiet (by decide) (by decide)).trans (enterDown_quiet _ i _ false)
  case h_5 => exact quiet_loseAttempt s i false
  all_goals exact .refl s

theorem restartTerminal_quiet (i : Slot) : Quiet s (s.restartTerminal i) := by
  unfold State.restartTerminal
  split
  case h_1 | h_2 | h_3 => exact outage_quiet s i true
  case h_4 => exact ((s.unqueue_same i).quiet (by decide) (by decide)).trans (enterDown_quiet _ i _ true)
  case h_5 => exact quiet_loseAttempt s i true
  case h_6 => exact enterDown_quiet s i _ true
  all_goals exact .refl s

theorem clearReentry_quiet : Quiet s s.clearReentry := s.clearReentry_same.quiet (by decide) (by decide)

theorem takeSectorState_quiet (u : Bool) : Quiet s (s.takeSectorState u) := by
  have h (v : Bool) : Quiet s (s.setSectorUp v) := (s.setSectorUp_same v).quiet (by decide) (by decide)
  exact .ite (.refl s) <| .ite ((h true).trans (raise_quiet _ _)) <|
    ((((h false).trans (count_quiet _ _)).trans (raise_quiet _ _)).trans (.foldl loseTerminal_quiet _ _)).trans
      (clearReentry_quiet _)

theorem takeRanging_quiet (r : RangingReport) : Quiet s (s.takeRanging r) := by
  unfold State.takeRanging
  split
  · exact judgeRanging_quiet s _ _ r
  · exact count_quiet s _

theorem takeRangingMiss_quiet (i : Slot) : Quiet s (s.takeRangingMiss i) := by
  unfold State.takeRangingMiss
  split
  · exact judgeRangingMiss_quiet s _ _
  · exact count_quiet s _

theorem takePacket_quiet (p : Packet) : Quiet s (s.takePacket p) := by
  refine .ite (count_quiet s _) <| .ite ((s.enqueueRequest_same p).quiet (by decide) (by decide)) ?_
  unfold State.classify
  split
  · exact count_quiet s _
  · split
    · exact count_quiet s _
    · exact quiet_modFlow s _
    · exact enqueue_quiet s _ p
    · exact enqueue_quiet s _ p
    · exact quiet_modFlow s _

/-! ### Command effects -/

theorem controlledBy_quiet (src : Mac) : Quiet s (s.controlledBy src) :=
  (s.controlledBy_same src).quiet (by decide) (by decide)

theorem complete_quiet (src : Mac) (body : List Byte) (r : CmdResult) : Quiet s (s.complete src body r) :=
  (s.complete_same src body r).quiet (by decide) (by decide)

theorem quiet_park (i : Slot) : Quiet s (s.park i) := by
  unfold State.park
  split
  case h_3 => exact quiet_modTerm_out s i
  case h_4 => exact ((s.unqueue_same i).quiet (by decide) (by decide)).trans (quiet_modTerm_out _ i)
  case h_5 =>
    unfold State.parkRanging
    split
    · exact .ite (setCtx_quiet s _ _) (endAttempt_quiet s _ _ false)
    · exact .refl s
  case h_6 | h_7 | h_8 => exact leaveService_quiet s i rfl _ _
  all_goals exact .refl s

theorem releaseTerminal_quiet (i : Slot) : Quiet s (s.releaseTerminal i) :=
  .ite (makeQueued_quiet s i) (enterDown_quiet s i 0 false)

theorem withdrawForRate_quiet (f : FlowIdx) : Quiet s (s.withdrawForRate f) :=
  .ite (((withdraw_quiet s f .new).trans (repriceFlow_quiet _ f)).trans (noteFlowWaiting_quiet _ f)) (.refl s)

theorem enable_quiet (f : FlowIdx) : Quiet s (s.enable f) :=
  .ite (((makeWaiting_quiet s f .new).trans (noteFlowWaiting_quiet _ f)).trans (reportRamping_quiet _)) (.refl s)

theorem makeDisabled_quiet (f : FlowIdx) : Quiet s (s.makeDisabled f) :=
  (quiet_modFlow s f).trans (dropCredit_quiet _ f)

theorem disable_quiet (f : FlowIdx) : Quiet s (s.disable f) := by
  unfold State.disable
  split
  · exact .refl s
  · exact (((makeDisabled_quiet s f).trans (repriceFlow_quiet _ f)).trans (flushQueue_quiet _ f)).trans
      (reportRamping_quiet _)
  · exact (((makeDisabled_quiet s f).trans ((State.unlist_same _ f).quiet (by decide) (by decide))).trans
      (flushQueue_quiet _ f)).trans (reportRamping_quiet _)

theorem writeSetup_quiet (c : Setup) : Quiet s (s.writeSetup c) := by
  have h0 : Quiet s { s with setup := c } := ⟨⟨fun _ => ⟨rfl, rfl, rfl⟩, fun _ => rfl⟩, fun _ h => ⟨h, rfl⟩⟩
  have windows (u : State) : Quiet u (if c.w ≠ s.setup.w then u.restartWindows else u) :=
    .ite (restartWindows_quiet u) (.refl u)
  have needs (u : State) : Quiet u (if c.m ≠ s.setup.m then u.repriceAll else u) :=
    .ite (.foldl reprice_quiet _ u) (.refl u)
  exact ((h0.trans (windows _)).trans (needs _)).trans (.ite (shedToFit_quiet _) (.refl _))

theorem restart_quiet : Quiet s s.restart :=
  ((((((raise_quiet s _).trans (.foldl restartTerminal_quiet _ _)).trans (clearReentry_quiet _)).trans
    (clearWindows_quiet _)).trans (rebuildLedger_quiet _))).trans (flushAll_quiet _)

theorem clearAllCounters_quiet : Quiet s s.clearAllCounters where
  links := ⟨fun f => by rw [State.clearAllCounters_flow]; exact ⟨rfl, rfl, rfl⟩,
    fun i => by rw [State.clearAllCounters_term]⟩
  service i := by
    rw [State.clearAllCounters_term]
    exact fun h => ⟨h, rfl⟩

theorem clearFlags_quiet : Quiet s s.clearFlags :=
  quiet_of_terms s rfl fun i => by rw [State.clearFlags_term]; exact ⟨rfl, fun h => ⟨h, rfl⟩⟩

theorem walkDown_quiet : Quiet s s.walkDown :=
  .foldl (fun s i => (quiet_modTerm s i).trans (.ite (makeQueued_quiet _ i) (.refl _))) _ s

end

end Sys2Proof.Machine

namespace Sys2Proof.Machine

/-! ### Terminals that change their profile in service, or enter it -/

/-- The state from which a terminal is repriced and flows are shed: of the state before, the terminal's record has been
replaced, its chain head and whether it is IN_SERVICE kept, and no other part that a shedding reads has changed. -/
structure MoveBase (s b : State) (i : Slot) : Prop where
  others : OtherTerms i s b
  same : SameBut [.terms, .reentry, .mgmt, .counters] s b
  head : (b.term i).chainHead = (s.term i).chainHead
  inService : (b.term i).state = .inService ↔ (s.term i).state = .inService
  mgmt : b.mgmt = s.mgmt ∨ (∃ src, b.mgmt = s.mgmt.controlledBy src) ∨ b.mgmt = s.notified (.ramping i)

/-- What follows a shedding within its event: no flow, no load and no need changes, no terminal leaves service or changes
its profile, and no notice is taken but IN_SERVICE of the terminal. -/
structure Trails (v t : State) (i : Slot) : Prop where
  same : SameBut [.terms, .reentry, .mgmt, .tx, .counters] v t
  head : ∀ j, (t.term j).chainHead = (v.term j).chainHead
  serviced : ∀ j, (t.term j).state.serviced = (v.term j).state.serviced
  current : ∀ j, (t.term j).current = (v.term j).current
  need : ∀ j x, (t.term j).need x = (v.term j).need x
  mgmt : SameNotices v.mgmt t.mgmt ∨
    SameNotices (v.mgmt.take v.setup.enable v.link.frame (.inService i)) t.mgmt

/-- A terminal has changed its profile in service, or entered service: it has been repriced, and flows have been shed
until the loads fit (R50, R112, R117). -/
def Moved (s t : State) (i : Slot) : Prop := ∃ b, MoveBase s b i ∧ Trails (b.reprice i).shedToFit t i

/-- Nothing has moved, or one terminal has. -/
def QuietOrMoved (s t : State) (i : Slot) : Prop := Quiet s t ∨ Moved s t i

theorem SameNotices.refl (m : Management) : SameNotices m m := ⟨rfl, rfl, rfl, rfl, rfl⟩

theorem SameNotices.trans {m n o : Management} (h : SameNotices m n) (k : SameNotices n o) : SameNotices m o := by
  obtain ⟨h1, h2, h3, h4, h5⟩ := h
  obtain ⟨k1, k2, k3, k4, k5⟩ := k
  exact ⟨k1.trans h1, k2.trans h2, k3.trans h3, k4.trans h4, k5.trans h5⟩

/-! ### The base of a shedding -/

section
variable {s b : State} {i : Slot}

theorem MoveBase.refl (s : State) (i : Slot) : MoveBase s s i :=
  ⟨fun _ _ => rfl, .refl _ s, rfl, Iff.rfl, .inl rfl⟩

/-- A further change of the terminal's record. -/
theorem MoveBase.modTerm (h : MoveBase s b i) {g : Terminal → Terminal}
    (hh : (g (b.term i)).chainHead = (b.term i).chainHead)
    (hi : (g (b.term i)).state = .inService ↔ (b.term i).state = .inService) : MoveBase s (b.modTerm i g) i where
  others := h.others.trans (b.modTerm_others i g)
  same := h.same.then (b.modTerm_same i g) rfl rfl
  head := by rw [State.modTerm_term_same, hh, h.head]
  inService := by rw [State.modTerm_term_same, hi, h.inService]
  mgmt := h.mgmt

/-- A change of the contexts and the queue. -/
theorem MoveBase.reentry {t : State} (h : MoveBase s b i) (k : SameBut [.reentry] b t) : MoveBase s t i := by
  have ht (j : Slot) : t.term j = b.term j := term_of_terms (k .terms (by decide)) j
  exact ⟨fun j hj => (ht j).trans (h.others j hj), h.same.then k rfl rfl, by rw [ht, h.head], by rw [ht, h.inService],
    by rw [show t.mgmt = b.mgmt from k .mgmt (by decide)]; exact h.mgmt⟩

theorem moveBase_controlledBy (s : State) (src : Mac) (i : Slot) : MoveBase s (s.controlledBy src) i :=
  ⟨fun _ _ => rfl, (s.controlledBy_same src).mono rfl, rfl, Iff.rfl, .inr (.inl ⟨src, rfl⟩)⟩

/-- RAMPING of the terminal taken from a state in which no notice has been taken yet. -/
theorem MoveBase.ramping (h : MoveBase s b i) (hm : b.mgmt = s.mgmt) : MoveBase s (b.raise (.ramping i)) i where
  others j hj := h.others j hj
  same := h.same.then (b.raise_same _) rfl rfl
  head := h.head
  inService := h.inService
  mgmt := .inr <| .inr <| by
    rw [raise_mgmt, hm, show b.setup = s.setup from h.same .setup (by decide),
      show b.link = s.link from h.same .link (by decide)]
    rfl

/-- The links are kept, the terminal's chain head being so. -/
theorem MoveBase.links (h : MoveBase s b i) : SameLinks s b where
  flow f := by rw [flow_of_flows (h.same .flows (by decide))]; exact ⟨rfl, rfl, rfl⟩
  head j := by
    by_cases e : j = i
    · rw [e, h.head]
    · rw [h.others j e]

end

/-! ### What follows a shedding -/

section
variable {s v t u : State} {i : Slot}

theorem Trails.refl (v : State) (i : Slot) : Trails v v i :=
  ⟨.refl _ v, fun _ => rfl, fun _ => rfl, fun _ => rfl, fun _ _ => rfl, .inl (.refl _)⟩

/-- A change of the contexts, the transmitter or the counters, or of the Management Agent but for its notices. -/
theorem Trails.elsewhere (h : Trails v t i) (k : SameBut [.reentry, .mgmt, .tx, .counters] t u)
    (hm : SameNotices t.mgmt u.mgmt) : Trails v u i := by
  have ht (j : Slot) : u.term j = t.term j := term_of_terms (k .terms (by decide)) j
  exact ⟨h.same.then k rfl rfl, fun j => by rw [ht, h.head], fun j => by rw [ht, h.serviced],
    fun j => by rw [ht, h.current], fun j x => by rw [ht, h.need],
    h.mgmt.imp (fun e => e.trans hm) fun e => e.trans hm⟩

/-- A change of a record that keeps what needs read and hold. -/
theorem Trails.modTerm (h : Trails v t i) (j : Slot) {g : Terminal → Terminal}
    (hg : ∀ x, (g x).chainHead = x.chainHead ∧ (g x).state = x.state ∧ (g x).current = x.current ∧
      (g x).needUp = x.needUp ∧ (g x).needDown = x.needDown := by
        exact fun _ => ⟨rfl, rfl, rfl, rfl, rfl⟩) : Trails v (t.modTerm j g) i := by
  have ht (k : Slot) : ((t.modTerm j g).term k).chainHead = (t.term k).chainHead ∧
      ((t.modTerm j g).term k).state = (t.term k).state ∧ ((t.modTerm j g).term k).current = (t.term k).current ∧
      ((t.modTerm j g).term k).needUp = (t.term k).needUp ∧ ((t.modTerm j g).term k).needDown = (t.term k).needDown := by
    rw [State.modTerm_term]
    split
    · next e => subst e; exact hg _
    · exact ⟨rfl, rfl, rfl, rfl, rfl⟩
  refine ⟨h.same.then (t.modTerm_same j g) rfl rfl, fun k => (ht k).1.trans (h.head k), fun k => ?_,
    fun k => (ht k).2.2.1.trans (h.current k), fun k x => ?_, h.mgmt⟩
  · rw [(ht k).2.1, h.serviced]
  · obtain ⟨-, -, -, hu, hd⟩ := ht k
    rw [← h.need]
    cases x <;> assumption

/-- The terminal goes on to IN_SERVICE, where it is in service (R15). -/
theorem trails_settled (hs : (v.term i).state.serviced = true) : Trails v (v.settled i) i := by
  unfold State.settled
  split
  · exact .refl v i
  · have ht (j : Slot) : (v.toInService i).term j =
        { v.term j with state := if j = i then .inService else (v.term j).state } := by
      rw [State.toInService, State.raise_term, State.modTerm_term]
      split
      · next e => rw [e]
      · rfl
    refine ⟨(v.toInService_same i).mono rfl, fun j => by rw [ht], fun j => ?_, fun j => by rw [ht],
      fun j x => by rw [ht]; cases x <;> rfl, .inr (.refl _)⟩
    rw [ht]
    by_cases e : j = i
    · subst e
      rw [hs]
      simp [TermState.serviced]
    · simp [e]

theorem Trails.links (h : Trails v t i) : SameLinks v t where
  flow f := by rw [flow_of_flows (h.same .flows (by decide))]; exact ⟨rfl, rfl, rfl⟩
  head := h.head

/-! ### One terminal moved -/

theorem Moved.elsewhere (h : Moved s t i) (k : SameBut [.reentry, .mgmt, .tx, .counters] t u)
    (hm : SameNotices t.mgmt u.mgmt) : Moved s u i := by
  obtain ⟨b, base, trail⟩ := h
  exact ⟨b, base, trail.elsewhere k hm⟩

theorem Moved.links (h : Moved s t i) : SameLinks s t := by
  obtain ⟨b, base, trail⟩ := h
  exact (base.links.trans ((reprice_quiet b i).trans (shedToFit_quiet _)).links).trans trail.links

/-- No other terminal enters service or changes its profile. -/
theorem Moved.others (h : Moved s t i) {j : Slot} (hj : j ≠ i) : (t.term j).current = (s.term j).current := by
  obtain ⟨b, base, trail⟩ := h
  obtain ⟨up, down, e, -⟩ := shedToFit_takes (b.reprice i)
  rw [trail.current, e, ((shedAll_run _ (b.reprice i)).termFields j).2.1, reprice_term, if_neg hj, base.others j hj]

theorem QuietOrMoved.links (h : QuietOrMoved s t i) : SameLinks s t := h.elim Quiet.links Moved.links

theorem QuietOrMoved.elsewhere (h : QuietOrMoved s t i) (k : SameBut [.reentry, .mgmt, .tx, .counters] t u)
    (hm : SameNotices t.mgmt u.mgmt) : QuietOrMoved s u i :=
  h.imp (fun q => q.trans (k.quiet (by decide) (by decide))) fun m => m.elsewhere k hm

theorem QuietOrMoved.modTerm (h : QuietOrMoved s t i) (j : Slot) {g : Terminal → Terminal}
    (hg : ∀ x, (g x).chainHead = x.chainHead ∧ (g x).state = x.state ∧ (g x).current = x.current ∧
      (g x).needUp = x.needUp ∧ (g x).needDown = x.needDown := by
        exact fun _ => ⟨rfl, rfl, rfl, rfl, rfl⟩) : QuietOrMoved s (t.modTerm j g) i := by
  rcases h with q | ⟨b, base, trail⟩
  · exact .inl (q.trans (quiet_modTerm t j fun x => ⟨(hg x).1, (hg x).2.1, (hg x).2.2.1⟩))
  · exact .inr ⟨b, base, trail.modTerm j hg⟩

/-! ### The operations that move a terminal -/

section
variable {b : State}

theorem changeProfile_moved (h : MoveBase s b i) (p : ProfIdx) : Moved s (b.changeProfile i p) i :=
  ⟨_, h.modTerm (g := fun t => { t with current := some p, dwell := 0, window := t.window.restart }) rfl Iff.rfl,
    .refl _ i⟩

variable (h : MoveBase s b i) (q : Quiet s b)
include h q

theorem judgeStep_moves (p : ProfIdx) (n : Nat) (m g : Bool) : QuietOrMoved s (b.judgeStep i p n m g) i := by
  have dwell (k : Nat) : QuietOrMoved s (b.setDwell i k) i := .inl (q.trans (quiet_modTerm b i))
  unfold State.judgeStep
  split_ifs
  · exact .inl (q.trans (enterFading_quiet b i))
  · exact .inr (changeProfile_moved h _)
  · split
    · split_ifs
      · exact .inr (changeProfile_moved h _)
      · exact dwell _
      · exact dwell _
    · exact dwell _

theorem takeResult_moves (n : Nat) (m g : Bool) : QuietOrMoved s (b.takeResult i n m g) i := by
  have judged (p : ProfIdx) : QuietOrMoved s ((b.judgeResume i p n m).judgeStep i p n m g) i := by
    refine judgeStep_moves ?_ (q.trans (judgeResume_quiet b i p n m)) p n m g
    unfold State.judgeResume
    split
    · exact h.modTerm rfl Iff.rfl
    · exact h
  unfold State.takeResult
  split
  · exact .inl q
  · split
    case h_1 | h_2 => exact judged _
    case h_3 hs => exact .inl (q.trans (judgeFading_quiet b hs n m))
    all_goals exact .inl q

theorem completeIfFull_moves : QuietOrMoved s (b.completeIfFull i) i := by
  unfold State.completeIfFull
  split
  · have stored (r : Option WindowResult) (n : Nat) (m g : Bool) :
        QuietOrMoved s ((b.modTerm i fun t => { t with lastResult := r }).takeResult i n m g) i :=
      takeResult_moves (h.modTerm rfl Iff.rfl) (q.trans (quiet_modTerm b i)) n m g
    exact QuietOrMoved.modTerm (stored _ _ _ _) i (g := fun t =>
      { t with window := { t.window.restart with settling := false } })
  · exact .inl q

theorem fadeReport_moves : QuietOrMoved s (b.fadeReport i) i := by
  unfold State.fadeReport
  split
  · exact .inl q
  · split_ifs
    · exact .inl (q.trans (enterFading_quiet b i))
    · exact .inr (changeProfile_moved h 0)

theorem force_moves (p : ProfIdx) : QuietOrMoved s (b.force i p) i := by
  unfold State.force
  split
  · exact .inl (q.trans (quiet_modTerm b i))
  · exact .inr (changeProfile_moved h p)

theorem ceilingStep_moves : QuietOrMoved s (b.ceilingStep i) i := by
  unfold State.ceilingStep
  split
  · split_ifs
    · exact .inr (changeProfile_moved h _)
    · exact .inl q
  · exact .inl q

end

theorem takeSample_moves (s : State) (i : Slot) (n : Nat) (g : Bool) : QuietOrMoved s (s.takeSample i n g) i :=
  completeIfFull_moves ((MoveBase.refl s i).modTerm rfl Iff.rfl) (quiet_modTerm s i)

theorem takeMiss_moves (s : State) (i : Slot) : QuietOrMoved s (s.takeMiss i) i := by
  simp only [State.takeMiss]
  split_ifs
  · exact .inl ((quiet_modTerm s i).trans (outage_quiet _ i false))
  · exact fadeReport_moves ((MoveBase.refl s i).modTerm rfl Iff.rfl) (quiet_modTerm s i)
  · exact .inl (quiet_modTerm s i)

/-- A terminal that is not IN_SERVICE enters service (R15, R117). -/
theorem enterService_moved {b : State} (h : MoveBase s b i) (hm : b.mgmt = s.mgmt)
    (hs : (b.term i).state ≠ .inService) (p : ProfIdx) : Moved s (b.enterService i p) i := by
  let c := (b.modTerm i fun t => { t with
    state := .ramping, current := some p, failedAttempts := 0, dwell := 0, window := Window.opening }).raise (.ramping i)
  have base : MoveBase s c i := (h.modTerm rfl (by simp [hs])).ramping hm
  have hc : (c.term i).state = .ramping := by rw [State.raise_term, State.modTerm_term_same]
  have served : (((c.reprice i).shedToFit).term i).state.serviced = true := by
    obtain ⟨up, down, e, -⟩ := shedToFit_takes (c.reprice i)
    rw [e, ((shedAll_run _ (c.reprice i)).termFields i).2.2, reprice_term, if_pos rfl, hc]
    rfl
  exact ⟨c, base, trails_settled served⟩

theorem endAttempt_admitted (s : State) (c : CtxNo) (a : Attempt) (b : Bool) : s.endAttempt c a .admitted b =
    ((s.setCtx c none).modTerm a.terminal fun t => { t with lastOutcome := some .admitted }).enterService a.terminal
      (a.entryProfile.getD 0) := by
  simp only [State.endAttempt, State.takeOutcome, AttemptOutcome.isFailure, Bool.false_eq_true, if_false]

/-- A proving burst of a RANGING terminal is quiet, or its terminal enters service (R73). -/
theorem judgeProving_moves {s : State} {a : Attempt} (hs : (s.term a.terminal).state = .ranging) (c : CtxNo) (n : Nat)
    (g : Bool) : QuietOrMoved s (s.judgeProving c a n g) a.terminal := by
  have q : Quiet s (s.modTerm a.terminal fun t => { t with counters := t.counters.burst g }) := quiet_modTerm s _
  simp only [State.judgeProving]
  split_ifs
  · exact .inl (q.trans (endAttempt_quiet _ c a false))
  · have burst := (MoveBase.refl s a.terminal).modTerm (g := fun t => { t with counters := t.counters.burst g }) rfl Iff.rfl
    have freed := (burst.reentry (State.setCtx_same _ c none)).modTerm
      (g := fun t => { t with lastOutcome := some .admitted }) rfl Iff.rfl
    rw [endAttempt_admitted]
    refine .inr (enterService_moved freed rfl ?_ _)
    rw [ne_eq, freed.inService, hs]
    nofun
  · exact .inl (q.trans (failProving_quiet _ c a))

end

/-! ### Records that arrive -/

section
variable (s : State)

theorem takeBurst_moves (r : BurstReport) : QuietOrMoved s (s.takeBurst r) r.slot := by
  have tail {u v : State} (k : SameBut [.tx, .counters] u v) (h : QuietOrMoved s u r.slot) : QuietOrMoved s v r.slot :=
    h.elsewhere (k.mono rfl) (by rw [show v.mgmt = u.mgmt from k .mgmt (by decide)]; exact .refl _)
  unfold State.takeBurst
  split_ifs
  · exact tail (State.takePayload_same _ r) (takeSample_moves s _ _ _)
  · split
    · next c a hp =>
      unfold State.provingContext at hp
      split at hp
      · next d x hx =>
        split at hp
        · next k =>
          cases hp
          obtain ⟨-, ht⟩ := contextOf_holds hx
          refine tail ((State.dropPayload_same _ _).mono rfl) (ht ▸ judgeProving_moves (ht.symm ▸ k.1) c _ _)
        · cases hp
      · cases hp
    · exact .inl (count_quiet s _)

theorem takeMissReport_moves (r : MissReport) : QuietOrMoved s (s.takeMissReport r) r.slot := by
  unfold State.takeMissReport
  split_ifs
  · exact takeMiss_moves s _
  · split
    · exact .inl (judgeProvingMiss_quiet s _ _)
    · exact .inl (count_quiet s _)

theorem takeRecord_moves (r : LinkRecord) : ∃ i, QuietOrMoved s (s.takeRecord r) i := by
  unfold State.takeRecord State.takeChecked
  split_ifs
  · exact ⟨0, .inl ((s.takeFrameStart_same _).quiet (by decide) (by decide))⟩
  · exact ⟨_, takeBurst_moves s _⟩
  · exact ⟨_, takeMissReport_moves s _⟩
  · exact ⟨0, .inl (takeRanging_quiet s _)⟩
  · exact ⟨0, .inl (takeRangingMiss_quiet s _)⟩
  · exact ⟨0, .inl (takeSectorState_quiet s _)⟩
  · exact ⟨0, .inl (count_quiet s _)⟩

end

end Sys2Proof.Machine

namespace Sys2Proof.Machine

/-! ### Chains that are linked anew stay sound (R86, R88, R91) -/

/-- The chain of a terminal ends: its last flow has no next one (R86). -/
def State.chainEnds (s : State) (j : Slot) : Prop :=
  ∀ f, (s.chain j).getLast? = some f → (s.flow f).chainNext = none

theorem chainEnds_congr {s t : State} {j : Slot} (h : s.chainEnds j) (hc : t.chain j = s.chain j)
    (hn : ∀ g ∈ s.chain j, (t.flow g).chainNext = (s.flow g).chainNext) : t.chainEnds j := by
  intro f hf
  rw [hc] at hf
  rw [hn f (List.mem_of_getLast? hf), h f hf]

/-- The last of the flows linked has no next one. -/
theorem relink_last (l : List FlowIdx) : ∀ (s : State) (f : FlowIdx), l.Nodup → l.getLast? = some f →
    ((s.relink l).flow f).chainNext = none := by
  induction l with
  | nil => exact fun _ _ _ h => nomatch h
  | cons x rest ih =>
    intro s f hn hf
    obtain ⟨hx, hrest⟩ := List.nodup_cons.mp hn
    cases rest with
    | nil =>
      obtain rfl : x = f := by simpa using hf
      rw [State.relink, State.relink, State.modFlow_flow, if_pos rfl]
      rfl
    | cons y rest => exact ih _ f hrest (by rwa [List.getLast?_cons_cons] at hf)

section
variable {s : State} {i j : Slot} {l : List FlowIdx}

theorem setChain_ends (hn : l.Nodup) (hl : l.length ≤ 16) : (s.setChain i l).chainEnds i := by
  intro f hf
  rw [setChain_chain s i l hn hl] at hf
  exact relink_last l _ f hn hf

theorem setChain_ends_other (hj : j ≠ i) (hl : ∀ g ∈ s.chain j, g ∉ l) (h : s.chainEnds j) :
    (s.setChain i l).chainEnds j :=
  chainEnds_congr h (setChain_chain_other s i l hj hl) fun g hg => by rw [setChain_flow_notMem s i l (hl g hg)]

/-- In sound chains no two terminals share a flow (R86). -/
theorem ChainsSound.disjoint (h : ChainsSound s) (hj : j ≠ i) {g : FlowIdx} (hg : g ∈ s.chain j) : g ∉ s.chain i :=
  fun hi => hj (Option.some.inj (((h.1 j g).mp hg).symm.trans ((h.1 i g).mp hi)))

theorem unlinkFlow_ends (h : ChainsSound s) {f : FlowIdx} (hb : (s.flow f).bound = some i) (j : Slot) :
    (s.unlinkFlow i f).chainEnds j := by
  have ends : s.chainEnds j := h.2.2.1 j
  by_cases e : j = i
  · subst e
    have hn : ((s.chain j).filter fun g => decide (g ≠ f)).Nodup := (h.nodup j).filter _
    have hl : ((s.chain j).filter fun g => decide (g ≠ f)).length ≤ 16 :=
      (List.length_filter_le _ _).trans (chain_length s j)
    have hset := setChain_chain s j _ hn hl
    refine chainEnds_congr (setChain_ends hn hl) ((unlinkFlow_chain s j f (h.nodup j)).trans hset.symm) fun g hg => ?_
    rw [hset, List.mem_filter, decide_eq_true_iff] at hg
    rw [State.unlinkFlow, State.modFlow_flow, if_neg hg.2]
  · have out (g : FlowIdx) (hg : g ∈ s.chain j) : g ≠ f ∧ g ∉ s.chain i :=
      ⟨fun k => h.disjoint e hg (k ▸ (h.1 i f).mpr hb), h.disjoint e hg⟩
    refine chainEnds_congr ends (unlinkFlow_chain_other s i f e out) fun g hg => ?_
    rw [unlinkFlow_flow_notMem s i f (out g hg).1 (out g hg).2]

/-- A flow out of its old chain leaves every chain ended. -/
theorem unchain_ends (h : ChainsSound s) (f : FlowIdx) (j : Slot) : (s.unchain f).chainEnds j := by
  unfold State.unchain
  split
  · next i hb => exact unlinkFlow_ends h hb j
  · exact h.2.2.1 j

/-- A flow out of its old chain has no next one, and no more has an unbound one. -/
theorem unchain_loose (h : ChainsSound s) {f g : FlowIdx} (hg : g = f ∨ (s.flow g).bound = none) :
    ((s.unchain f).flow g).chainNext = none := by
  obtain ⟨hmem, -, -, hloose⟩ := id h
  unfold State.unchain
  split
  · next i hb =>
    by_cases e : g = f
    · rw [e, unlinkFlow_flow_same]
    · have hn := hg.resolve_left e
      rw [unlinkFlow_flow_notMem s i f e fun k => by rw [(hmem i g).mp k] at hn; cases hn]
      exact hloose g hn
  · next hb => exact hloose g (hg.elim (fun e => e ▸ hb) id)

/-- The flows of a chain but for one stand by class and index in a state that keeps their classes. -/
theorem pairwise_without (h : ChainsSound s) {t : State} (f : FlowIdx) (j : Slot)
    (ht : ∀ g, g ≠ f → (t.flow g).cls = (s.flow g).cls) :
    ((s.chain j).filter fun g => decide (g ≠ f)).Pairwise (ChainOrder t) := by
  refine List.Pairwise.imp_of_mem (fun {a b} ha hb ho => ?_) ((h.2.1 j).2.filter _)
  have ha := of_decide_eq_true (List.mem_filter.mp ha).2
  have hb := of_decide_eq_true (List.mem_filter.mp hb).2
  rw [ChainOrder, ht a ha, ht b hb]
  exact ho

/-- A flow out of its old chain and left unbound: the chains are sound (R88, R91). -/
theorem unchain_chainsSound (h : ChainsSound s) (f : FlowIdx) {g : Flow → Flow}
    (hg : ∀ r, (g r).bound = none ∧ (g r).chainNext = r.chainNext) :
    ChainsSound ((s.unchain f).modFlow f g) := by
  have hmem := h.1
  have hself : ((s.unchain f).modFlow f g).flow f = g ((s.unchain f).flow f) := State.modFlow_flow_same _ _ _
  have hother (k : FlowIdx) (hk : k ≠ f) : ((s.unchain f).modFlow f g).flow k = (s.unchain f).flow k :=
    State.modFlow_flow_other _ _ hk
  have hnext (k : FlowIdx) : (((s.unchain f).modFlow f g).flow k).chainNext = ((s.unchain f).flow k).chainNext := by
    by_cases e : k = f
    · rw [e, hself, (hg _).2]
    · rw [hother k e]
  have hchain (j : Slot) : ((s.unchain f).modFlow f g).chain j = (s.unchain f).chain j := chain_congr rfl hnext
  have hlist (j : Slot) := (hchain j).trans (unchain_chain s f h j)
  refine ⟨fun j k => ?_, fun j => ⟨chain_length _ j, ?_⟩, fun j => ?_, fun k hb => ?_⟩
  · rw [hlist, List.mem_filter, decide_eq_true_iff, hmem]
    by_cases e : k = f
    · subst e
      rw [hself, (hg _).1]
      exact ⟨fun hh => absurd rfl hh.2, nofun⟩
    · rw [hother k e, unchain_flow]
      exact ⟨fun hh => hh.1, fun hh => ⟨hh, e⟩⟩
  · rw [hlist]
    exact pairwise_without h f j fun k hk => by rw [hother k hk, unchain_flow]
  · exact chainEnds_congr (unchain_ends h f j) (hchain j) fun k _ => hnext k
  · rw [hnext]
    refine unchain_loose h ((em (k = f)).imp_right fun e => ?_)
    rwa [hother k e, unchain_flow] at hb

/-- The chains after the binding and linking of a SET_FLOW are sound (R88). -/
theorem bindFlow_chainsSound {w : FlowWrite} (h : ChainsSound s)
    (hl : ∀ i, w.terminal = some i → (s.flow w.flow).bound ≠ some i → (s.chain i).length < 16) :
    ChainsSound (s.bindFlow w) := by
  have placed := bindFlow_chains h hl
  have bound := bindFlow_bound s w
  have mem (j : Slot) (k : FlowIdx) : k ∈ (s.bindFlow w).chain j ↔ ((s.bindFlow w).flow k).bound = some j := by
    obtain ⟨hrest, hself, -⟩ := placed j
    by_cases e : k = w.flow
    · rw [e, hself, bound.flow]
    · have hk : k ∈ (s.bindFlow w).chain j ↔ k ∈ s.chain j := by
        have := congrArg (k ∈ ·) hrest
        simpa [e] using this
      rw [hk, bound.other k e, h.1]
  have ordered (j : Slot) : ((s.bindFlow w).chain j).length ≤ 16 ∧
      ((s.bindFlow w).chain j).Pairwise (ChainOrder (s.bindFlow w)) := ⟨chain_length _ j, (placed j).2.2⟩
  by_cases hsame : s.boundTo w = (s.flow w.flow).bound ∧ (s.flow w.flow).cls = w.cls
  · rw [bindFlow_eq, if_pos hsame]
    exact h
  cases hto : s.boundTo w with
  | none =>
    have e : s.bindFlow w = (s.unchain w.flow).modFlow w.flow fun r => { r with bound := none, cls := w.cls } := by
      rw [bindFlow_eq, if_neg hsame, hto, State.rebound, hto]
    rw [e]
    exact unchain_chainsSound h _ fun _ => ⟨rfl, rfl⟩
  | some i =>
    have e : s.bindFlow w = (s.rebound w).setChain i ((s.rebound w).insertIn w.flow ((s.rebound w).chain i)) := by
      rw [bindFlow_eq, if_neg hsame, hto, ← linkFlow_eq]
    have hlist (j : Slot) : (s.rebound w).chain j = (s.chain j).filter fun g => decide (g ≠ w.flow) := by
      rw [rebound_chain, unchain_chain s w.flow h]
    have hout (j : Slot) : w.flow ∉ (s.rebound w).chain j := by simp [hlist]
    have hnext (g : FlowIdx) : ((s.rebound w).flow g).chainNext = ((s.unchain w.flow).flow g).chainNext := by
      rw [State.rebound, State.modFlow_flow]
      split
      · next e => rw [e]
      · rfl
    have hends (j : Slot) : (s.rebound w).chainEnds j :=
      chainEnds_congr (unchain_ends h w.flow j) (rebound_chain s w j) fun g _ => hnext g
    have hnodup := insertIn_nodup (s.rebound w) w.flow _ (hout i) (by rw [hlist]; exact (h.nodup i).filter _)
    refine ⟨mem, ordered, fun j => ?_, fun g hg => ?_⟩
    · show (s.bindFlow w).chainEnds j
      rw [e]
      by_cases k : j = i
      · rw [k]
        have shorter := List.length_filter_lt_length_iff_exists (p := fun g => decide (g ≠ w.flow)).mpr
          ⟨w.flow, (placed i).2.1.mpr hto, by simp⟩
        rw [(placed i).1, ← hlist] at shorter
        exact setChain_ends hnodup (by rw [insertIn_length]; exact shorter.trans_le (chain_length _ i))
      · refine setChain_ends_other k (fun g hg hgi => ?_) (hends j)
        rcases (insertIn_mem _ _ _ g).mp hgi with rfl | hgi
        · exact hout j hg
        · rw [hlist] at hg hgi
          exact h.disjoint k (List.mem_of_mem_filter hg) (List.mem_of_mem_filter hgi)
    · have hne : g ≠ w.flow := fun k => by rw [k, bound.flow, hto] at hg; cases hg
      have hb : (s.flow g).bound = none := by rwa [bound.other g hne] at hg
      have hgi : g ∉ (s.rebound w).insertIn w.flow ((s.rebound w).chain i) := fun hm => by
        have hm := ((insertIn_mem _ _ _ g).mp hm).resolve_left hne
        rw [hlist] at hm
        rw [(h.1 i g).mp (List.mem_of_mem_filter hm)] at hb
        cases hb
      rw [e, setChain_flow_notMem _ i _ hgi, hnext]
      exact unchain_loose h (.inr hb)

end

end Sys2Proof.Machine

namespace Sys2Proof.Machine

/-! ### SET_FLOW and UNBIND_FLOW -/

theorem writeFlow_quiet (s : State) (w : FlowWrite) : Quiet s (s.writeFlow w) := quiet_modFlow s w.flow

/-- After the binding and linking a SET_FLOW changes no link. -/
theorem setFlow_quiet_after (s : State) (w : FlowWrite) : Quiet (s.bindFlow w) (s.setFlow w) := by
  have fields : Quiet (s.bindFlow w) (s.setFields w) :=
    .ite ((writeFlow_quiet _ w).trans (withdrawForRate_quiet _ _)) (writeFlow_quiet _ w)
  have quiet : Quiet (s.bindFlow w) (s.setFlowQuiet w) := .ite (fields.trans (trimTail_quiet _ _ _)) fields
  rw [setFlow_eq]
  exact .ite (quiet.trans (reportRamping_quiet _)) quiet

theorem bindFlow_service (s : State) (w : FlowWrite) : KeepsService s (s.bindFlow w) := by
  intro i
  rw [(bindFlow_bound s w).term]
  exact fun h => ⟨h, rfl⟩

theorem unbind_service (s : State) (f : FlowIdx) : KeepsService s (s.unbind f) := by
  cases hb : (s.flow f).bound with
  | none => rw [State.unbind, hb]; exact fun _ h => ⟨h, rfl⟩
  | some i =>
    rw [unbind_eq hb]
    refine KeepsService.trans (fun j => ?_) (reportRamping_quiet _).service
    rw [unbound_term]
    exact fun h => ⟨h, rfl⟩

theorem unbind_chainsSound {s : State} {f : FlowIdx} (h : ChainsSound s) : ChainsSound (s.unbind f) := by
  cases hb : (s.flow f).bound with
  | none => rw [State.unbind, hb]; exact h
  | some i =>
    have e : s.unbound i f = (s.unchain f).modFlow f fun r => { r with bound := none } := by
      rw [State.unbound, State.unchain, hb]
    rw [unbind_eq hb, e]
    exact (reportRamping_quiet _).links.chainsSound (unchain_chainsSound h f fun _ => ⟨rfl, rfl⟩)

/-! ### The profile table and the tag map -/

/-- A profile table entry written keeps the table sound where a valid one has its thresholds in order, and profile 0 and
the default profile do not become invalid (R40 to R43). -/
theorem ProfilesSound.setProfile {s : State} (h : ProfilesSound s) {p : ProfIdx} {e : Profile}
    (ho : e.valid = true → e.exit < e.entry) (hv : e.valid = true ∨ p ≠ 0 ∧ p ≠ s.setup.defaultProfile) :
    ProfilesSound (s.setProfile p e) := by
  obtain ⟨h0, hd, hall⟩ := h
  have valid (q : ProfIdx) (hq : (s.profile q).valid = true) (hp : p ≠ 0 ∧ p ≠ s.setup.defaultProfile → q ≠ p) :
      ((s.setProfile p e).profile q).valid = true := by
    rw [State.setProfile_profile]
    split
    · next k => exact hv.resolve_right fun hh => hp hh k
    · exact hq
  refine ⟨valid 0 h0 fun hh => hh.1.symm, valid _ hd fun hh => hh.2.symm, fun q => ?_⟩
  rw [State.setProfile_profile]
  split
  · exact ho
  · exact hall q

theorem writeSetup_setup (s : State) (c : Setup) : (s.writeSetup c).setup = c := by
  have windows (u : State) : (if c.w ≠ s.setup.w then u.restartWindows else u).setup = u.setup := by split <;> rfl
  have needs (u : State) : (if c.m ≠ s.setup.m then u.repriceAll else u).setup = u.setup := by
    split
    · exact u.repriceAll_same .setup (by decide)
    · rfl
  have fits (q : Prop) [Decidable q] (u : State) : (if q then u.shedToFit else u).setup = u.setup := by
    split
    · exact u.shedToFit_same .setup (by decide)
    · rfl
  rw [State.writeSetup, fits, needs, windows]

/-- A SET_SECTOR that its checks let pass leaves a valid default profile (R43, R181). -/
theorem ProfilesSound.writeSetup {s : State} (h : ProfilesSound s) {b : SetupBody} (hb : s.defaultInvalid b = false) :
    ProfilesSound (s.writeSetup (b.apply s.setup)) := by
  obtain ⟨h0, hd, hall⟩ := h
  have hp (p : ProfIdx) : (s.writeSetup (b.apply s.setup)).profile p = s.profile p :=
    profile_of_profiles ((s.writeSetup_same _) .profiles (by decide)) p
  refine ⟨by rw [hp]; exact h0, ?_, fun p => by rw [hp]; exact hall p⟩
  rw [hp, writeSetup_setup, SetupBody.apply]
  unfold State.defaultInvalid at hb
  cases e : b.defaultProfile.bind profileOf with
  | none => exact hd
  | some p =>
    rw [e] at hb
    simpa using hb

/-- Tags outside a list keep their flows. -/
theorem writeTags_get (l : List Tag) (v : Option FlowIdx) {t : Tag} (ht : t ∉ l) :
    ∀ s : State, (s.writeTags l v).tags.get t = s.tags.get t := by
  induction l with
  | nil => exact fun _ => rfl
  | cons x rest ih =>
    rw [List.mem_cons, not_or] at ht
    intro s
    exact (ih ht.2 { s with tags := s.tags.put x v }).trans (Table.get_put_other _ _ _ _ ht.1)

/-- A block holds neither reserved tag (R95). -/
theorem blockTags_unreserved (base k : Nat) {t : Tag} (ht : t ∈ blockTags base k) : t.val ≠ 0 ∧ t.val ≠ 4095 := by
  obtain ⟨j, -, hj⟩ := List.mem_filterMap.mp ht
  split at hj
  · split at hj
    · cases hj
    · next hne => cases hj; exact not_or.mp hne
  · cases hj

theorem TagsReserved.writeTags {s : State} (h : TagsReserved s) (base k : Nat) (v : Option FlowIdx) :
    TagsReserved (s.writeTags (blockTags base k) v) := by
  refine ⟨?_, ?_⟩
  · rw [writeTags_get _ _ fun ht => (blockTags_unreserved base k ht).1 rfl]; exact h.1
  · rw [writeTags_get _ _ fun ht => (blockTags_unreserved base k ht).2 rfl]; exact h.2

/-! ### The invariants at reset -/

theorem resetWith_profile (straps : Byte) (p : ProfIdx) :
    (State.resetWith straps).profile p = if p = 0 then Profile.zeroReset else Profile.reset := Table.get_put ..

theorem resetWith_profilesSound (straps : Byte) : ProfilesSound (State.resetWith straps) := by
  refine ⟨rfl, rfl, fun p hp => ?_⟩
  rw [resetWith_profile] at hp ⊢
  split at hp
  · next h => rw [if_pos h]; decide
  · cases hp

theorem resetWith_tagsReserved (straps : Byte) : TagsReserved (State.resetWith straps) := ⟨rfl, rfl⟩

theorem resetWith_chain (straps : Byte) (i : Slot) : (State.resetWith straps).chain i = [] := rfl

theorem resetWith_chainsSound (straps : Byte) : ChainsSound (State.resetWith straps) := by
  refine ⟨fun i f => ?_, fun i => ?_, fun i f h => ?_, fun _ _ => rfl⟩
  · rw [resetWith_chain]
    exact ⟨nofun, fun h => nomatch (show (none : Option Slot) = some i from h)⟩
  · rw [resetWith_chain]
    exact ⟨Nat.zero_le _, .nil⟩
  · rw [resetWith_chain] at h
    cases h

/-! ### What every command keeps -/

/-- What every command and event keeps: a sound profile table, the reserved tags and sound chains; and it changes no
profile in service and brings no terminal into service, or it moves one terminal. -/
structure StepKeeps (s t : State) : Prop where
  profiles : ProfilesSound s → ProfilesSound t
  tags : TagsReserved s → TagsReserved t
  chains : ChainsSound s → ChainsSound t
  service : KeepsService s t ∨ ∃ i, Moved s t i

section
variable {s t u : State} {ps : List Part}

theorem profilesSound_of_same (h : SameBut ps s t) (hp : Part.profiles ∉ ps) (hs : Part.setup ∉ ps)
    (k : ProfilesSound s) : ProfilesSound t := by
  have e (p : ProfIdx) := profile_of_profiles (h .profiles hp) p
  simpa only [ProfilesSound, e, show t.setup = s.setup from h .setup hs] using k

theorem tagsReserved_of_same (h : SameBut ps s t) (ht : Part.tags ∉ ps) (k : TagsReserved s) : TagsReserved t := by
  simpa only [TagsReserved, show t.tags = s.tags from h .tags ht] using k

/-- A change outside the profile table, the setup record and the tag map, by what it does to links and service. -/
theorem StepKeeps.of_moves {i : Slot} (h : SameBut ps s t) (q : QuietOrMoved s t i)
    (hp : Part.profiles ∉ ps := by decide) (hs : Part.setup ∉ ps := by decide) (ht : Part.tags ∉ ps := by decide) :
    StepKeeps s t :=
  ⟨profilesSound_of_same h hp hs, tagsReserved_of_same h ht, q.links.chainsSound,
    q.imp Quiet.service fun m => ⟨i, m⟩⟩

/-- A quiet change outside the profile table, the setup record and the tag map. -/
theorem StepKeeps.of_quiet (h : SameBut ps s t) (q : Quiet s t) (hp : Part.profiles ∉ ps := by decide)
    (hs : Part.setup ∉ ps := by decide) (ht : Part.tags ∉ ps := by decide) : StepKeeps s t :=
  .of_moves (i := 0) h (.inl q) hp hs ht

/-- A change that touches neither terminals nor flows, nor the profile table, the setup record and the tag map. -/
theorem StepKeeps.of_same (h : SameBut ps s t) (hp : Part.profiles ∉ ps := by decide)
    (hs : Part.setup ∉ ps := by decide) (ht : Part.tags ∉ ps := by decide) (hm : Part.terms ∉ ps := by decide)
    (hf : Part.flows ∉ ps := by decide) : StepKeeps s t := .of_quiet h (h.quiet hm hf) hp hs ht

theorem StepKeeps.refl (s : State) : StepKeeps s s := .of_same (ps := []) (.refl _ s)

end

end Sys2Proof.Machine

namespace Sys2Proof.Machine

/-! ### Management commands -/

theorem respond_notices (s : State) (p : Packet) : SameNotices s.mgmt (s.respond p).mgmt := by
  unfold State.respond
  split <;> exact ⟨rfl, rfl, rfl, rfl, rfl⟩

/-- A result kept and answered touches no notice (R175, R177). -/
theorem complete_notices (s : State) (src : Mac) (body : List Byte) (r : CmdResult) :
    SameNotices s.mgmt (s.complete src body r).mgmt := by
  simp only [State.complete]
  split
  · exact ⟨rfl, rfl, rfl, rfl, rfl⟩
  · split
    · exact ⟨rfl, rfl, rfl, rfl, rfl⟩
    · split_ifs
      · exact SameNotices.trans (n := { s.mgmt with lastResult := some r, active := none }) ⟨rfl, rfl, rfl, rfl, rfl⟩
          (respond_notices _ _)
      · exact ⟨rfl, rfl, rfl, rfl, rfl⟩
      · exact ⟨rfl, rfl, rfl, rfl, rfl⟩

section
variable {s u : State} {src : Mac}

theorem StepKeeps.complete (h : StepKeeps s u) (src : Mac) (body : List Byte) (r : CmdResult) :
    StepKeeps s (u.complete src body r) := by
  have same := u.complete_same src body r
  refine ⟨fun k => profilesSound_of_same same (by decide) (by decide) (h.profiles k),
    fun k => tagsReserved_of_same same (by decide) (h.tags k),
    fun k => (complete_quiet u src body r).links.chainsSound (h.chains k), ?_⟩
  exact h.service.imp (fun k => k.trans (complete_quiet u src body r).service)
    fun ⟨i, m⟩ => ⟨i, m.elsewhere (same.mono rfl) (complete_notices u src body r)⟩

/-- A write command keeps what its effect keeps, where its checks let it pass (R178). -/
theorem StepKeeps.runWrite {code : Byte} {len : Nat} {body : List Byte} {check : State → Verdict}
    (h : ∀ st effect result, check s = .take st effect result → StepKeeps s (effect (s.controlledBy src))) :
    StepKeeps s (s.runWrite src code len body check) := by
  by_cases hl : body.length = len
  · cases hc : check s with
    | refuse st => rw [State.runWrite_refuse hl hc]; exact (StepKeeps.refl s).complete _ _ _
    | take st effect result => rw [State.runWrite_take hl hc]; exact (h _ _ _ hc).complete _ _ _
  · rw [State.runWrite, if_pos hl]
    exact (StepKeeps.refl s).complete _ _ _

theorem StepKeeps.runRead (code : Byte) (len : Nat) (body : List Byte) (read : State → Status × List Byte) :
    StepKeeps s (s.runRead src code len body read) := by
  unfold State.runRead
  split <;> exact (StepKeeps.refl s).complete _ _ _

/-- A quiet effect taken with the source the controller, outside the profile table, the setup record and the tag map. -/
theorem StepKeeps.command {ps : List Part} (h : SameBut ps (s.controlledBy src) u) (q : Quiet (s.controlledBy src) u)
    (hp : Part.profiles ∉ ps := by decide) (hs : Part.setup ∉ ps := by decide) (ht : Part.tags ∉ ps := by decide) :
    StepKeeps s u :=
  ⟨fun k => profilesSound_of_same h hp hs (profilesSound_of_same (s.controlledBy_same src) (by decide) (by decide) k),
    fun k => tagsReserved_of_same h ht (tagsReserved_of_same (s.controlledBy_same src) (by decide) k),
    fun k => q.links.chainsSound ((controlledBy_quiet s src).links.chainsSound k),
    .inl ((controlledBy_quiet s src).service.trans q.service)⟩

end

section
variable (s : State) (src : Mac) {st : Status} {effect : State → State} {result : List Byte}

theorem provisionTerminal_keeps {b : TerminalBody} (h : checkProvision b s = .take st effect result) :
    StepKeeps s (effect (s.controlledBy src)) := by
  unfold checkProvision at h
  split at h
  · cases h
  · split at h
    · cases h
    · split at h <;> cases h
      exact .command (State.modTerm_same _ _ _) (quiet_modTerm_out _ _ fun _ => ⟨rfl, rfl⟩)

theorem setTerminal_keeps {b : TerminalBody} (h : checkSetTerminal b s = .take st effect result) :
    StepKeeps s (effect (s.controlledBy src)) := by
  unfold checkSetTerminal at h
  split at h
  · cases h
  · split at h
    · cases h
    · next p _ =>
      split at h <;> cases h
      let u := (s.controlledBy src).modTerm b.slot (rewrittenRecord b p)
      have base : MoveBase s (u.requeue b.slot) b.slot :=
        ((moveBase_controlledBy s src b.slot).modTerm rfl Iff.rfl).reentry (State.requeue_same _ _)
      have quiet : Quiet s (u.requeue b.slot) :=
        ((controlledBy_quiet s src).trans
          (quiet_modTerm _ b.slot (g := rewrittenRecord b p) fun _ => ⟨rfl, rfl, rfl⟩)).trans
            ((State.requeue_same u _).quiet (by decide) (by decide))
      have entry := State.ceilingEntry_same ((u.requeue b.slot).ceilingStep b.slot) b.slot
      refine .of_moves (((base.same.then (State.ceilingStep_same _ b.slot)
        (rs := [.terms, .flows, .ledger, .mgmt, .reentry, .counters]) rfl rfl)).then entry
          (rs := [.terms, .flows, .ledger, .mgmt, .reentry, .counters]) rfl rfl)
        ((ceilingStep_moves base quiet).elsewhere (entry.mono rfl) ?_)
      rw [show State.mgmt _ = _ from entry .mgmt (by decide)]
      exact .refl _

theorem parkTerminal_keeps {i : Slot} (h : checkPark i s = .take st effect result) :
    StepKeeps s (effect (s.controlledBy src)) := by
  unfold checkPark at h
  split at h <;> cases h
  exact .command (State.park_same _ i) (quiet_park _ i)

theorem releaseTerminal_keeps {i : Slot} (h : checkRelease i s = .take st effect result) :
    StepKeeps s (effect (s.controlledBy src)) := by
  unfold checkRelease at h
  split at h <;> cases h
  exact .command (State.releaseTerminal_same _ i) (releaseTerminal_quiet _ i)

/-- A slot is given up with an empty chain alone (R11). -/
theorem deprovisionTerminal_keeps {i : Slot} (h : checkDeprovision i s = .take st effect result) :
    StepKeeps s (effect (s.controlledBy src)) := by
  unfold checkDeprovision at h
  split at h
  · cases h
  · split at h <;> cases h
    next hk => exact .command (State.modTerm_same _ i _) (quiet_modTerm_at _ i hk.2.symm nofun)

theorem forceProfile_keeps {i : Slot} {n : Nat} (h : checkForce i n s = .take st effect result) :
    StepKeeps s (effect (s.controlledBy src)) := by
  unfold checkForce at h
  split at h
  · cases h
  · split at h
    · cases h
    · split_ifs at h
      cases h
      exact .of_moves ((s.controlledBy_same src).then (State.force_same _ i _)
        (rs := [.terms, .flows, .ledger, .mgmt]) rfl rfl)
        (force_moves (moveBase_controlledBy s src i) (controlledBy_quiet s src) _)

/-- An entry written into the profile table, its thresholds in order where it is valid and profile 0 and the default one
kept valid. -/
theorem setProfile_keeps {p : ProfIdx} {e : Profile} (ho : e.valid = true → ProfilesSound s → e.exit < e.entry)
    (hv : e.valid = true ∨ p ≠ 0 ∧ p ≠ s.setup.defaultProfile) : StepKeeps s ((s.controlledBy src).setProfile p e) := by
  have same := (s.controlledBy_same src).then (State.setProfile_same _ p e) (rs := [.mgmt, .profiles]) rfl rfl
  have quiet := same.quiet (by decide) (by decide)
  refine ⟨fun k => ?_, tagsReserved_of_same same (by decide), quiet.links.chainsSound, .inl quiet.service⟩
  have k' : ProfilesSound (s.controlledBy src) :=
    profilesSound_of_same (s.controlledBy_same src) (by decide) (by decide) k
  exact k'.setProfile (fun h => ho h k) hv

theorem writeProfile_keeps {b : ProfileBody} (h : checkWriteProfile b s = .take st effect result) :
    StepKeeps s (effect (s.controlledBy src)) := by
  unfold checkWriteProfile at h
  split at h
  · cases h
  · split_ifs at h with _ hle
    cases h
    exact setProfile_keeps s src (fun _ _ => not_le.mp hle) (.inl rfl)

theorem invalidateProfile_keeps {n : Nat} (h : checkInvalidate n s = .take st effect result) :
    StepKeeps s (effect (s.controlledBy src)) := by
  unfold checkInvalidate at h
  split at h
  · cases h
  · split_ifs at h with hb
    cases h
    exact setProfile_keeps s src nofun (.inr (not_or.mp hb))

theorem setFlow_keeps {b : FlowBody} (h : checkSetFlow b s = .take st effect result) :
    StepKeeps s (effect (s.controlledBy src)) := by
  unfold checkSetFlow at h
  split at h
  · cases h
  · next w _ =>
    simp only at h
    split_ifs at h with _ _ hfull
    cases h
    have same := (s.controlledBy_same src).then (State.setFlow_same _ w)
      (rs := [.terms, .flows, .ledger, .buffer, .mgmt]) rfl rfl
    have after := setFlow_quiet_after (s.controlledBy src) w
    refine ⟨profilesSound_of_same same (by decide) (by decide), tagsReserved_of_same same (by decide), fun k => ?_,
      .inl (((controlledBy_quiet s src).service.trans (bindFlow_service _ w)).trans after.service)⟩
    refine after.links.chainsSound (bindFlow_chainsSound ((controlledBy_quiet s src).links.chainsSound k)
      fun i ht hb => ?_)
    by_contra hlen
    rw [State.controlledBy_chain] at hlen
    refine hfull ⟨?_, ?_⟩
    · simpa [FlowWrite.rebinds, ht] using Ne.symm hb
    · rw [ht]; exact congrArg some (decide_eq_true (not_lt.mp hlen))

theorem unbindFlow_keeps {n : Nat} (h : checkUnbind n s = .take st effect result) :
    StepKeeps s (effect (s.controlledBy src)) := by
  unfold checkUnbind at h
  split at h
  · cases h
  · next f _ =>
    split at h <;> cases h
    have same := (s.controlledBy_same src).then (State.unbind_same _ f) (rs := [.terms, .flows, .mgmt]) rfl rfl
    exact ⟨profilesSound_of_same same (by decide) (by decide), tagsReserved_of_same same (by decide),
      fun k => unbind_chainsSound ((controlledBy_quiet s src).links.chainsSound k),
      .inl ((controlledBy_quiet s src).service.trans (unbind_service _ f))⟩

theorem enableFlow_keeps {n : Nat} (h : checkEnable n s = .take st effect result) :
    StepKeeps s (effect (s.controlledBy src)) := by
  unfold checkEnable at h
  split at h
  · cases h
  · split at h <;> cases h
    exact .command (State.enable_same _ _) (enable_quiet _ _)

theorem disableFlow_keeps {n : Nat} (h : checkDisable n s = .take st effect result) :
    StepKeeps s (effect (s.controlledBy src)) := by
  unfold checkDisable at h
  split at h <;> cases h
  exact .command (State.disable_same _ _) (disable_quiet _ _)

theorem mapTags_keeps {b : TagsBody} (h : checkMapTags b s = .take st effect result) :
    StepKeeps s (effect (s.controlledBy src)) := by
  unfold checkMapTags at h
  split at h
  · cases h
  · split at h
    · cases h
    · next target _ =>
      cases h
      have same := (s.controlledBy_same src).then
        (State.writeTags_same _ (blockTags b.base (min b.k 8)) target) (rs := [.mgmt, .tags]) rfl rfl
      have quiet := same.quiet (by decide) (by decide)
      exact ⟨profilesSound_of_same same (by decide) (by decide), fun k => TagsReserved.writeTags k _ _ _,
        quiet.links.chainsSound, .inl quiet.service⟩

theorem setSector_keeps {b : SetupBody} (h : checkSetSector b s = .take st effect result) :
    StepKeeps s (effect (s.controlledBy src)) := by
  unfold checkSetSector at h
  split_ifs at h with _ _ hd
  cases h
  have quiet := (controlledBy_quiet s src).trans (writeSetup_quiet _ (b.apply s.setup))
  have same := (s.controlledBy_same src).then (State.writeSetup_same _ (b.apply s.setup))
    (rs := [.setup, .terms, .flows, .ledger, .mgmt]) rfl rfl
  refine ⟨fun k => ?_, tagsReserved_of_same same (by decide), quiet.links.chainsSound, .inl quiet.service⟩
  exact ProfilesSound.writeSetup (s := s.controlledBy src) k (Bool.eq_false_iff.mpr hd)

theorem clearCounters_keeps {scope : Byte} {i : Slot} {n : Nat}
    (h : checkClearCounters scope i n s = .take st effect result) : StepKeeps s (effect (s.controlledBy src)) := by
  unfold checkClearCounters at h
  split_ifs at h
  · cases h
    exact .command (State.clearTerminal_same _ i) (quiet_modTerm _ i)
  · split at h <;> cases h
    exact .command (State.clearFlow_same _ _) (quiet_modFlow _ _)
  · cases h
    exact .command (State.clearAllCounters_same _) (clearAllCounters_quiet _)

end

/-! ### Every command and every step -/

section
variable (s : State)

/-- A device reset brings back sound tables and no terminal in service (R23, R40, R86, R94). -/
theorem deviceReset_keeps (straps : Byte) : StepKeeps s { State.resetWith straps with pending := s.pending } :=
  ⟨fun _ => resetWith_profilesSound straps, fun _ => resetWith_tagsReserved straps,
    fun _ => SameLinks.chainsSound ⟨fun _ => ⟨rfl, rfl, rfl⟩, fun _ => rfl⟩ (resetWith_chainsSound straps),
    .inl fun _ h => nomatch (show TermState.absent.serviced = true from h)⟩

theorem takeRecord_keeps (r : LinkRecord) : StepKeeps s (s.takeRecord r) := by
  obtain ⟨i, q⟩ := takeRecord_moves s r
  exact .of_moves (s.takeRecord_same r) q

theorem withLink_quiet (k : Link) : Quiet s { s with link := k } := (withLink_same s k).quiet (by decide) (by decide)

theorem withReentry_same (k : Reentry) : SameBut [.reentry] s { s with reentry := k } := by
  intro p hp
  cases p <;> first | rfl | exact absurd (by decide) hp

theorem withResultStamp_same (k : Link) (n : Option FrameNo) :
    SameBut [.link, .resultStamp] s { s with link := k, resultStamp := n } := by
  intro p hp
  cases p <;> first | rfl | exact absurd (by decide) hp

theorem takeGrants_quiet : Quiet s s.takeGrants := s.takeGrants_same.quiet (by decide) (by decide)

/-- What every command and event keeps. -/
theorem exec_keeps {c : Instr} {t : State} (h : exec c s = .next t) : StepKeeps s t := by
  cases c with
  | frameStart r | burstReport r | missReport r | rangingReport r | rangingMiss r | sectorState r =>
    cases h
    exact takeRecord_keeps s r
  | trunkPacketArrival p =>
    cases h
    exact .of_quiet (s.takePacket_same p) (takePacket_quiet s p)
  | deviceReset straps =>
    cases h
    exact deviceReset_keeps s straps
  | qmonFrameEvent =>
    simp only [exec, execQmonFrameEvent] at h
    split at h <;> cases h
    · exact .refl s
    · exact .of_same (withResultStamp_same s _ _)
  | tmgrFrameEvent =>
    simp only [exec, execTmgrFrameEvent] at h
    split at h <;> cases h
    · exact .refl s
    · exact .of_quiet ((withLink_same s _).then (State.walkDown_same _) (rs := [.link, .terms, .reentry]) rfl rfl)
        ((withLink_quiet s _).trans (walkDown_quiet _))
  | downTimerExpiry i =>
    cases h
    exact .of_quiet (s.expireTimer_same i) (.ite (makeQueued_quiet s i) (.refl s))
  | recFrameEvent =>
    simp only [exec, execRecFrameEvent] at h
    split at h <;> cases h
    · exact .refl s
    · exact .of_quiet (((withLink_same s _).then (State.takeGrants_same _) (rs := [.link, .reentry]) rfl rfl).then
        (State.reecFrame_same _ _) (rs := [.link, .terms, .flows, .ledger, .reentry, .mgmt]) rfl rfl)
        (((withLink_quiet s _).trans (takeGrants_quiet _)).trans (reecFrame_quiet _ _))
  | responseTimeout k =>
    cases h
    exact .of_quiet (s.timeout_same k) (timeout_quiet s k)
  | readmissionScan =>
    simp only [exec, execReadmissionScan] at h
    split at h <;> cases h
    · exact .refl s
    · exact .of_quiet ((withLink_same s _).then (State.scan_same _)
        (rs := [.link, .terms, .flows, .ledger, .mgmt]) rfl rfl) ((withLink_quiet s _).trans (scan_quiet _))
  | pbrFrameEvent =>
    simp only [exec, execPbrFrameEvent] at h
    split at h <;> cases h
    · exact .refl s
    · exact .of_quiet ((withLink_same s _).then (State.releaseFrame_same _ _)
        (rs := [.link, .flows, .buffer, .mgmt]) rfl rfl) ((withLink_quiet s _).trans (releaseFrame_quiet _ _))
  | staleDiscard f =>
    cases h
    exact .of_quiet (s.staleOnce_same f) (staleOnce_quiet s f)
  | gbldFrameEvent =>
    simp only [exec, execGbldFrameEvent] at h
    split at h <;> cases h
    · exact .refl s
    · exact .of_same ((withLink_same s _).then (State.buildGrants_same _ _) (rs := [.link, .reentry]) rfl rfl)
  | grantTake =>
    simp only [exec, execGrantTake] at h
    split at h <;> cases h
    · exact .refl s
    · exact .of_same ((withReentry_same s _).then (State.takeGrant_same _ _) (rs := [.reentry]) rfl rfl)
  | windowComplete i =>
    cases h
    split
    · exact .of_moves (s.completeIfFull_same i) (completeIfFull_moves (.refl s i) (.refl s))
    · exact .refl s
  | requestTake =>
    cases h
    exact .of_same s.takeRequest_same
  | transmitComplete =>
    cases h
    exact .of_same s.finishSending_same
  | noticeSend =>
    cases h
    exact .of_same s.sendNotice_same
  | unknownCommand src code body =>
    cases h
    exact (StepKeeps.refl s).complete _ _ _
  | provisionTerminal src body => cases h; exact .runWrite fun _ _ _ => provisionTerminal_keeps s src
  | setTerminal src body => cases h; exact .runWrite fun _ _ _ => setTerminal_keeps s src
  | parkTerminal src body => cases h; exact .runWrite fun _ _ _ => parkTerminal_keeps s src
  | releaseTerminal src body => cases h; exact .runWrite fun _ _ _ => releaseTerminal_keeps s src
  | deprovisionTerminal src body => cases h; exact .runWrite fun _ _ _ => deprovisionTerminal_keeps s src
  | forceProfile src body => cases h; exact .runWrite fun _ _ _ => forceProfile_keeps s src
  | writeProfile src body => cases h; exact .runWrite fun _ _ _ => writeProfile_keeps s src
  | invalidateProfile src body => cases h; exact .runWrite fun _ _ _ => invalidateProfile_keeps s src
  | setFlow src body => cases h; exact .runWrite fun _ _ _ => setFlow_keeps s src
  | unbindFlow src body => cases h; exact .runWrite fun _ _ _ => unbindFlow_keeps s src
  | enableFlow src body => cases h; exact .runWrite fun _ _ _ => enableFlow_keeps s src
  | disableFlow src body => cases h; exact .runWrite fun _ _ _ => disableFlow_keeps s src
  | mapTags src body => cases h; exact .runWrite fun _ _ _ => mapTags_keeps s src
  | setSector src body => cases h; exact .runWrite fun _ _ _ => setSector_keeps s src
  | restartSector src body =>
    cases h
    exact .runWrite fun _ _ _ e => by cases e; exact .command (State.restart_same _) (restart_quiet _)
  | readTerminal src body | readFlow src body | readProfile src body | readSector src body | readTags src body
  | readReentryQueue src body | readReadmissionList src body | readContexts src body | readLedger src body =>
    cases h
    exact .runRead _ _ _ _
  | clearCounters src body => cases h; exact .runWrite fun _ _ _ => clearCounters_keeps s src
  | clearFlags src body =>
    cases h
    exact .runWrite fun _ _ _ e => by cases e; exact .command (State.clearFlags_same _) (clearFlags_quiet _)

end

/-- A predicate that every command keeps, and that does not read the commands waiting, is kept by every step. -/
theorem step_induction {P : State → Prop} (hp : ∀ s l, P s → P { s with pending := l })
    (he : ∀ c s t, exec c s = .next t → P s → P t) {s t : State} (h : step s = .next t) (hs : P s) : P t := by
  unfold step at h
  split at h
  · exact he _ _ t h (hp s _ hs)
  · split at h
    · exact he _ s t h hs
    · cases h
      exact hs

/-- Settles O7: each command keeps the three, and so does each step, which takes one command or none. -/
theorem profilesAndReservedTagsAreKept : Obligations.ProfilesAndReservedTagsAreKept := by
  intro s t h
  have links (s : State) (l : List Instr) : SameLinks s { s with pending := l } :=
    ⟨fun _ => ⟨rfl, rfl, rfl⟩, fun _ => rfl⟩
  exact ⟨step_induction (fun _ _ k => k) (fun _ s _ e => (exec_keeps s e).profiles) h,
    step_induction (fun _ _ k => k) (fun _ s _ e => (exec_keeps s e).tags) h,
    step_induction (fun s l k => (links s l).chainsSound k) (fun _ s _ e => (exec_keeps s e).chains) h⟩

end Sys2Proof.Machine

namespace Sys2Proof.Machine

/-! ### The state after reset -/

section
variable (straps : Byte)

theorem resetWith_reentrySound : ReentrySound (State.resetWith straps) :=
  ⟨.nil, fun _ => ⟨nofun, nofun⟩, fun _ => ⟨nofun, fun ⟨_, _, h, _⟩ => nomatch (show none = some _ from h)⟩,
    fun _ _ _ _ h => nomatch (show none = some _ from h)⟩

theorem resetWith_ledgerSound : LedgerSound (State.resetWith straps) := by
  refine ⟨nofun, fun i x => ?_, rfl, rfl, Nat.zero_le _, Nat.zero_le _⟩
  rw [needWith_unserviced rfl]
  cases x <;> rfl

theorem resetWith_setupSound : SetupSound (State.resetWith straps) := by
  simp [SetupSound, State.resetWith]

end

/-- Settles O5: the tables are empty, no terminal is served, and profile 0 alone is valid. -/
theorem resetMeetsInvariants : Obligations.ResetMeetsInvariants := by
  refine ⟨fun straps => ?_, rfl⟩
  have queues : QueuesBounded (State.resetWith straps) := ⟨Nat.zero_le _, Nat.zero_le _, Nat.zero_le _⟩
  have credit : CreditBounded (State.resetWith straps) := ⟨Nat.zero_le _, fun _ => rfl⟩
  have readmission : ReadmissionSound (State.resetWith straps) := ⟨.nil, fun _ => ⟨nofun, nofun⟩⟩
  exact ⟨queues, credit, resetWith_profilesSound straps, resetWith_tagsReserved straps, rfl,
    resetWith_reentrySound straps, readmission, resetWith_setupSound straps, resetWith_chainsSound straps,
    resetWith_ledgerSound straps⟩

end Sys2Proof.Machine

namespace Sys2Proof.Machine

/-! ### The profile table -/

/-- A test that the default record fails holds of some record kept exactly when it holds at some index. -/
theorem Table.any_entries_iff {α : Type} {n : Nat} {d : α} [DecidableEq α] (t : Table n d) {p : α → Bool}
    (hd : p d = false) : t.entries.any (fun e => p e.2) = true ↔ ∃ k, p (t.get k) = true := by
  have hk (k : Fin n) := t.mem_keys (fun _ => p) k hd
  simp only [← hk, Table.keys, List.mem_map, List.mem_filter, List.any_eq_true]
  exact ⟨fun ⟨e, he⟩ => ⟨e.1, e, he, rfl⟩, fun ⟨_, e, he, _⟩ => ⟨e, he⟩⟩

/-- A profile is some terminal's current profile or some context's entry profile (R41, R42). -/
def ProfileUsed (s : State) (p : ProfIdx) : Prop :=
  (∃ i, (s.term i).current = some p) ∨ ∃ c a, s.ctx c = some a ∧ a.entryProfile = some p

/-- The model's test of a profile in use. -/
theorem profileInUse_iff (s : State) (p : ProfIdx) : s.profileInUse p = true ↔ ProfileUsed s p := by
  have terms := s.terms.any_entries_iff (p := fun t : Terminal => decide (t.current = some p)) (by simp)
  rw [State.profileInUse, Bool.or_eq_true, terms]
  refine or_congr (by simp only [decide_eq_true_iff]; rfl) ?_
  rw [List.any_eq_true]
  refine ⟨fun ⟨c, _, h⟩ => ?_, fun ⟨c, a, h, e⟩ => ⟨c, ?_, ?_⟩⟩
  · cases e : s.ctx c with
    | none => rw [e] at h; cases h
    | some a => rw [e] at h; exact ⟨c, a, e, of_decide_eq_true h⟩
  · exact List.mem_finRange c
  · rw [h]; exact decide_eq_true e

/-- A profile body is clamped where a number of it lies outside its range (R40, R41). -/
theorem profileBody_clamp_eq (b : ProfileBody) : b.clamp = b ↔ 4 ≤ b.density ∧ b.density ≤ 80 ∧ 1 ≤ b.dwell ∧
    b.dwell ≤ 15 ∧ 8 ≤ b.overhead ∧ b.overhead ≤ 1023 ∧ b.entry ≤ 500 ∧ b.exit ≤ 500 := by
  have fields : b.clamp = b ↔ clamp 4 80 b.density = b.density ∧ clamp 1 15 b.dwell = b.dwell ∧
      clamp 8 1023 b.overhead = b.overhead ∧ clamp 0 500 b.entry = b.entry ∧ clamp 0 500 b.exit = b.exit := by
    cases b
    simp only [ProfileBody.clamp, ProfileBody.mk.injEq, true_and]
  rw [fields, clamp_eq_self (by omega), clamp_eq_self (by omega), clamp_eq_self (by omega), clamp_eq_self (by omega),
    clamp_eq_self (by omega)]
  omega

theorem clamp_zero (hi n : Nat) : clamp 0 hi n = min hi n := by rw [clamp, Nat.zero_max]

section
variable {s : State} {p : ProfIdx}

theorem checkWriteProfile_range {b : ProfileBody} (h : profileOf b.index = none) :
    checkWriteProfile b s = .refuse .range := by
  rw [checkWriteProfile, h]

theorem checkWriteProfile_inUse {b : ProfileBody} (h : profileOf b.index = some p) (hu : ProfileUsed s p) :
    checkWriteProfile b s = .refuse .inUse := by
  simp only [checkWriteProfile, h]
  exact if_pos ((profileInUse_iff s p).mpr hu)

theorem checkWriteProfile_inconsistent {b : ProfileBody} (h : profileOf b.index = some p) (hu : ¬ ProfileUsed s p)
    (hle : b.clamp.entry ≤ b.clamp.exit) : checkWriteProfile b s = .refuse .inconsistent := by
  simp only [checkWriteProfile, h]
  rw [if_neg (mt (profileInUse_iff s p).mp hu), if_pos hle]

theorem checkWriteProfile_taken {b : ProfileBody} (h : profileOf b.index = some p) (hu : ¬ ProfileUsed s p)
    (hlt : b.clamp.exit < b.clamp.entry) : checkWriteProfile b s =
      .take (okOr (decide (b.clamp ≠ b))) (fun s => s.setProfile p b.clamp.toProfile) [] := by
  simp only [checkWriteProfile, h]
  rw [if_neg (mt (profileInUse_iff s p).mp hu), if_neg (not_le.mpr hlt)]

theorem checkInvalidate_range {n : Nat} (h : profileOf n = none) : checkInvalidate n s = .refuse .range := by
  rw [checkInvalidate, h]

theorem checkInvalidate_busy {n : Nat} (h : profileOf n = some p) (hb : p = 0 ∨ p = s.setup.defaultProfile) :
    checkInvalidate n s = .refuse .busy := by
  simp only [checkInvalidate, h]
  exact if_pos hb

theorem checkInvalidate_inUse {n : Nat} (h : profileOf n = some p) (hb : ¬ (p = 0 ∨ p = s.setup.defaultProfile))
    (hu : ProfileUsed s p) : checkInvalidate n s = .refuse .inUse := by
  simp only [checkInvalidate, h]
  rw [if_neg hb, if_pos ((profileInUse_iff s p).mpr hu)]

theorem checkInvalidate_taken {n : Nat} (h : profileOf n = some p) (hb : ¬ (p = 0 ∨ p = s.setup.defaultProfile))
    (hu : ¬ ProfileUsed s p) :
    checkInvalidate n s = .take .ok (fun s => s.setProfile p { s.profile p with valid := false }) [] := by
  simp only [checkInvalidate, h]
  rw [if_neg hb, if_neg (mt (profileInUse_iff s p).mp hu)]

end

/-- An entry written by a command leaves the other entries and all else but the controller. -/
theorem setProfile_others (s : State) (src : Mac) (p : ProfIdx) (e : Profile) :
    let u := (s.controlledBy src).setProfile p e
    (∀ q, q ≠ p → u.profile q = s.profile q) ∧ u.mgmt = s.mgmt.controlledBy src ∧ SameBut [.profiles, .mgmt] s u :=
  ⟨fun _ hq => (State.setProfile_profile ..).trans (if_neg hq), rfl,
    (s.controlledBy_same src).then (State.setProfile_same _ p e) rfl rfl⟩

/-- Settles O52: the checks of WRITE_PROFILE and INVALIDATE_PROFILE in their order, and the one entry they replace. -/
theorem profileTableIsEdited : Obligations.ProfileTableIsEdited := by
  intro src body s inUse others
  constructor
  · intro hl refused entry exit
    refine ⟨fun h => answer_refuse hl (checkWriteProfile_range (profileOf_eq_none h)), fun p hp => ?_⟩
    have named : profileOf (readProfileBody body).index = some p := profileOf_eq_some hp
    have hentry : (readProfileBody body).clamp.entry = entry := clamp_zero ..
    have hexit : (readProfileBody body).clamp.exit = exit := clamp_zero ..
    refine ⟨fun hu => answer_refuse hl (checkWriteProfile_inUse named hu), fun hu hle =>
      answer_refuse hl (checkWriteProfile_inconsistent named hu (hentry ▸ hexit ▸ hle)), fun hu hlt =>
      ⟨_, _, answer_take hl (checkWriteProfile_taken named hu (hentry ▸ hexit ▸ hlt)), ?_, ?_, ?_,
        setProfile_others s src p _⟩⟩
    · rw [State.setProfile_profile, if_pos rfl, ProfileBody.toProfile, hentry, hexit]
      rfl
    · rw [(okOr_ok_iff _).1, not_not]
      exact profileBody_clamp_eq _
    · exact (okOr_ok_iff _).2
  · intro hl refused
    refine ⟨fun h => answer_refuse hl (checkInvalidate_range (profileOf_eq_none h)), fun p hp => ?_⟩
    have named : profileOf (nat8At body 0) = some p := profileOf_eq_some hp
    refine ⟨fun hb => answer_refuse hl (checkInvalidate_busy named hb), fun h0 hd hu =>
      answer_refuse hl (checkInvalidate_inUse named (not_or.mpr ⟨h0, hd⟩) hu), fun h0 hd hu =>
      ⟨_, answer_take hl (checkInvalidate_taken named (not_or.mpr ⟨h0, hd⟩) hu), ?_, setProfile_others s src p _⟩⟩
    rw [State.setProfile_profile, if_pos rfl]
    rfl

end Sys2Proof.Machine

namespace Sys2Proof.Machine

/-! ### The lengths of result bodies (11.3) -/

@[simp] theorem be16_length (w : Word16) : (be16 w).length = 2 := rfl
@[simp] theorem be48_length (w : Mac) : (be48 w).length = 6 := rfl
@[simp] theorem num16_length (n : Nat) : (num16 n).length = 2 := rfl
@[simp] theorem num32_length (n : Nat) : (num32 n).length = 4 := rfl
@[simp] theorem flowWord_length (f : Option FlowIdx) : (flowWord f).length = 2 := rfl
@[simp] theorem frameWord_length (n : Option FrameNo) : (frameWord n).length = 2 := rfl
@[simp] theorem markerBytes_length (m : Option Marker) : (markerBytes m).length = 6 := rfl
@[simp] theorem termCounters_length (c : TermCounters) : c.bytes.length = 24 := rfl
@[simp] theorem flowCounters_length (c : FlowCounters) : c.bytes.length = 32 := rfl
@[simp] theorem sectorCounters_length (c : SectorCounters) : c.bytes.length = 40 := rfl
@[simp] theorem setupBytes_length (c : Setup) : (setupBytes c).length = 30 := rfl

theorem terminalBytes_length (i : Slot) (t : Terminal) : (terminalBytes i t).length = 62 := by
  simp [terminalBytes]

theorem flowBytes_length (f : FlowIdx) (r : Flow) : (flowBytes f r).length = 62 := by
  simp [flowBytes]

theorem profileBytes_length (p : ProfIdx) (e : Profile) : (profileBytes p e).length = 10 := by
  simp [profileBytes]

theorem sectorBytes_length (s : State) : (sectorBytes s).length = 88 := by
  simp [sectorBytes]

theorem ledgerBytes_length (s : State) : (ledgerBytes s).length = 18 := by
  simp [ledgerBytes]

theorem contextBytes_length (a : Option Attempt) : (contextBytes a).length = 12 := by
  cases a <;> simp [contextBytes]

theorem tagBytes_length (s : State) (v : Tag) : (tagBytes s v).length = 4 := by
  unfold tagBytes
  split <;> rfl

theorem reentryBytes_length (s : State) (e : Nat × Slot) : (reentryBytes s e).length = 4 := by
  simp [reentryBytes]

theorem readmissionBytes_length (s : State) (e : Nat × FlowIdx) : (readmissionBytes s e).length = 8 := by
  simp [readmissionBytes]

/-- A body of entries of one length. -/
theorem length_flatMap_of_length {α : Type} {g : α → List Byte} {k : Nat} (h : ∀ a, (g a).length = k) (l : List α) :
    (l.flatMap g).length = k * l.length := by
  simp [List.length_flatMap, h, Nat.mul_comm]

theorem entriesFrom_length {α : Type} (l : List α) (start count : Nat) :
    (entriesFrom l start count).length = min count (l.length - start) := by
  simp [entriesFrom]

/-- The tags of a READ_TAGS are those from the start tag up to the count, or to tag 4095 (R94). -/
theorem tagsRead_length {start : Nat} (h : start ≤ 4095) (count : Nat) :
    (tagsRead start count).length = min (min count 64) (4096 - start) := by
  have kept (n : Nat) : ((List.range n).filterMap fun j =>
      if h : start + j < 4096 then some (⟨start + j, h⟩ : Tag) else none).length = min n (4096 - start) := by
    induction n with
    | zero => simp
    | succ n ih =>
      rw [List.range_succ, List.filterMap_append, List.length_append, ih]
      by_cases hn : start + n < 4096
      · simp [hn]; omega
      · simp [hn]; omega
  exact kept _

/-! ### The nine reads -/

/-- A read of the body length its code asks for is answered, and nothing else changes (R179). -/
theorem State.runRead_length {s : State} {src : Mac} {code : Byte} {len : Nat} {body : List Byte}
    {read : State → Status × List Byte} (h : body.length = len) :
    s.runRead src code len body read = s.complete src body ⟨code, (read s).1, (read s).2⟩ := by
  rw [State.runRead, if_neg (not_not.mpr h)]

/-- The answer of a read: a status and a result body of a length, and no other change. -/
theorem answer_read {s : State} {src : Mac} {code : Byte} {len n : Nat} {body : List Byte}
    {read : State → Status × List Byte} {st : Status} (h : body.length = len) (hs : (read s).1 = st)
    (hn : (read s).2.length = n) : ∃ l : List Byte, l.length = n ∧
      (Host.Outcome.next (s.runRead src code len body read) : Answer) = .next (s.complete src body ⟨code, st, l⟩) :=
  ⟨_, hn, hs ▸ congrArg _ (State.runRead_length h)⟩

theorem countStatus_eq (count limit : Nat) : countStatus count limit = if limit < count then .clamped else .ok := by
  simp [countStatus, okOr]

/-- A list's length and count stand before its entries. -/
theorem listBody_length {α : Type} {g : Nat × α → List Byte} {k : Nat} (hg : ∀ e, (g e).length = k) (l : List α)
    (start count : Nat) : (num16 l.length ++ num8 (entriesFrom l start count).length :: 0#8 ::
      (entriesFrom l start count).flatMap g).length = 4 + k * min count (l.length - start) := by
  simp only [List.length_append, List.length_cons, num16_length, length_flatMap_of_length hg, entriesFrom_length]
  omega

/-- Settles O58: each read answers the result body whose length its table gives. -/
theorem readsOnlyAnswer : Obligations.ReadsOnlyAnswer := by
  intro src body s answers
  refine ⟨fun hl => ⟨answer_read hl rfl (terminalBytes_length ..), fun h => ?_, fun h => ?_, fun h => ?_, fun h => ?_⟩,
    fun hl => ⟨answer_read hl rfl (sectorBytes_length s), answer_read hl rfl ?_,
      answer_read hl rfl (ledgerBytes_length s)⟩, ?_⟩
  · exact answer_read hl (by rw [flowOf_eq_none h]) (by rw [flowOf_eq_none h]; rfl)
  · have named : flowOf (nat16At body 0) = some ⟨nat16At body 0, by omega⟩ := flowOf_eq_some rfl
    exact answer_read hl (by rw [named]) (by rw [named]; exact flowBytes_length ..)
  · exact answer_read hl (by rw [profileOf_eq_none h]) (by rw [profileOf_eq_none h]; rfl)
  · have named : profileOf (nat8At body 0) = some ⟨nat8At body 0, by omega⟩ := profileOf_eq_some rfl
    exact answer_read hl (by rw [named]) (by rw [named]; exact profileBytes_length ..)
  · exact length_flatMap_of_length (fun c => contextBytes_length (s.ctx c)) allContexts
  · intro hl start count
    refine ⟨fun h => ?_, fun h => ?_, ?_, ?_⟩
    · exact answer_read hl (by rw [if_pos h]) (by rw [if_pos h]; rfl)
    · have hs : ¬ 4095 < nat16At body 0 := not_lt.mpr h
      refine answer_read hl (by rw [if_neg hs]; exact countStatus_eq ..) ?_
      rw [if_neg hs, List.length_cons, List.length_cons, length_flatMap_of_length (tagBytes_length s), tagsRead_length h]
      omega
    · exact answer_read hl (countStatus_eq ..) (listBody_length (reentryBytes_length s) _ start (min count 32))
    · exact answer_read hl (countStatus_eq ..) (listBody_length (readmissionBytes_length s) _ start (min count 64))

end Sys2Proof.Machine

namespace Sys2Proof.Machine

/-! ### Needs by the formula of R107 -/

/-- A sum over the items that pass a test is a sum with the others counted as 0. -/
theorem sum_map_filter {α : Type} (p : α → Prop) [DecidablePred p] (g : α → Nat) (l : List α) :
    ((l.filter fun a => decide (p a)).map g).sum = (l.map fun a => if p a then g a else 0).sum := by
  induction l with
  | nil => rfl
  | cons a rest ih => by_cases h : p a <;> simp [h, ih]

theorem sumCB_eq (s : State) (x : Direction) (extra l : List FlowIdx) : s.sumCB x extra l =
    ((l.filter fun f => decide ((s.flow f).dir = x ∧ ((s.flow f).state = .admitted ∨ f ∈ extra))).map
      fun f => (s.flow f).cb).sum := (sum_map_filter ..).symm

/-- The needs of a serviced terminal, from the CB summed upstream and downstream (R107). -/
theorem needWith_serviced {s : State} {i : Slot} {p : ProfIdx} (hs : (s.term i).state.serviced = true)
    (hc : (s.term i).current = some p) (extra : List FlowIdx) :
    s.needWith i .up extra = (if s.sumCB .up extra (s.chain i) = 0 then s.setup.m else
      max s.setup.m (priced (s.profile p) (s.sumCB .up extra (s.chain i)))) ∧
    s.needWith i .down extra = if s.sumCB .down extra (s.chain i) = 0 then 0 else
      priced (s.profile p) (s.sumCB .down extra (s.chain i)) := by
  have hp : s.pricing i = s.profile p := by rw [State.pricing, hc]
  simp only [State.needWith, hs, hp, if_true, and_self]

/-! ### Needs fall as flows are shed -/

/-- A priced need grows with the CB it prices. -/
theorem priced_mono (p : Profile) {m n : Nat} (h : m ≤ n) : priced p m ≤ priced p n :=
  Nat.add_le_add_left (Nat.div_le_div_right (by omega)) _

/-- A need grows with the flows counted. -/
theorem needWith_mono {s t : State} {i : Slot} {x : Direction} {extra extra' : List FlowIdx}
    (hs : (t.term i).state.serviced = (s.term i).state.serviced) (hc : (t.term i).current = (s.term i).current)
    (hl : t.chain i = s.chain i) (hm : t.setup.m = s.setup.m) (hp : t.profiles = s.profiles)
    (h : ∀ f, (t.counts x extra' f → s.counts x extra f) ∧ (t.flow f).cb = (s.flow f).cb) :
    t.needWith i x extra' ≤ s.needWith i x extra := by
  have hpr : t.pricing i = s.pricing i := by simp only [State.pricing, hc, profile_of_profiles hp]
  have hsum : t.sumCB x extra' (s.chain i) ≤ s.sumCB x extra (s.chain i) := by
    refine List.sum_le_sum fun f _ => ?_
    obtain ⟨hcount, hcb⟩ := h f
    rw [hcb]
    split_ifs with k k'
    · exact le_rfl
    · exact absurd (hcount k) k'
    · exact Nat.zero_le _
    · exact le_rfl
  have hcost := priced_mono (s.pricing i) hsum
  simp only [State.needWith, hs, hl, hm, hpr]
  split
  · cases x with
    | up => dsimp only; split_ifs <;> omega
    | down => dsimp only; split_ifs <;> omega
  · exact le_rfl

/-- Every terminal holds needs no smaller than those its ADMITTED flows are priced at (R107). -/
def Covers (s : State) : Prop := ∀ j x, s.needWith j x [] ≤ (s.term j).need x

section
variable {u v : State} {l : List FlowIdx}

/-- The flows ADMITTED after a run of sheds are those ADMITTED before that it has not shed. -/
theorem ShedRun.admitted_iff (h : ShedRun u v l) (g : FlowIdx) :
    (v.flow g).state = .admitted ↔ g ∉ l ∧ (u.flow g).state = .admitted := by
  rw [h.flow]
  by_cases hg : g ∈ l <;> simp [hg, Flow.shedded]

/-- A run of sheds has shed the flows of its list, ADMITTED as they were. -/
theorem ShedRun.wasShed_iff (h : ShedRun u v l) (g : FlowIdx) :
    WasShed u v g ↔ g ∈ l ∧ (u.flow g).state = .admitted := by
  rw [WasShed, ne_eq, h.admitted_iff]
  tauto

theorem ShedRun.needWith_le (h : ShedRun u v l) (j : Slot) (x : Direction) : v.needWith j x [] ≤ u.needWith j x [] := by
  refine needWith_mono (h.termFields j).2.2 (h.termFields j).2.1 (h.chain j)
    (congrArg Setup.m (h.same .setup (by decide))) (h.same .profiles (by decide)) fun f => ⟨?_, (h.fields f).2.2.2.2⟩
  simp only [State.counts, (h.fields f).2.2.2.1]
  exact fun ⟨hd, ha⟩ => ⟨hd, ha.imp_left fun ha => ((h.admitted_iff f).mp ha).2⟩

end

section
variable (s : State)

/-- The terminal of a flow shed holds the needs of R107. -/
theorem shedFlow_holdsNeeds {x : Direction} {f : FlowIdx} {j : Slot} (h : (s.flow f).bound = some j) :
    (s.shedFlow x f).holdsNeeds j := by
  have flow (g : FlowIdx) : (s.shedFlow x f).flow g = (s.withdraw f .shed).flow g := by
    rw [shedFlow_flow, withdraw_flow]; rfl
  have before : (s.withdraw f .shed).term j = s.term j := term_of_terms ((s.withdraw_same f .shed) .terms (by decide)) j
  have same := s.shedFlow_same x f
  have after := (shedFlow_run s x f).termFields j
  intro d
  have need : (s.shedFlow x f).needWith j d [] = (s.withdraw f .shed).needWith j d [] :=
    needWith_congr (by rw [before, after.2.2]) (by rw [before, after.2.1])
      (chain_congr (by rw [before, after.1]) fun g => congrArg _ (flow g)) (congrArg Setup.m (same .setup (by decide)))
      (same .profiles (by decide)) fun g _ => by simp only [State.counts, flow, and_self, iff_self]
  rw [need, shedFlow_term, if_pos h]
  cases d <;> rfl

/-- Where the needs held cover those priced, a shed leaves them so, and raises none. -/
theorem Covers.shedFlow {s : State} (h : Covers s) (x : Direction) (f : FlowIdx) :
    Covers (s.shedFlow x f) ∧ ∀ j d, ((s.shedFlow x f).term j).need d ≤ (s.term j).need d := by
  have run := shedFlow_run s x f
  have fall (j : Slot) (d : Direction) := (run.needWith_le j d).trans (h j d)
  have both (j : Slot) (d : Direction) : (s.shedFlow x f).needWith j d [] ≤ ((s.shedFlow x f).term j).need d ∧
      ((s.shedFlow x f).term j).need d ≤ (s.term j).need d := by
    by_cases hb : (s.flow f).bound = some j
    · have holds := shedFlow_holdsNeeds s (x := x) hb d
      exact ⟨holds.ge, holds.trans_le (fall j d)⟩
    · have ht : (s.shedFlow x f).term j = s.term j := by rw [shedFlow_term, if_neg hb]
      rw [ht]
      exact ⟨fall j d, le_rfl⟩
  exact ⟨fun j d => (both j d).1, fun j d => (both j d).2⟩

theorem Covers.shedAll (l : List FlowIdx) : ∀ {s : State}, Covers s →
    Covers (s.shedAll l) ∧ ∀ j d, ((s.shedAll l).term j).need d ≤ (s.term j).need d := by
  induction l with
  | nil => exact fun h => ⟨h, fun _ _ => le_rfl⟩
  | cons f rest ih =>
    intro s h
    obtain ⟨h1, n1⟩ := h.shedFlow (s.flow f).dir f
    obtain ⟨h2, n2⟩ := ih h1
    exact ⟨h2, fun j d => (n2 j d).trans (n1 j d)⟩

/-- Sheds raise no load where the needs held cover those priced (R108). -/
theorem Covers.shedAll_load {s : State} (h : Covers s) (hl : LoadsSound s) (l : List FlowIdx) (x : Direction) :
    (s.shedAll l).load x ≤ s.load x := by
  rw [(loadsSound_iff _).mp ((shedAll_run l s).loads hl), (loadsSound_iff _).mp hl]
  exact List.sum_le_sum fun j _ => (h.shedAll l).2 j x

/-! ### One direction brought within its capacity -/

theorem shedFirst_none {s : State} {l : List FlowIdx} (h : s.shedFirst l = none) : l = [] := by
  cases l with
  | nil => rfl
  | cons f rest =>
    rw [State.shedFirst] at h
    split at h
    · cases h
    · split at h <;> cases h

/-- The flow shed is no longer ADMITTED, and the others are as they were. -/
theorem admittedFlows_shedFlow {x : Direction} {f : FlowIdx} (hf : f ∈ s.admittedFlows x) :
    ((s.shedFlow x f).admittedFlows x).length < (s.admittedFlows x).length := by
  have run := shedFlow_run s x f
  have mem (g : FlowIdx) (hg : g ∈ (s.shedFlow x f).admittedFlows x) : g ≠ f ∧ g ∈ s.admittedFlows x := by
    rw [mem_admittedFlows, run.admitted_iff, (run.fields g).2.2.2.1, List.mem_singleton] at hg
    rw [mem_admittedFlows]
    exact ⟨hg.2.1, hg.1, hg.2.2⟩
  have nodup : (f :: (s.shedFlow x f).admittedFlows x).Nodup :=
    List.nodup_cons.mpr ⟨fun h => (mem f h).1 rfl, Table.keys_nodup ..⟩
  have sub : f :: (s.shedFlow x f).admittedFlows x ⊆ s.admittedFlows x :=
    List.cons_subset.mpr ⟨hf, fun g hg => (mem g hg).2⟩
  exact (nodup.subperm sub).length_le

end

/-- A bounded shedding ends within the capacity, or with no flow of its direction ADMITTED, where its bound is the number
of these at least (R110). -/
theorem shedLoop_fits (x : Direction) (n : Nat) : ∀ s : State, (s.admittedFlows x).length ≤ n →
    (State.shedLoop x n s).load x ≤ s.setup.capacity x ∨
      ∀ f, ((State.shedLoop x n s).flow f).dir = x → ((State.shedLoop x n s).flow f).state ≠ .admitted := by
  have none (s : State) (h : s.admittedFlows x = []) (f : FlowIdx) (hd : (s.flow f).dir = x) :
      (s.flow f).state ≠ .admitted := fun ha => by simpa [h] using (mem_admittedFlows s x f).mpr ⟨hd, ha⟩
  induction n with
  | zero => exact fun s h => .inr (none s (List.length_eq_zero_iff.mp (Nat.le_zero.mp h)))
  | succ n ih =>
    intro s h
    rw [State.shedLoop]
    split
    · next fits => exact .inl fits
    · split
      · next hf => exact .inr (none s (shedFirst_none hf))
      · next f hf =>
        have shorter := admittedFlows_shedFlow s (shedFirst_spec s _ f hf).1
        rw [← show (s.shedFlow x f).setup = s.setup from (s.shedFlow_same x f) .setup (by decide)]
        exact ih _ (by omega)

/-- A flow that a bounded shedding has shed goes before each that it left ADMITTED (R111). -/
theorem shedLoop_order (x : Direction) (n : Nat) : ∀ (s : State) (f g : FlowIdx),
    WasShed s (State.shedLoop x n s) f → ((State.shedLoop x n s).flow g).state = .admitted → (s.flow g).dir = x →
    ShedOrder s f g := by
  have same (s : State) (f : FlowIdx) (h : WasShed s s f) : False := h.2 h.1
  induction n with
  | zero => exact fun s f g h => (same s f h).elim
  | succ n ih =>
    intro s f g
    rw [State.shedLoop]
    split
    · exact fun h => (same s f h).elim
    · split
      · exact fun h => (same s f h).elim
      · next f' hf =>
        intro hw hg hd
        have run := shedFlow_run s x f'
        obtain ⟨l, e, -⟩ := shedLoop_takes x n (s.shedFlow x f')
        have kept := hg
        rw [e, (shedAll_run l _).admitted_iff, run.admitted_iff, List.mem_singleton] at kept
        obtain ⟨-, hne, ha⟩ := kept
        by_cases hff : f = f'
        · subst hff
          exact (shedFirst_spec s _ f hf).2 g ((mem_admittedFlows s x g).mpr ⟨hd, ha⟩) hne
        · rw [← run.order]
          exact ih _ f g ⟨(run.admitted_iff f).mpr ⟨by simpa using hff, hw.1⟩, hw.2⟩ hg
            ((run.fields g).2.2.2.1.trans hd)

/-- The last flow that a bounded shedding has shed was shed from a load above the capacity (R110). -/
theorem shedLoop_last (x : Direction) (n : Nat) : ∀ (s : State) (f : FlowIdx), WasShed s (State.shedLoop x n s) f →
    (∀ g, WasShed s (State.shedLoop x n s) g → g = f ∨ ShedOrder s g f) →
    ∃ pre, State.shedLoop x n s = (s.shedAll pre).shedFlow x f ∧ ((s.shedAll pre).flow f).state = .admitted ∧
      s.setup.capacity x < (s.shedAll pre).load x := by
  have same (s : State) (f : FlowIdx) (h : WasShed s s f) : False := h.2 h.1
  induction n with
  | zero => exact fun s f h => (same s f h).elim
  | succ n ih =>
    intro s f
    rw [State.shedLoop]
    split
    · exact fun h => (same s f h).elim
    · next full =>
      split
      · exact fun h => (same s f h).elim
      · next f' hf =>
        intro hw hlast
        have run := shedFlow_run s x f'
        obtain ⟨hmem, first⟩ := shedFirst_spec s _ f' hf
        obtain ⟨hd, ha⟩ := (mem_admittedFlows s x f').mp hmem
        obtain ⟨l, e, taken, -⟩ := shedLoop_takes x n (s.shedFlow x f')
        have before (g : FlowIdx) : ((s.shedFlow x f').flow g).state = .admitted ↔
            g ≠ f' ∧ (s.flow g).state = .admitted := by rw [run.admitted_iff, List.mem_singleton]
        by_cases hff : f = f'
        · subst hff
          have nil : l = [] := by
            refine List.eq_nil_iff_forall_not_mem.mpr fun g hg => ?_
            obtain ⟨hgd, hga⟩ := taken g hg
            obtain ⟨hne, hgs⟩ := (before g).mp hga
            have gone : WasShed s (State.shedLoop x n (s.shedFlow x f)) g :=
              ⟨hgs, by rw [e]; exact (((shedAll_run l _).wasShed_iff g).mpr ⟨hg, hga⟩).2⟩
            have hgd : (s.flow g).dir = x := (run.fields g).2.2.2.1.symm.trans hgd
            have order := first g ((mem_admittedFlows s x g).mpr ⟨hgd, hgs⟩) hne
            exact ShedOrder.irrefl s f (order.trans ((hlast g gone).resolve_left hne))
          exact ⟨[], by rw [e, nil]; rfl, ha, not_le.mp full⟩
        · obtain ⟨pre, e', ha', hcap⟩ := ih (s.shedFlow x f') f ⟨(before f).mpr ⟨hff, hw.1⟩, hw.2⟩
            fun g hg => run.order ▸ hlast g ⟨((before g).mp hg.1).2, hg.2⟩
          have cons : s.shedAll (f' :: pre) = (s.shedFlow x f').shedAll pre := hd ▸ rfl
          rw [show (s.shedFlow x f').setup = s.setup from (s.shedFlow_same x f') .setup (by decide)] at hcap
          exact ⟨f' :: pre, by rw [cons]; exact e', by rw [cons]; exact ha', by rw [cons]; exact hcap⟩

end Sys2Proof.Machine

namespace Sys2Proof.Machine

/-! ### One direction of a shedding -/

/-- How a shedding brings one direction within its capacity: between what it sheds of the other direction, before and
after (R110). -/
structure Phase (r t : State) (x : Direction) (before after : List FlowIdx) : Prop where
  ends : t = ((r.shedAll before).fit x).shedAll after
  other : ∀ f ∈ before ++ after, (r.flow f).dir ≠ x
  admitted : ∀ f ∈ after, (((r.shedAll before).fit x).flow f).state = .admitted

theorem shedToFit_phase (r : State) (x : Direction) : ∃ before after, Phase r r.shedToFit x before after := by
  obtain ⟨up, eu, tu, -⟩ := shedLoop_takes .up (r.admittedFlows .up).length r
  obtain ⟨down, ed, td, -⟩ := shedLoop_takes .down ((r.fit .up).admittedFlows .down).length (r.fit .up)
  have run : ShedRun r (r.fit .up) up := (show r.fit .up = _ from eu) ▸ shedAll_run up r
  cases x with
  | up => exact ⟨[], down, ed, fun f hf => by rw [← (run.fields f).2.2.2.1, (td f hf).1]; nofun, fun f hf => (td f hf).2⟩
  | down =>
    refine ⟨up, [], ?_, fun f hf => by rw [(tu f (by simpa using hf)).1]; nofun, nofun⟩
    rw [← show r.fit .up = r.shedAll up from eu]
    rfl

section
variable {r t : State} {x : Direction} {before after : List FlowIdx}

/-- The state at which the direction's phase begins, and the one at which it ends, hold the flows of the direction as the
shedding finds and leaves them. -/
theorem Phase.flow (h : Phase r t x before after) {f : FlowIdx} (hd : (r.flow f).dir = x) :
    (r.shedAll before).flow f = r.flow f ∧ ((r.shedAll before).fit x).flow f = t.flow f := by
  have hb : f ∉ before := fun hf => h.other f (List.mem_append_left _ hf) hd
  have ha : f ∉ after := fun hf => h.other f (List.mem_append_right _ hf) hd
  rw [h.ends, (shedAll_run after _).flow, if_neg ha, (shedAll_run before r).flow, if_neg hb]
  exact ⟨rfl, rfl⟩

theorem fit_run (s : State) (x : Direction) : ∃ l, s.fit x = s.shedAll l := by
  obtain ⟨l, e, -⟩ := shedLoop_takes x (s.admittedFlows x).length s
  exact ⟨l, e⟩

/-- The load is within its capacity at the end, or no flow of the direction is ADMITTED (R110). -/
theorem Phase.fits (h : Phase r t x before after) (hc : Covers r) (hl : LoadsSound r) :
    t.load x ≤ t.setup.capacity x ∨ ∀ f, (r.flow f).dir = x → (t.flow f).state ≠ .admitted := by
  obtain ⟨l, e⟩ := fit_run (r.shedAll before) x
  have run : ShedRun r ((r.shedAll before).fit x) (before ++ l) :=
    (shedAll_run before r).append (e ▸ shedAll_run l (r.shedAll before))
  have covers : Covers ((r.shedAll before).fit x) := e ▸ ((hc.shedAll before).1.shedAll l).1
  have setup : t.setup = (r.shedAll before).setup := by
    have tail := shedAll_run after ((r.shedAll before).fit x)
    rw [h.ends, show State.setup _ = _ from tail.same .setup (by decide)]
    exact State.fit_same _ x .setup (by decide)
  refine (shedLoop_fits x _ (r.shedAll before) le_rfl).imp (fun k => ?_) fun k f hd => ?_
  · rw [setup, h.ends]
    exact (covers.shedAll_load (run.loads hl) after x).trans k
  · rw [← (h.flow hd).2]
    exact k f ((run.fields f).2.2.2.1.trans hd)

/-- Between the ends of the phase as between those of the shedding, a flow of the direction has been shed. -/
theorem Phase.wasShed_iff (h : Phase r t x before after) {f : FlowIdx} (hd : (r.flow f).dir = x) :
    WasShed (r.shedAll before) ((r.shedAll before).fit x) f ↔ WasShed r t f := by
  rw [WasShed, WasShed, (h.flow hd).1, (h.flow hd).2]

/-- A flow shed goes before each of its direction that stayed ADMITTED (R111). -/
theorem Phase.order (h : Phase r t x before after) {f g : FlowIdx} (hf : WasShed r t f)
    (hg : (t.flow g).state = .admitted) (hfd : (r.flow f).dir = x) (hgd : (r.flow g).dir = x) : ShedOrder r f g := by
  rw [← (shedAll_run before r).order]
  refine shedLoop_order x _ _ f g ((h.wasShed_iff hfd).mpr hf) ?_ ?_
  · rw [← (h.flow hgd).2] at hg; exact hg
  · rw [(h.flow hgd).1, hgd]

/-- Two sums over the slots that differ in one term. -/
theorem sum_add_comm_of_ne {f g : Slot → Nat} {j : Slot} (h : ∀ k, k ≠ j → f k = g k) :
    ((List.finRange 256).map f).sum + g j = ((List.finRange 256).map g).sum + f j := by
  have rest : ∑ k ∈ Finset.univ.erase j, f k = ∑ k ∈ Finset.univ.erase j, g k :=
    Finset.sum_congr rfl fun k hk => h k (Finset.ne_of_mem_erase hk)
  rw [← Fin.sum_univ_def, ← Fin.sum_univ_def, ← Finset.add_sum_erase _ f (Finset.mem_univ j),
    ← Finset.add_sum_erase _ g (Finset.mem_univ j), rest]
  omega

/-- The load from which a flow was shed, by the needs of the end with the flow counted again: where the chains are sound
it is bound in one chain alone (R107, R108). -/
theorem ShedRun.load_before {u v : State} {l : List FlowIdx} (run : ShedRun u v l) (hc : ChainsSound u)
    (hn : NeedsSound u) (hl : LoadsSound u) (ha : ∀ g ∈ l, (u.flow g).state = .admitted) {f : FlowIdx} {j : Slot}
    (he : ∀ g, (u.flow g).dir = x → (g ∈ [f] ↔ g ∈ l)) (hb : (u.flow f).bound = some j) :
    u.load x + (v.term j).need x = v.load x + v.needWith j x [f] := by
  have elsewhere (k : Slot) (hk : k ≠ j) : v.needWith k x [f] = (v.term k).need x := by
    rw [run.needs hc k (.inl (hn k)) x]
    refine needWith_congr rfl rfl rfl rfl rfl fun g hg => ⟨?_, rfl⟩
    have hne : g ≠ f := by
      rintro rfl
      rw [run.chain, hc.1, hb] at hg
      exact hk (Option.some.inj hg).symm
    simp [State.counts, hne]
  have before (k : Slot) : (u.term k).need x = v.needWith k x [f] := by rw [hn k x, run.needWith ha he]
  rw [(loadsSound_iff u).mp hl, (loadsSound_iff v).mp (run.loads hl)]
  simp only [before]
  exact sum_add_comm_of_ne elsewhere

/-- No flow was shed once the load fitted (R110). -/
theorem Phase.noMore (h : Phase r t x before after) (hc : ChainsSound r) (hn : NeedsSound r) (hl : LoadsSound r)
    {f : FlowIdx} {j : Slot} (hd : (r.flow f).dir = x) (hf : WasShed r t f) (hb : (r.flow f).bound = some j)
    (hlast : ∀ g, WasShed r t g → (r.flow g).dir = x → g = f ∨ ShedOrder r g f) :
    t.setup.capacity x + (t.term j).need x < t.load x + t.needWith j x [f] := by
  obtain ⟨l, e, taken, -⟩ := shedLoop_takes x ((r.shedAll before).admittedFlows x).length (r.shedAll before)
  have start := shedAll_run before r
  have dirOf (g : FlowIdx) (hg : WasShed (r.shedAll before) ((r.shedAll before).fit x) g) : (r.flow g).dir = x := by
    rw [show (r.shedAll before).fit x = _ from e, (shedAll_run l _).wasShed_iff] at hg
    exact (start.fields g).2.2.2.1.symm.trans (taken g hg.1).1
  obtain ⟨pre, e', ha, hcap⟩ := shedLoop_last x _ (r.shedAll before) f ((h.wasShed_iff hd).mpr hf) fun g hg =>
    start.order ▸ hlast g ((h.wasShed_iff (dirOf g hg)).mp hg) (dirOf g hg)
  let u := (r.shedAll before).shedAll pre
  have toU : ShedRun r u (before ++ pre) := start.append (shedAll_run pre _)
  have fit : (r.shedAll before).fit x = u.shedFlow x f := e'
  have run : ShedRun u t ([f] ++ after) := by
    rw [h.ends, fit]
    exact (shedFlow_run u x f).append (shedAll_run after _)
  have admitted : ∀ g ∈ [f] ++ after, (u.flow g).state = .admitted := by
    intro g hg
    rcases List.mem_append.mp hg with hg | hg
    · rw [List.mem_singleton.mp hg]; exact ha
    · have k := h.admitted g hg
      rw [fit, (shedFlow_run u x f).admitted_iff] at k
      exact k.2
  have counted (g : FlowIdx) (hg : (u.flow g).dir = x) : g ∈ [f] ↔ g ∈ [f] ++ after := by
    have hno : g ∉ after := fun k =>
      h.other g (List.mem_append_right _ k) ((toU.fields g).2.2.2.1.symm.trans hg)
    simp [hno]
  have balance := run.load_before (toU.chainsSound hc) (fun k => toU.needs hc k (.inl (hn k))) (toU.loads hl) admitted
    counted ((toU.fields f).1.trans hb)
  have setup : t.setup = (r.shedAll before).setup :=
    (show t.setup = u.setup from run.same .setup (by decide)).trans (shedAll_run pre _ |>.same .setup (by decide))
  rw [setup]
  have hcap : (r.shedAll before).setup.capacity x < u.load x := hcap
  omega

end

/-! ### A shedding -/

section
variable {r : State}

/-- A shedding from sound loads and needs that cover (R110, R111). -/
theorem shedToFit_shedToFit (hc : Covers r) (hl : LoadsSound r) : ShedToFit r r.shedToFit := by
  obtain ⟨_, _, up⟩ := shedToFit_phase r .up
  obtain ⟨_, _, down⟩ := shedToFit_phase r .down
  obtain ⟨ups, downs, e, takes⟩ := shedToFit_takes r
  have run : ShedRun r r.shedToFit (ups ++ downs) := e ▸ shedAll_run _ r
  refine ⟨up.fits hc hl, down.fits hc hl, fun f => ?_, fun f g hf hg hd => ?_⟩
  · rw [run.flow]
    split
    · next hf => exact .inr ⟨takes.admitted f hf, rfl⟩
    · exact .inl rfl
  · rw [run.order]
    cases hx : (r.flow f).dir with
    | up => exact up.order hf hg hx (hd ▸ hx)
    | down => exact down.order hf hg hx (hd ▸ hx)

theorem shedToFit_shedNoMore (hc : ChainsSound r) (hn : NeedsSound r) (hl : LoadsSound r) :
    ShedNoMore r r.shedToFit := by
  intro f j hf hb hlast
  obtain ⟨ups, downs, e, -⟩ := shedToFit_takes r
  have run : ShedRun r r.shedToFit (ups ++ downs) := e ▸ shedAll_run _ r
  obtain ⟨_, _, phase⟩ := shedToFit_phase r (r.flow f).dir
  exact phase.noMore hc hn hl rfl hf hb fun g hg hd => run.order ▸ hlast g hg hd

end

/-! ### What a state before and a state after a shedding are read for -/

section
variable {s r v t : State} {i : Slot}

theorem ShedToFit.of_flows (h : ShedToFit r v) (hf : r.flows = s.flows) : ShedToFit s v := by
  simpa only [ShedToFit, WasShed, flow_of_flows hf] using h

theorem ShedNoMore.of_flows (h : ShedNoMore r v) (hf : r.flows = s.flows) : ShedNoMore s v := by
  simpa only [ShedNoMore, WasShed, flow_of_flows hf] using h

theorem Trails.flow (h : Trails v t i) (f : FlowIdx) : t.flow f = v.flow f :=
  flow_of_flows (h.same .flows (by decide)) f

theorem Trails.setup (h : Trails v t i) : t.setup = v.setup := h.same .setup (by decide)

theorem Trails.ledger (h : Trails v t i) : t.ledger = v.ledger := h.same .ledger (by decide)

theorem Trails.load (h : Trails v t i) (x : Direction) : t.load x = v.load x := by
  cases x <;> simp only [State.load, h.ledger]

theorem Trails.order (h : Trails v t i) : ShedOrder t = ShedOrder v := by
  funext f g
  simp only [ShedOrder, h.flow, h.current]

theorem Trails.wasShed (h : Trails v t i) (f : FlowIdx) : WasShed s t f ↔ WasShed s v f := by
  rw [WasShed, WasShed, h.flow]

theorem Trails.needWith (h : Trails v t i) (j : Slot) (x : Direction) (extra : List FlowIdx) :
    t.needWith j x extra = v.needWith j x extra :=
  needWith_congr (h.serviced j) (h.current j) (chain_congr (h.head j) fun f => by rw [h.flow])
    (congrArg Setup.m h.setup) (h.same .profiles (by decide)) fun f _ => by
      simp only [State.counts, h.flow, iff_self, and_self]

theorem ShedToFit.trails (h : ShedToFit s v) (k : Trails v t i) : ShedToFit s t := by
  simpa only [ShedToFit, k.setup, k.ledger, k.flow, k.order, k.wasShed] using h

theorem ShedNoMore.trails (h : ShedNoMore s v) (k : Trails v t i) : ShedNoMore s t := by
  simpa only [ShedNoMore, k.setup, k.load, k.order, k.wasShed, k.need, k.needWith] using h

theorem ShedTold.trails {m m' : Management} (h : ShedTold s v m m') (k : Trails v t i) : ShedTold s t m m' := by
  simpa only [ShedTold, k.setup, k.ledger, k.order, k.wasShed, k.needWith, shedNotices_congr k.current] using h

/-! ### One terminal moved -/

/-- The terminal repriced holds the needs of R107; the needs of the others stand, held and priced. -/
theorem MoveBase.reprice_needs {b : State} (h : MoveBase s b i) (j : Slot) (x : Direction) :
    (b.reprice i).holdsNeeds j ∨ ((b.reprice i).term j).need x = (s.term j).need x ∧
      (b.reprice i).needWith j x [] = s.needWith j x [] := by
  by_cases e : j = i
  · rw [e]
    exact .inl (reprice_need b i)
  · have ht : b.term j = s.term j := h.others j e
    have hflow (f : FlowIdx) : b.flow f = s.flow f := flow_of_flows (h.same .flows (by decide)) f
    refine .inr ⟨by rw [reprice_term, if_neg e, ht], ?_⟩
    rw [reprice_needWith]
    exact needWith_congr (by rw [ht]) (by rw [ht]) (chain_congr (by rw [ht]) fun f => by rw [hflow])
      (congrArg Setup.m (h.same .setup (by decide))) (h.same .profiles (by decide)) fun f _ => by
        simp only [State.counts, hflow, iff_self, and_self]

theorem MoveBase.covers {b : State} (h : MoveBase s b i) (k : Covers s) : Covers (b.reprice i) := by
  intro j x
  rcases h.reprice_needs j x with holds | ⟨held, priced⟩
  · exact (holds x).ge
  · rw [held, priced]
    exact k j x

theorem MoveBase.needsSound {b : State} (h : MoveBase s b i) (k : NeedsSound s) : NeedsSound (b.reprice i) := by
  intro j x
  rcases h.reprice_needs j x with holds | ⟨held, priced⟩
  · exact holds x
  · rw [held, priced]
    exact k j x

theorem MoveBase.flows {b : State} (h : MoveBase s b i) : (b.reprice i).flows = s.flows := h.same .flows (by decide)

/-- Where the needs held cover those priced, a terminal that moves leaves each load within its capacity or no flow of its
direction ADMITTED (R110, R111). -/
theorem Moved.shedToFit (h : Moved s t i) (hc : Covers s) : ShedToFit s t := by
  obtain ⟨b, base, trail⟩ := h
  exact ((shedToFit_shedToFit (base.covers hc) (reprice_loadsSound b i)).of_flows base.flows).trails trail

theorem Moved.shedNoMore (h : Moved s t i) (hc : ChainsSound s) (hn : NeedsSound s) : ShedNoMore s t := by
  obtain ⟨b, base, trail⟩ := h
  have chains : ChainsSound (b.reprice i) := (base.links.trans (reprice_quiet b i).links).chainsSound hc
  exact ((shedToFit_shedNoMore chains (base.needsSound hn) (reprice_loadsSound b i)).of_flows base.flows).trails trail

/-- The flows shed for a terminal that moves are listed and told, between RAMPING and IN_SERVICE where it enters service
(R117, R125). -/
theorem Moved.told (h : Moved s t i) : ∃ m m',
    (m = s.mgmt ∨ (∃ src, m = s.mgmt.controlledBy src) ∨ m = s.notified (.ramping i)) ∧ ShedTold s t m m' ∧
      (SameNotices m' t.mgmt ∨ SameNotices (m'.take s.setup.enable s.link.frame (.inService i)) t.mgmt) := by
  obtain ⟨b, base, trail⟩ := h
  have shed := shedBase_reprice rfl base.others base.same base.head base.inService
  obtain ⟨up, down, e, takes⟩ := shedToFit_takes (b.reprice i)
  have told := shed.told takes
  rw [← e] at told
  have same := State.shedToFit_same (b.reprice i)
  have setup : (b.reprice i).shedToFit.setup = s.setup := (same .setup (by decide)).trans (base.same .setup (by decide))
  have link : (b.reprice i).shedToFit.link = s.link := (same .link (by decide)).trans (base.same .link (by decide))
  refine ⟨b.mgmt, _, base.mgmt, told.trails trail, ?_⟩
  rw [← setup, ← link]
  exact trail.mgmt

end

/-- What a command's shedding says of a terminal that it leaves serviced at a profile it did not have before. -/
theorem StepKeeps.moved {s t : State} (h : StepKeeps s t) {i : Slot} (hs : (t.term i).state.serviced = true)
    (hc : (t.term i).current ≠ (s.term i).current) : Moved s t i := by
  rcases h.service with keeps | ⟨j, moved⟩
  · exact absurd (keeps i hs).2 hc
  · by_cases e : i = j
    · exact e ▸ moved
    · exact absurd (moved.others e) hc

/-- A FORCE_PROFILE of a valid profile within the ceiling is taken, for a terminal in service that is not FADING or is
sent to profile 0 (R51). -/
theorem checkForce_taken {s : State} {i : Slot} {n : Nat} {p : ProfIdx} (hp : p.val = n)
    (hs : (s.term i).state.serviced = true) (hv : (s.profile p).valid = true) (hc : p ≤ (s.term i).ceiling)
    (hf : (s.term i).state = .fading → p = 0) : checkForce i n s = .take .ok (fun s => s.force i p) [] := by
  have present : (s.term i).state ≠ .absent := fun h => by rw [h] at hs; cases hs
  have steady : ¬ ((s.term i).state = .fading ∧ p ≠ 0) := fun ⟨h, h0⟩ => h0 (hf h)
  rw [checkForce, if_neg present, profileOf_eq_some hp]
  simp [hs, hv, not_lt.mpr hc, steady]

/-- Settles O51: every change of a profile in service, and every entry to service, reprices one terminal and sheds flows
until the loads fit. -/
theorem sheddingEndsWhereTheLoadFits : Obligations.SheddingEndsWhereTheLoadFits := by
  refine ⟨?_, ?_, fun c i s t he hs hcur => ?_⟩
  · intro s i extra rate
    refine ⟨fun hs x => needWith_unserviced hs x extra, fun p hs hp => ?_⟩
    have need := needWith_serviced hs hp extra
    rw [sumCB_eq, sumCB_eq] at need
    exact need
  · intro src body s p hl hp i hs hv hc hf hcur covers
    have forced : (s.controlledBy src).force i p = (s.controlledBy src).changeProfile i p := if_neg hcur
    have moved : Moved s ((s.controlledBy src).force i p) i :=
      forced ▸ changeProfile_moved (moveBase_controlledBy s src i) p
    have same := (s.controlledBy_same src).then (State.force_same _ i p) (rs := [.terms, .flows, .ledger, .mgmt]) rfl rfl
    obtain ⟨up, down, flows, order⟩ := moved.shedToFit covers
    have fields (f : FlowIdx) : (((s.controlledBy src).force i p).flow f).bound = (s.flow f).bound ∧
        (((s.controlledBy src).force i p).flow f).cls = (s.flow f).cls := by
      rcases flows f with e | ⟨-, e⟩ <;> rw [e] <;> exact ⟨rfl, rfl⟩
    rw [show State.setup _ = s.setup from same .setup (by decide)] at up down
    refine ⟨_, answer_take hl (effect := fun s => s.force i p) (checkForce_taken hp hs hv hc hf), up, down, flows, ?_⟩
    intro f g ha hf hg hd
    have k := order f g ⟨ha, hf⟩ hg hd
    simp only [ShedOrder, (fields _).1, (fields _).2] at k
    exact k
  · have moved := (exec_keeps s he).moved hs hcur
    exact ⟨fun covers => ⟨moved.shedToFit covers, moved.shedNoMore⟩, moved.told⟩

end Sys2Proof.Machine

namespace Sys2Proof.Machine

/-! ### Grants taken by the REC (R66, R154) -/

section
variable {s : State} {g : Grant} {a : Attempt}

/-- A grant is taken where its context holds its terminal in the stage of its kind. -/
theorem takeGrant_taken (h : s.ctx g.ctx = some a) (ht : a.terminal = g.terminal) (hs : a.stage = g.kind.stages.1) :
    s.takeGrant g = s.setCtx g.ctx (some { a with
      stage := g.kind.stages.2, timer := some s.setup.tr, slotFrame := some g.frame }) := by
  simp only [State.takeGrant, h, ht, hs, and_self, if_true]

/-- A grant is dropped where its context is free, holds another terminal or stands in another stage. -/
theorem takeGrant_dropped (h : ∀ a, s.ctx g.ctx = some a → a.terminal = g.terminal → a.stage ≠ g.kind.stages.1) :
    s.takeGrant g = s := by
  unfold State.takeGrant
  split
  · rfl
  · next a ha => exact if_neg fun k => h a ha k.1 k.2

/-- GRANT_TAKE takes the oldest grant out of those handed, and then takes or drops it. -/
theorem exec_grantTake {rest : List Grant} (h : s.reentry.grants = g :: rest) :
    exec .grantTake s = .next ({ s with reentry := { s.reentry with grants := rest } }.takeGrant g) := by
  simp only [exec, execGrantTake, h]

end

/-- Settles O36: a grant is taken in the pending stage of its kind, and dropped otherwise. -/
theorem grantIsTakenOrDropped : Obligations.GrantIsTakenOrDropped := by
  intro s
  refine ⟨fun h => by simp only [exec, execGrantTake, h], ?_⟩
  intro g rest h dropped
  rw [exec_grantTake h]
  refine ⟨fun a ha ht => ⟨fun hk hs => ?_, fun hk hs => ?_⟩, fun hno => ?_⟩
  · rw [takeGrant_taken (s := dropped) ha ht (by rw [hk]; exact hs), hk]; rfl
  · rw [takeGrant_taken (s := dropped) ha ht (by rw [hk]; exact hs), hk]; rfl
  · refine congrArg _ (takeGrant_dropped (s := dropped) fun a ha ht hs => ?_)
    obtain ⟨hr, hp⟩ := hno a ha ht
    cases hk : g.kind with
    | ranging => exact hr ⟨hk, by rw [hs, hk]; rfl⟩
    | proving => exact hp ⟨hk, by rw [hs, hk]; rfl⟩

end Sys2Proof.Machine

namespace Sys2Proof.Machine

/-! ### A ranging report that is corrected -/

/-- The timing offset of a ranging report lies within its twelve bits (R188). -/
theorem readRanging_timing_range (b : List Byte) :
    -2048 ≤ (readRanging b).timing ∧ (readRanging b).timing ≤ 2047 := by
  have lo := BitVec.le_toInt ((word16At b 10).extractLsb' 0 12)
  have hi := BitVec.toInt_lt (x := (word16At b 10).extractLsb' 0 12)
  exact ⟨lo, Int.le_of_lt_add_one hi⟩

/-- The power offset of a ranging report lies within its seven bits (R188). -/
theorem readRanging_power_range (b : List Byte) :
    -64 ≤ (readRanging b).power ∧ (readRanging b).power ≤ 63 := by
  have lo := BitVec.le_toInt ((byteAt b 12).extractLsb' 0 7)
  have hi := BitVec.toInt_lt (x := (byteAt b 12).extractLsb' 0 7)
  exact ⟨lo, Int.le_of_lt_add_one hi⟩

/-- The timing correction is the negated offset, but for the lowest, whose negation twelve bits cannot hold (R70). -/
theorem timingCorrection_eq {t : Int} (h : -2048 ≤ t) : timingCorrection t = if t = -2048 then 2047 else -t := by
  unfold timingCorrection
  split <;> omega

/-- The power correction is the negated offset, but for the lowest, whose negation seven bits cannot hold (R70). -/
theorem powerCorrection_eq {p : Int} (h : -64 ≤ p) : powerCorrection p = if p = -64 then 63 else -p := by
  unfold powerCorrection
  split <;> omega

/-- The timing correction fills two bytes in two's complement (R188). -/
theorem timingCorrection_toInt {t : Int} (h : -2048 ≤ t ∧ t ≤ 2047) :
    (BitVec.ofInt 16 (timingCorrection t)).toInt = timingCorrection t := by
  unfold timingCorrection
  exact BitVec.toInt_ofInt_eq_self (by decide) (by omega) (by omega)

/-- The power correction fills one byte in two's complement (R188). -/
theorem powerCorrection_toInt {p : Int} (h : -64 ≤ p ∧ p ≤ 63) :
    (BitVec.ofInt 8 (powerCorrection p)).toInt = powerCorrection p := by
  unfold powerCorrection
  exact BitVec.toInt_ofInt_eq_self (by decide) (by omega) (by omega)

/-- A slot written in a byte is read back. -/
theorem slotOf_num8 (i : Slot) : slotOf (num8 i.val) = i :=
  Fin.ext ((BitVec.toNat_ofNat i.val 8).trans (Nat.mod_eq_of_lt i.isLt))

section
variable (i : Slot) (timing power : Int)

/-- The body of an ADJUST record names the slot (11.5). -/
theorem adjustRecord_slot : slotAt (adjustRecord i timing power).body 0 = i := by
  rw [adjustRecord, mkRecord_body]
  exact slotOf_num8 i

/-- The body of an ADJUST record holds the timing correction at offset 1 (11.5). -/
theorem adjustRecord_timing :
    word16At (adjustRecord i timing power).body 1 = BitVec.ofInt 16 (timingCorrection timing) := by
  rw [adjustRecord, mkRecord_body]
  exact word16_of_bytes _

/-- The body of an ADJUST record holds the power correction at offset 3 (11.5). -/
theorem adjustRecord_power : byteAt (adjustRecord i timing power).body 3 = BitVec.ofInt 8 (powerCorrection power) := by
  rw [adjustRecord, mkRecord_body]
  rfl

end

/-- With fewer than four rounds an ADJUST is sent and the context invites again (R70). -/
theorem adjust_again {s : State} {c : CtxNo} {a : Attempt} (h : a.adjusts < 4) (timing power : Int) :
    s.adjust c a timing power = (s.send (adjustRecord a.terminal timing power)).setCtx c (some { a with
      stage := .invitePending, timer := none, slotFrame := none, adjusts := a.adjusts + 1 }) :=
  if_pos h

/-- Settles O24: a report outside a window, of an attempt with rounds left, is answered by one ADJUST. -/
theorem rangingReportIsAdjusted : Obligations.RangingReportIsAdjusted := by
  intro r s c a hr hk b x h hw hp hc hid hq hout hadj
  have hi : a.terminal = b.slot := h.2.1
  have timing := readRanging_timing_range r.body
  have power := readRanging_power_range r.body
  have judged : s.judgeRanging c a b = s.adjust c a b.timing b.power :=
    judgeRanging_outside hp hc (by rw [hi]; exact hid) hq hout
  refine ⟨_, adjustRecord a.terminal b.timing b.power,
    exec_invitedReport hr hk h hw (judged.trans (adjust_again hadj _ _)), rfl, rfl, mkRecord_length _ _, ?_, ?_,
    (adjustRecord_slot _ _ _).trans hi, ?_, ?_, State.setCtx_ctx_same _ _ _,
    fun d hd => State.setCtx_ctx_other _ _ hd, ⟨rfl, rfl, rfl⟩,
    (s.send_same _).then (State.setCtx_same _ c _) rfl rfl⟩
  · rw [adjustRecord, mkRecord_crc, mkRecord_kind, mkRecord_length, mkRecord_body]
  · rw [adjustRecord, mkRecord_body]; rfl
  · rw [adjustRecord_timing, timingCorrection_toInt timing, timingCorrection_eq timing.1]
  · rw [adjustRecord_power, powerCorrection_toInt power, powerCorrection_eq power.1]

end Sys2Proof.Machine

namespace Sys2Proof.Machine

/-! ### What the bounds and the Re-entry Queue are read from -/

/-- The second state keeps the bounds of the queues, of the pacer credit and of the setup record. -/
structure KeepsBounds (s t : State) : Prop where
  queues : QueuesBounded s → QueuesBounded t
  credit : CreditBounded s → CreditBounded t
  setup : SetupSound s → SetupSound t

/-- The state of a terminal as the REC reads it: QUEUED and RANGING as they are, and ABSENT for every other. -/
def TermState.reentering : TermState → TermState
  | .queued => .queued
  | .ranging => .ranging
  | .absent | .parked | .down | .ramping | .inService | .fading => .absent

theorem TermState.reentering_queued {st : TermState} : st.reentering = .queued ↔ st = .queued := by
  cases st <;> decide

theorem TermState.reentering_ranging {st : TermState} : st.reentering = .ranging ↔ st = .ranging := by
  cases st <;> decide

/-- A serviced terminal is neither QUEUED nor RANGING. -/
theorem TermState.reentering_of_serviced {st : TermState} (h : st.serviced = true) : st.reentering = .absent := by
  rcases serviced_cases h with rfl | rfl | rfl <;> rfl

/-- The place of a terminal in the re-entry: QUEUED, RANGING, or neither. -/
def State.place (s : State) (i : Slot) : TermState := (s.term i).state.reentering

/-- The terminal whose attempt a context holds, if it is bound. -/
def State.holder (s : State) (c : CtxNo) : Option Slot := (s.ctx c).map Attempt.terminal

theorem holder_eq {s : State} {c : CtxNo} {a : Attempt} (h : s.ctx c = some a) : s.holder c = some a.terminal := by
  rw [State.holder, h, Option.map_some]

theorem holder_iff {s : State} {c : CtxNo} {i : Slot} : s.holder c = some i ↔ ∃ a, s.ctx c = some a ∧ a.terminal = i :=
  Option.map_eq_some_iff

/-- Between two states the queue, the places of the terminals and the terminals of the contexts are the same. -/
structure SamePlaces (s t : State) : Prop where
  queue : t.reentry.queue = s.reentry.queue
  place : ∀ i, t.place i = s.place i
  holder : ∀ c, t.holder c = s.holder c

/-- A change that keeps the bounds and moves no terminal into or out of the re-entry. -/
structure Routine (s t : State) : Prop extends KeepsBounds s t, SamePlaces s t

/-- What the Re-entry Queue, the places and the contexts say of one another (R58, R65). -/
theorem reentrySound_iff (s : State) : ReentrySound s ↔ s.reentry.queue.Nodup ∧
    (∀ i, i ∈ s.reentry.queue ↔ s.place i = .queued) ∧ (∀ i, s.place i = .ranging ↔ ∃ c, s.holder c = some i) ∧
    ∀ c d i, s.holder c = some i → s.holder d = some i → c = d := by
  simp only [ReentrySound, State.place, TermState.reentering_queued, TermState.reentering_ranging, holder_iff]
  refine and_congr_right fun _ => and_congr_right fun _ => and_congr_right fun _ => ⟨?_, ?_⟩
  · rintro h c d i ⟨a, ha, rfl⟩ ⟨b, hb, e⟩
    exact h c d a b ha hb e.symm
  · exact fun h c d a b ha hb e => h c d b.terminal ⟨a, ha, e⟩ ⟨b, hb, rfl⟩

section
variable {s t u : State} {ps : List Part}

theorem SamePlaces.sound (h : SamePlaces s t) (k : ReentrySound s) : ReentrySound t := by
  rw [reentrySound_iff] at k ⊢
  simpa only [h.queue, h.place, h.holder] using k

theorem KeepsBounds.refl (s : State) : KeepsBounds s s := ⟨id, id, id⟩

theorem KeepsBounds.trans (h : KeepsBounds s t) (k : KeepsBounds t u) : KeepsBounds s u :=
  ⟨k.queues ∘ h.queues, k.credit ∘ h.credit, k.setup ∘ h.setup⟩

theorem Routine.refl (s : State) : Routine s s := ⟨.refl s, rfl, fun _ => rfl, fun _ => rfl⟩

theorem Routine.trans (h : Routine s t) (k : Routine t u) : Routine s u where
  toKeepsBounds := h.toKeepsBounds.trans k.toKeepsBounds
  queue := k.queue.trans h.queue
  place i := (k.place i).trans (h.place i)
  holder c := (k.holder c).trans (h.holder c)

theorem Routine.foldl {α : Type} {g : State → α → State} (h : ∀ s a, Routine s (g s a)) (l : List α) :
    ∀ s, Routine s (l.foldl g s) := by
  induction l with
  | nil => exact Routine.refl
  | cons a rest ih => exact fun s => (h s a).trans (ih _)

theorem Routine.ite {c : Prop} [Decidable c] (h : Routine s t) (k : Routine s u) : Routine s (if c then t else u) := by
  split
  · exact h
  · exact k

/-- The parts that neither the bounds nor the places are read from. -/
def quietParts : List Part := [.pending, .straps, .profiles, .flows, .tags, .ledger, .buffer, .resultStamp, .counters]

/-- The bounds are read from the Management Agent, the transmitter, the REC, the SLI and the setup record alone. -/
theorem SameBut.bounds (h : SameBut ps s t) (hp : (ps.all fun p => (.terms :: quietParts).contains p) = true) :
    KeepsBounds s t := by
  have same := h.mono hp
  have reentry : t.reentry = s.reentry := same .reentry (by decide)
  exact ⟨fun k => by rwa [QueuesBounded, show t.mgmt = s.mgmt from same .mgmt (by decide),
      show t.tx = s.tx from same .tx (by decide)],
    fun k => by rwa [CreditBounded, reentry, show t.link = s.link from same .link (by decide)],
    fun k => by rwa [SetupSound, show t.setup = s.setup from same .setup (by decide)]⟩

/-- A change of terminals that keeps their places. -/
theorem SameBut.routine_of_places (h : SameBut ps s t) (hp : (ps.all fun p => (.terms :: quietParts).contains p) = true)
    (places : ∀ i, t.place i = s.place i) : Routine s t := by
  have reentry : t.reentry = s.reentry := h.mono hp .reentry (by decide)
  exact ⟨h.bounds hp, congrArg Reentry.queue reentry, places,
    fun c => congrArg (Option.map Attempt.terminal) (ctx_of_reentry reentry c)⟩

/-- A change of parts that the bounds and the places are not read from. -/
theorem SameBut.routine (h : SameBut ps s t) (hp : (ps.all fun p => quietParts.contains p) = true) : Routine s t := by
  have same := h.mono hp
  exact same.routine_of_places rfl fun i =>
    congrArg (fun t => t.state.reentering) (term_of_terms (same .terms (by decide)) i)

end

section
variable (s : State)

/-- A change of one terminal that leaves its place as it was. -/
theorem modTerm_routine_at (i : Slot) {g : Terminal → Terminal}
    (h : (g (s.term i)).state.reentering = (s.term i).state.reentering) : Routine s (s.modTerm i g) :=
  (s.modTerm_same i g).routine_of_places rfl fun j => by
    rw [State.place, State.modTerm_term]
    split
    · next e => rw [e]; exact h
    · rfl

/-- A change of one terminal that leaves its state. -/
theorem modTerm_routine (i : Slot) {g : Terminal → Terminal} (h : ∀ t, (g t).state = t.state := by exact fun _ => rfl) :
    Routine s (s.modTerm i g) := modTerm_routine_at s i (congrArg TermState.reentering (h _))

theorem modTerm_bounds (i : Slot) (g : Terminal → Terminal) : KeepsBounds s (s.modTerm i g) :=
  (s.modTerm_same i g).bounds rfl

theorem modFlow_routine (f : FlowIdx) (g : Flow → Flow) : Routine s (s.modFlow f g) :=
  (s.modFlow_same f g).routine rfl

theorem count_routine (g : SectorCounters → SectorCounters) : Routine s (s.count g) :=
  (s.count_same g).routine rfl

/-- A notice raised stays within the notice queue (R184). -/
theorem raise_routine (b : NoticeBody) : Routine s (s.raise b) where
  queues := fun ⟨hr, hn, hq⟩ => ⟨(congrArg List.length (Management.take_requests ..)).trans_le hr,
    Management.take_notices_le _ _ _ b hn, hq⟩
  credit := id
  setup := id
  queue := rfl
  place _ := rfl
  holder _ := rfl

/-- A context written with an attempt of the terminal it holds. -/
theorem setCtx_routine {c : CtxNo} {a : Attempt} {i : Slot} (h : s.holder c = some i)
    (hi : a.terminal = i := by rfl) : Routine s (s.setCtx c (some a)) where
  queues := id
  credit := id
  setup := id
  queue := rfl
  place _ := rfl
  holder d := by
    rw [State.holder, State.setCtx_ctx]
    split
    · next e => rw [e, h, Option.map_some, hi]
    · rfl

/-- A record handed for the modem (R170). -/
theorem send_routine (r : LinkRecord) : Routine s (s.send r) := ⟨⟨id, id, id⟩, rfl, fun _ => rfl, fun _ => rfl⟩

/-! ### Queues -/

theorem countMarker_routine (f : FlowIdx) (r : Bool) : Routine s (s.countMarker f r) := by
  simp only [State.countMarker]
  split
  · exact .refl s
  · exact .ite ((modFlow_routine s f _).trans (raise_routine _ _)) (modFlow_routine s f _)

/-- An entry taken out of a queue, its cells free and counted by the marker. -/
theorem dequeue_routine (f : FlowIdx) (g : Flow → Flow) (n : Nat) (r : Bool) :
    Routine s (((s.modFlow f g).freeUp n).countMarker f r) :=
  ((modFlow_routine s f g).trans ((State.freeUp_same _ n).routine rfl)).trans (countMarker_routine _ f r)

theorem releaseHead_routine (f : FlowIdx) : Routine s (s.releaseHead f) := by
  unfold State.releaseHead
  split
  · exact .refl s
  · exact dequeue_routine s f _ _ true

theorem discardStale_routine (f : FlowIdx) : Routine s (s.discardStale f) := by
  unfold State.discardStale
  split
  · exact .refl s
  · exact dequeue_routine s f _ _ false

theorem discardTail_routine (f : FlowIdx) : Routine s (s.discardTail f) := by
  unfold State.discardTail
  split
  · exact .refl s
  · next e _ =>
    have h : Routine s ((s.modFlow f fun r => { r with
        queue := r.queue.dropLast
        counters := { r.counters with full := satAdd r.counters.full 1 } }).freeUp e.cells) :=
      (modFlow_routine s f _).trans ((State.freeUp_same _ _).routine rfl)
    simp only []
    split
    · exact h
    · exact .ite (h.trans (countMarker_routine _ f false)) h

theorem trimTail_routine (f : FlowIdx) (n : Nat) : ∀ s : State, Routine s (State.trimTail f n s) := by
  induction n with
  | zero => exact .refl
  | succ n ih => exact fun s => .ite (.refl s) ((discardTail_routine s f).trans (ih _))

/-! ### Ledger -/

theorem reprice_routine (i : Slot) : Routine s (s.reprice i) :=
  (modTerm_routine s i).trans ((State.sumLoads_same _).routine rfl)

theorem repriceFlow_routine (f : FlowIdx) : Routine s (s.repriceFlow f) := by
  unfold State.repriceFlow
  split
  · exact reprice_routine s _
  · exact .refl s

/-- A flow that enters WAITING moves its terminal between serviced states at most (R19). -/
theorem noteWaiting_routine (i : Slot) : Routine s (s.noteWaiting i) := by
  unfold State.noteWaiting
  split
  case h_1 h => exact (modTerm_routine_at s i (by rw [h]; rfl)).trans (raise_routine _ _)
  case h_2 => exact modTerm_routine s i
  all_goals exact .refl s

theorem noteFlowWaiting_routine (f : FlowIdx) : Routine s (s.noteFlowWaiting f) := by
  unfold State.noteFlowWaiting
  split
  · exact noteWaiting_routine s _
  · exact .refl s

/-- The passage to IN_SERVICE of a terminal that is neither QUEUED nor RANGING (R19). -/
theorem toInService_routine {i : Slot} (h : s.place i = .absent) : Routine s (s.toInService i) :=
  (modTerm_routine_at s i (g := fun t => { t with state := .inService }) h.symm).trans (raise_routine _ _)

/-- Every terminal that a report makes IN_SERVICE was RAMPING (R19, R115). -/
theorem reportRamping_routine : Routine s s.reportRamping := by
  have places (i : Slot) : s.reportRamping.place i = s.place i := by
    rw [State.place, s.reportRamping_reported.1 i]
    split
    · next h => rw [State.place, show (s.term i).state = .ramping from h.1]; rfl
    · rfl
  have bounds (l : List Slot) : ∀ s : State, KeepsBounds s (l.foldl State.toInService s) := by
    induction l with
    | nil => exact .refl
    | cons i rest ih =>
      exact fun s => ((modTerm_bounds s i _).trans (raise_routine _ _).toKeepsBounds).trans (ih _)
  have same := s.reportRamping_same .reentry (by decide)
  exact ⟨bounds _ s, congrArg Reentry.queue same, places,
    fun c => congrArg (Option.map Attempt.terminal) (ctx_of_reentry same c)⟩

theorem shedFlow_routine (x : Direction) (f : FlowIdx) : Routine s (s.shedFlow x f) :=
  ((((s.withdraw_same f .shed).routine rfl).trans (repriceFlow_routine _ f)).trans (raise_routine _ _)).trans
    (noteFlowWaiting_routine _ f)

theorem shedLoop_routine (x : Direction) (n : Nat) : ∀ s : State, Routine s (State.shedLoop x n s) := by
  induction n with
  | zero => exact .refl
  | succ n ih =>
    intro s
    refine .ite (.refl s) ?_
    split
    · exact .refl s
    · exact (shedFlow_routine s x _).trans (ih _)

theorem shedToFit_routine : Routine s s.shedToFit := (shedLoop_routine .up _ s).trans (shedLoop_routine .down _ _)

theorem makeAdmitted_routine (i : Slot) (f : FlowIdx) : Routine s (s.makeAdmitted i f) :=
  (((modFlow_routine s f _).trans ((State.unlist_same _ f).routine rfl)).trans (reprice_routine _ i)).trans
    ((State.setMarker_same _ f).routine rfl)

theorem scanWalk_routine (l : List FlowIdx) : ∀ (done : List FlowIdx) (s : State),
    Routine s (State.scanWalk l done s).2 := by
  induction l with
  | nil => exact fun _ s => .refl s
  | cons f rest ih =>
    intro done s
    unfold State.scanWalk
    split_ifs
    · exact .refl s
    · split
      · exact ih done s
      · split_ifs
        · exact (makeAdmitted_routine s _ f).trans (ih _ _)
        · exact .refl s
        · exact ih done s

theorem scan_routine : Routine s s.scan := by
  have h := scanWalk_routine s.ledger.list [] s
  exact (Routine.ite h (h.trans (raise_routine _ _))).trans (reportRamping_routine _)

/-! ### Service -/

/-- A departure from service to a state that is neither QUEUED nor RANGING (R9, R12). -/
theorem leaveService_routine {i : Slot} (hs : (s.term i).state.serviced = true) {d : TermState}
    (hd : d.reentering = .absent) (c : Cause) (b : Bool) : Routine s (s.leaveService i d c b) := by
  have h : Routine s ((s.modTerm i fun t =>
      { t with state := d, current := none, beforeFade := none, dwell := 0, window := Window.cleared }).withdrawAll c
        (s.chain i)) :=
    (modTerm_routine_at s i (hd.trans (TermState.reentering_of_serviced hs).symm)).trans
      ((State.withdrawAll_same _ c _).routine rfl)
  exact (Routine.ite (h.trans ((State.discardShedQueues_same _ _).routine rfl)) h).trans (reprice_routine _ i)

theorem enterFading_routine (i : Slot) : Routine s (s.enterFading i) := by
  simp only [State.enterFading]
  split
  case h_1 h | h_2 h => exact (modTerm_routine_at s i (by rw [h]; rfl)).trans (raise_routine _ _)
  all_goals exact .refl s

theorem exitFading_routine {i : Slot} (h : (s.term i).state = .fading) : Routine s (s.exitFading i) := by
  simp only [State.exitFading]
  split <;> exact (modTerm_routine_at s i (by rw [h]; rfl)).trans (raise_routine _ _)

theorem changeProfile_routine (i : Slot) (p : ProfIdx) : Routine s (s.changeProfile i p) :=
  ((modTerm_routine s i).trans (reprice_routine _ i)).trans (shedToFit_routine _)

theorem judgeStep_routine (i : Slot) (p : ProfIdx) (q : Nat) (m t : Bool) : Routine s (s.judgeStep i p q m t) := by
  refine .ite (.ite (enterFading_routine s i) (changeProfile_routine s i _)) ?_
  split
  · exact .ite (.ite (changeProfile_routine s i _) (modTerm_routine s i)) (modTerm_routine s i)
  · exact modTerm_routine s i

theorem judgeResume_routine (i : Slot) (p : ProfIdx) (q : Nat) (m : Bool) : Routine s (s.judgeResume i p q m) :=
  .ite (modTerm_routine s i) (.refl s)

theorem takeResult_routine (i : Slot) (q : Nat) (m t : Bool) : Routine s (s.takeResult i q m t) := by
  unfold State.takeResult
  split
  · exact .refl s
  · split
    case h_1 | h_2 => exact (judgeResume_routine s i _ q m).trans (judgeStep_routine _ i _ q m t)
    case h_3 h => exact .ite (exitFading_routine s h) (modTerm_routine s i)
    all_goals exact .refl s

theorem fadeReport_routine (i : Slot) : Routine s (s.fadeReport i) := by
  unfold State.fadeReport
  split
  · exact .refl s
  · exact .ite (enterFading_routine s i) (changeProfile_routine s i 0)

theorem completeWindow_routine (i : Slot) : Routine s (s.completeWindow i) := by
  unfold State.completeWindow
  exact ((modTerm_routine s i).trans (takeResult_routine _ i _ _ _)).trans (modTerm_routine _ i)

theorem completeIfFull_routine (i : Slot) : Routine s (s.completeIfFull i) :=
  .ite (completeWindow_routine s i) (.refl s)

theorem takeSample_routine (i : Slot) (n : Nat) (g : Bool) : Routine s (s.takeSample i n g) :=
  (modTerm_routine s i).trans (completeIfFull_routine _ i)

/-! ### Release -/

theorem sweepHeads_routine (n : FrameNo) (f : FlowIdx) (k : Nat) :
    ∀ s : State, Routine s (State.sweepHeads n f k s) := by
  induction k with
  | zero => exact .refl
  | succ k ih => exact fun s => .ite ((discardStale_routine s f).trans (ih _)) (.refl s)

theorem summarize_routine (f : FlowIdx) (k : Nat) : Routine s (s.summarize f k) := .ite (.refl s) (raise_routine s _)

theorem sweep_routine (n : FrameNo) : Routine s (s.sweep n) :=
  (Routine.foldl (fun s f => sweepHeads_routine n f _ s) _ s).trans (.foldl (fun s f => summarize_routine s f _) _ _)

theorem Pass.release_routine (p : Pass) (i : Slot) (f : FlowIdx) (e : QEntry) (b : Bool) :
    Routine p.state (p.release i f e b).state :=
  .ite ((releaseHead_routine p.state f).trans (modFlow_routine _ f _)) (releaseHead_routine p.state f)

theorem releaseCommitted_routine (i : Slot) (f : FlowIdx) (n : Nat) :
    ∀ p : Pass, Routine p.state (releaseCommitted i f n p).state := by
  induction n with
  | zero => exact fun p => .refl p.state
  | succ n ih =>
    intro p
    unfold releaseCommitted
    split
    · exact .refl p.state
    · split_ifs
      · exact (p.release_routine i f _ true).trans (ih _)
      · exact .refl p.state

theorem releaseExcess_routine (i : Slot) (f : FlowIdx) (n : Nat) :
    ∀ p : Pass, Routine p.state (releaseExcess i f n p).state := by
  induction n with
  | zero => exact fun p => .refl p.state
  | succ n ih =>
    intro p
    unfold releaseExcess
    split
    · exact .refl p.state
    · split_ifs
      · exact (p.release_routine i f _ false).trans (ih _)
      · exact .refl p.state

theorem runPass_routine {one : Slot → FlowIdx → Nat → Pass → Pass}
    (h : ∀ i f n p, Routine p.state (one i f n p).state) (l : List FlowIdx) :
    ∀ p : Pass, Routine p.state (runPass one l p).state := by
  induction l with
  | nil => exact fun p => .refl p.state
  | cons f rest ih =>
    intro p
    have hone : Routine p.state (match (p.state.flow f).bound with
        | some i => one i f (p.state.flow f).queue.length p
        | none => p).state := by
      split
      · exact h _ f _ p
      · exact .refl p.state
    exact hone.trans (ih _)

theorem releaseFrame_routine (n : FrameNo) : Routine s (s.releaseFrame n) :=
  (((((s.setStamp_same n).routine rfl).trans (sweep_routine _ n)).trans ((State.stepCredit_same _).routine rfl)).trans
    ((runPass_routine releaseCommitted_routine _ ⟨_, _, []⟩).trans (runPass_routine releaseExcess_routine _ _))).trans
    (.foldl (fun s _ => send_routine s _) _ _)

theorem staleOnce_routine (f : FlowIdx) : Routine s (s.staleOnce f) := by
  unfold State.staleOnce
  split
  · exact .ite ((discardStale_routine s f).trans (summarize_routine _ f 1)) (.refl s)
  · exact .refl s

end

end Sys2Proof.Machine

namespace Sys2Proof.Machine

/-! ### A terminal apart from the re-entry -/

/-- The re-entry is sound but for one terminal, which stands in no queue and holds no context, whatever its state. -/
structure Apart (s : State) (i : Slot) : Prop where
  nodup : s.reentry.queue.Nodup
  unqueued : i ∉ s.reentry.queue
  unbound : ∀ c, s.holder c ≠ some i
  queued : ∀ j, j ≠ i → (j ∈ s.reentry.queue ↔ s.place j = .queued)
  ranging : ∀ j, j ≠ i → (s.place j = .ranging ↔ ∃ c, s.holder c = some j)
  distinct : ∀ c d j, s.holder c = some j → s.holder d = some j → c = d

/-- A change after which the bounds hold and the re-entry is sound, where they did before. -/
structure Kept (s t : State) : Prop extends KeepsBounds s t where
  sound : ReentrySound s → ReentrySound t

/-- A change that gives a terminal apart from the re-entry its place. -/
structure Settles (i : Slot) (s t : State) : Prop extends KeepsBounds s t where
  sound : Apart s i → ReentrySound t

section
variable {s t u : State} {i : Slot}

/-- A terminal that is neither QUEUED nor RANGING is apart from a sound re-entry. -/
theorem ReentrySound.apart (h : ReentrySound s) (hi : s.place i = .absent) : Apart s i := by
  obtain ⟨hn, hq, hr, hd⟩ := (reentrySound_iff s).mp h
  refine ⟨hn, fun k => ?_, fun c k => ?_, fun j _ => hq j, fun j _ => hr j, hd⟩
  · exact nomatch hi.symm.trans ((hq i).mp k)
  · exact nomatch hi.symm.trans ((hr i).mpr ⟨c, k⟩)

/-- A terminal apart that is neither QUEUED nor RANGING leaves the re-entry sound. -/
theorem Apart.sound (h : Apart s i) (hi : s.place i = .absent) : ReentrySound s := by
  refine (reentrySound_iff s).mpr ⟨h.nodup, fun j => ?_, fun j => ?_, h.distinct⟩
  · by_cases e : j = i
    · rw [e, hi]; exact ⟨fun k => absurd k h.unqueued, nofun⟩
    · exact h.queued j e
  · by_cases e : j = i
    · rw [e, hi]; exact ⟨nofun, fun ⟨c, k⟩ => absurd k (h.unbound c)⟩
    · exact h.ranging j e

/-- A terminal stays apart whatever becomes of its own record. -/
theorem Apart.of_others (h : Apart s i) (hq : t.reentry.queue = s.reentry.queue) (hc : ∀ c, t.holder c = s.holder c)
    (ho : ∀ j, j ≠ i → t.place j = s.place j) : Apart t i where
  nodup := hq ▸ h.nodup
  unqueued := hq ▸ h.unqueued
  unbound c := hc c ▸ h.unbound c
  queued j hj := by rw [hq, ho j hj]; exact h.queued j hj
  ranging j hj := by simp only [hc, ho j hj]; exact h.ranging j hj
  distinct := by simp only [hc]; exact h.distinct

theorem Apart.modTerm (h : Apart s i) (g : Terminal → Terminal) : Apart (s.modTerm i g) i :=
  h.of_others rfl (fun _ => rfl) fun _ hj => congrArg (fun t => t.state.reentering) (State.modTerm_term_other s g hj)

/-- A QUEUED terminal taken out of the queue is apart (R60). -/
theorem ReentrySound.unqueue (h : ReentrySound s) (hi : s.place i = .queued) : Apart (s.unqueue i) i := by
  obtain ⟨hn, hq, hr, hd⟩ := (reentrySound_iff s).mp h
  have mem (j : Slot) : j ∈ (s.unqueue i).reentry.queue ↔ j ∈ s.reentry.queue ∧ j ≠ i := by
    simp [State.unqueue]
  refine ⟨hn.filter _, fun k => ((mem i).mp k).2 rfl, fun c k => ?_, fun j hj => ?_, fun j _ => hr j, hd⟩
  · exact nomatch hi.symm.trans ((hr i).mpr ⟨c, k⟩)
  · rw [mem, and_iff_left hj]; exact hq j

/-- The terminal of a context that is freed is apart (R75). -/
theorem ReentrySound.freed (h : ReentrySound s) {c : CtxNo} (hc : s.holder c = some i) :
    Apart (s.setCtx c none) i := by
  obtain ⟨hn, hq, hr, hd⟩ := (reentrySound_iff s).mp h
  have hi : s.place i = .ranging := (hr i).mpr ⟨c, hc⟩
  have holder (d : CtxNo) : (s.setCtx c none).holder d = if d = c then none else s.holder d := by
    rw [State.holder, State.setCtx_ctx]
    split <;> rfl
  have bound {d : CtxNo} {j : Slot} : (s.setCtx c none).holder d = some j ↔ d ≠ c ∧ s.holder d = some j := by
    rw [holder]
    split
    · next e => exact ⟨nofun, fun k => absurd e k.1⟩
    · next e => exact ⟨fun k => ⟨e, k⟩, And.right⟩
  refine ⟨hn, fun k => ?_, fun d k => ?_, fun j _ => hq j, fun j hj => (hr j).trans ?_, fun d e j k l => ?_⟩
  · exact nomatch hi.symm.trans ((hq i).mp k)
  · exact (bound.mp k).1 (hd d c i (bound.mp k).2 hc)
  · refine exists_congr fun d => ?_
    rw [bound, and_iff_right_of_imp]
    rintro k rfl
    exact hj (Option.some.inj (k.symm.trans hc))
  · exact hd d e j (bound.mp k).2 (bound.mp l).2

/-- A QUEUED terminal apart is placed in the queue (R59). -/
theorem Apart.placeReentry (h : Apart s i) (hi : s.place i = .queued) : ReentrySound (s.placeReentry i) := by
  have mem (j : Slot) : j ∈ (s.placeReentry i).reentry.queue ↔ j = i ∨ j ∈ s.reentry.queue := mem_placeByClass _ i j _
  have perm : (s.placeReentry i).reentry.queue.Perm (i :: s.reentry.queue) :=
    List.perm_middle.trans (.cons i (.of_eq List.takeWhile_append_dropWhile))
  refine (reentrySound_iff _).mpr ⟨perm.nodup_iff.mpr (List.nodup_cons.mpr ⟨h.unqueued, h.nodup⟩),
    fun j => ?_, fun j => ?_, h.distinct⟩
  · rw [mem]
    by_cases e : j = i
    · rw [e]; exact ⟨fun _ => hi, fun _ => .inl rfl⟩
    · rw [or_iff_right e]; exact h.queued j e
  · by_cases e : j = i
    · rw [e, show (s.placeReentry i).place i = .queued from hi]; exact ⟨nofun, fun ⟨c, k⟩ => absurd k (h.unbound c)⟩
    · exact h.ranging j e

/-- A terminal apart that becomes QUEUED is placed in the queue (R5, R59). -/
theorem Apart.makeQueued (h : Apart s i) : ReentrySound (s.makeQueued i) :=
  (h.modTerm _).placeReentry (by rw [State.place, State.modTerm_term_same]; rfl)

theorem Kept.refl (s : State) : Kept s s := ⟨.refl s, id⟩

theorem Kept.trans (h : Kept s t) (k : Kept t u) : Kept s u :=
  ⟨h.toKeepsBounds.trans k.toKeepsBounds, k.sound ∘ h.sound⟩

theorem Kept.ite {c : Prop} [Decidable c] (h : Kept s t) (k : Kept s u) : Kept s (if c then t else u) := by
  split
  · exact h
  · exact k

theorem Kept.foldl {α : Type} {g : State → α → State} (h : ∀ s a, Kept s (g s a)) (l : List α) :
    ∀ s, Kept s (l.foldl g s) := by
  induction l with
  | nil => exact Kept.refl
  | cons a rest ih => exact fun s => (h s a).trans (ih _)

theorem Routine.kept (h : Routine s t) : Kept s t := ⟨h.toKeepsBounds, h.toSamePlaces.sound⟩

/-- A routine change keeps a terminal apart that was so. -/
theorem Routine.apart (h : Routine s t) (k : Apart s i) : Apart t i := k.of_others h.queue h.holder fun j _ => h.place j

theorem Routine.settles (h : Routine s t) (k : Settles i t u) : Settles i s u :=
  ⟨h.toKeepsBounds.trans k.toKeepsBounds, fun a => k.sound (h.apart a)⟩

theorem Settles.routine (h : Settles i s t) (k : Routine t u) : Settles i s u :=
  ⟨h.toKeepsBounds.trans k.toKeepsBounds, fun a => k.toSamePlaces.sound (h.sound a)⟩

theorem Settles.ite {c : Prop} [Decidable c] (h : Settles i s t) (k : Settles i s u) :
    Settles i s (if c then t else u) := by
  split
  · exact h
  · exact k

/-- A terminal that is neither QUEUED nor RANGING may be given a place. -/
theorem Settles.kept (h : Settles i s t) (hi : s.place i = .absent) : Kept s t :=
  ⟨h.toKeepsBounds, fun k => h.sound (k.apart hi)⟩

end

section
variable (s : State)

/-- A terminal apart moved to a state that is neither QUEUED nor RANGING. -/
theorem modTerm_settles (i : Slot) {g : Terminal → Terminal} (h : (g (s.term i)).state.reentering = .absent) :
    Settles i s (s.modTerm i g) :=
  ⟨modTerm_bounds s i g, fun k => (k.modTerm g).sound (by rw [State.place, State.modTerm_term_same]; exact h)⟩

theorem makeQueued_settles (i : Slot) : Settles i s (s.makeQueued i) := ⟨⟨id, id, id⟩, Apart.makeQueued⟩

/-- A terminal that enters DOWN stays there or becomes QUEUED (R13). -/
theorem enterDown_settles (i : Slot) (n : Nat) (b : Bool) : Settles i s (s.enterDown i n b) := by
  have down : Settles i s ((s.modTerm i fun t => { t with state := .down, timer := some n, outageSeen := true }).raise
      (.down i)) := (modTerm_settles s i rfl).routine (raise_routine _ _)
  have bounds := down.toKeepsBounds.trans (makeQueued_settles _ i).toKeepsBounds
  exact .ite ⟨bounds, fun k => ((raise_routine _ _).apart (k.modTerm _)).makeQueued⟩ down

/-- The service entered: from RAMPING on, the terminal is neither QUEUED nor RANGING (R15). -/
theorem enterService_settles (i : Slot) (p : ProfIdx) : Settles i s (s.enterService i p) := by
  have ramping : Settles i s (s.modTerm i fun t => { t with
      state := .ramping, current := some p, failedAttempts := 0, dwell := 0
      window := Window.opening }) := modTerm_settles s i rfl
  have settled (u : State) (hu : u.place i = .absent) :
      Routine u (((u.raise (.ramping i)).reprice i).shedToFit.settled i) := by
    have shed := ((raise_routine u (.ramping i)).trans (reprice_routine _ i)).trans (shedToFit_routine _)
    exact shed.trans (.ite (.refl _) (toInService_routine _ ((shed.place i).trans hu)))
  exact ramping.routine (settled _ (by rw [State.place, State.modTerm_term_same]; rfl))

theorem failedDown_settles (i : Slot) : Settles i s (s.failedDown i) :=
  (modTerm_routine s i).settles (enterDown_settles _ i _ false)

/-- Each outcome gives the terminal of a freed context its place (R10, R15, R16, R75). -/
theorem takeOutcome_settles (i : Slot) (o : AttemptOutcome) (e : Option ProfIdx) (b : Bool) :
    Settles i s (s.takeOutcome i o e b) := by
  have h : Routine s (s.modTerm i fun t => { t with lastOutcome := some o }) := modTerm_routine s i
  cases o with
  | admitted => exact h.settles (enterService_settles _ i _)
  | parked => exact h.settles (modTerm_settles _ i (g := fun t => { t with state := .parked }) rfl)
  | sectorLost => exact h.settles (enterDown_settles _ i _ b)
  | noResponse | corrupt | weak | proveFailed | identityMismatch | adjustLimit =>
    exact h.settles (failedDown_settles _ i)

/-- The end of an attempt of the context that holds it (R75). -/
theorem endAttempt_kept {c : CtxNo} {a : Attempt} (h : s.holder c = some a.terminal) (o : AttemptOutcome) (b : Bool) :
    Kept s (s.endAttempt c a o b) := by
  have taken := takeOutcome_settles (s.setCtx c none) a.terminal o a.entryProfile b
  have freed : KeepsBounds s (s.setCtx c none) := ⟨id, id, id⟩
  have outcome : Kept s ((s.setCtx c none).takeOutcome a.terminal o a.entryProfile b) :=
    ⟨freed.trans taken.toKeepsBounds, fun k => taken.sound (k.freed h)⟩
  exact .ite (outcome.trans (raise_routine _ _).kept) outcome

theorem failContext_kept {c : CtxNo} {a : Attempt} (h : s.holder c = some a.terminal) (o : AttemptOutcome) (g : Stage) :
    Kept s (s.failContext c a o g) :=
  .ite (setCtx_routine s h).kept (endAttempt_kept s h o false)

theorem failProving_kept {c : CtxNo} {a : Attempt} (h : s.holder c = some a.terminal) : Kept s (s.failProving c a) :=
  failContext_kept s (a := { a with entryProfile := some 0 }) h _ _

/-! ### Reports and timers -/

theorem adjust_kept {c : CtxNo} {a : Attempt} (h : s.holder c = some a.terminal) (t p : Int) :
    Kept s (s.adjust c a t p) :=
  .ite ((send_routine s _).trans (setCtx_routine _ h)).kept (endAttempt_kept s h _ false)

theorem learnIdentity_routine (i : Slot) (d : Mac) : Routine s (s.learnIdentity i d) := by
  have h : Routine s (s.modTerm i fun t => { t with identity := some d }) := modTerm_routine s i
  refine .ite (.refl s) ?_
  split
  · exact .ite h (h.trans (raise_routine _ _))
  · exact h

theorem acceptRanging_kept {c : CtxNo} {a : Attempt} (h : s.holder c = some a.terminal) (r : RangingReport) :
    Kept s (s.acceptRanging c a r) := by
  have learnt := learnIdentity_routine s a.terminal r.identity
  rw [acceptRanging_eq]
  exact (learnt.trans (setCtx_routine _ ((learnt.holder c).trans h))).kept

theorem judgeRanging_kept {c : CtxNo} {a : Attempt} (h : s.holder c = some a.terminal) (r : RangingReport) :
    Kept s (s.judgeRanging c a r) :=
  .ite (endAttempt_kept s h _ _) <| .ite (failContext_kept s h _ _) <| .ite (endAttempt_kept s h _ _) <|
    .ite (failContext_kept s h _ _) <| .ite (adjust_kept s h _ _) (acceptRanging_kept s h r)

theorem judgeRangingMiss_kept {c : CtxNo} {a : Attempt} (h : s.holder c = some a.terminal) :
    Kept s (s.judgeRangingMiss c a) := .ite (endAttempt_kept s h _ _) (failContext_kept s h _ _)

theorem judgeProving_kept {c : CtxNo} {a : Attempt} (h : s.holder c = some a.terminal) (n : Nat) (g : Bool) :
    Kept s (s.judgeProving c a n g) := by
  have counted : Routine s (s.modTerm a.terminal fun t => { t with counters := t.counters.burst g }) :=
    modTerm_routine s a.terminal
  have held := (counted.holder c).trans h
  exact counted.kept.trans <| .ite (endAttempt_kept _ held _ _) <|
    .ite (endAttempt_kept _ held _ _) (failProving_kept _ held)

theorem judgeProvingMiss_kept {c : CtxNo} {a : Attempt} (h : s.holder c = some a.terminal) :
    Kept s (s.judgeProvingMiss c a) := by
  have counted : Routine s (s.modTerm a.terminal fun t => { t with counters := t.counters.miss }) :=
    modTerm_routine s a.terminal
  have held := (counted.holder c).trans h
  exact counted.kept.trans <| .ite (endAttempt_kept _ held _ _) (failProving_kept _ held)

theorem timeout_kept (c : CtxNo) : Kept s (s.timeout c) := by
  unfold State.timeout
  split
  · exact .refl s
  · next a ha =>
    have h := holder_eq ha
    refine .ite ?_ (.refl s)
    split
    · exact .ite (endAttempt_kept s h _ _) (failContext_kept s h _ _)
    · exact .ite (endAttempt_kept s h _ _) (failProving_kept s h)
    · exact .refl s
    · exact .refl s

theorem tickContext_kept (n : FrameNo) (c : CtxNo) : Kept s (State.tickContext n s c) := by
  unfold State.tickContext
  split
  · exact .refl s
  · next a ha =>
    refine .ite ?_ (.refl s)
    split
    · exact .refl s
    · exact (setCtx_routine s (holder_eq ha)).kept.trans (timeout_kept _ c)

/-! ### The pacer and the grants -/

/-- The head of the queue bound to a free context is RANGING (R63). -/
theorem bindTo_kept {i : Slot} {rest : List Slot} {c : CtxNo} (hq : s.reentry.queue = i :: rest)
    (hc : s.ctx c = none) : Kept s (s.bindTo i c) where
  queues := id
  credit := fun ⟨hle, hdown⟩ => ⟨(Nat.sub_le _ _).trans hle, fun k => by
    show s.reentry.credit - Config.bindCost = 0
    rw [hdown k, Nat.zero_sub]⟩
  setup := id
  sound h := by
    obtain ⟨hn, hm, hr, hd⟩ := (reentrySound_iff s).mp h
    rw [hq] at hn hm
    obtain ⟨hi, hn⟩ := List.nodup_cons.mp hn
    have queue : (s.bindTo i c).reentry.queue = rest := congrArg List.tail hq
    have hplace : s.place i = .queued := (hm i).mp (by simp)
    have holder (d : CtxNo) : (s.bindTo i c).holder d = if d = c then some i else s.holder d := by
      rw [State.holder, bindTo_ctx]
      split <;> rfl
    have place (j : Slot) : (s.bindTo i c).place j = if j = i then .ranging else s.place j := by
      rw [State.place, bindTo_term]
      split <;> rfl
    have free : s.holder c = none := by rw [State.holder, hc]; rfl
    have unbound (d : CtxNo) : s.holder d ≠ some i := fun k => nomatch hplace.symm.trans ((hr i).mpr ⟨d, k⟩)
    refine (reentrySound_iff _).mpr ⟨queue ▸ hn, fun j => ?_, fun j => ?_, fun d e j => ?_⟩
    · rw [queue, place]
      split
      · next k => rw [k]; exact ⟨fun l => absurd l hi, nofun⟩
      · next k => rw [← hm, List.mem_cons, or_iff_right k]
    · rw [place]
      split
      · next k => exact ⟨fun _ => ⟨c, by rw [holder, if_pos rfl, k]⟩, fun _ => rfl⟩
      · next k =>
        rw [hr]
        refine exists_congr fun d => ?_
        rw [holder]
        split
        · next l => rw [l, free]; exact ⟨nofun, fun m => absurd (Option.some.inj m).symm k⟩
        · rfl
    · rw [holder, holder]
      split <;> split
      · next k l => exact fun _ _ => k.trans l.symm
      · exact fun m n => absurd (m ▸ n) (unbound e)
      · exact fun m n => absurd (n ▸ m) (unbound d)
      · exact hd d e j

theorem bindLoop_kept (n : Nat) : ∀ s : State, Kept s (State.bindLoop n s) := by
  induction n with
  | zero => exact .refl
  | succ n ih =>
    intro s
    unfold State.bindLoop
    split
    · next i rest c hq hc =>
      have free : s.ctx c = none := Option.isNone_iff_eq_none.mp (List.find?_some (p := fun c => (s.ctx c).isNone) hc)
      exact .ite ((bindTo_kept s hq free).trans (ih _)) (.refl s)
    · exact .refl s

/-- The pacer earns no more than its cap, and nothing with the sector DOWN (R62). -/
theorem pace_kept : Kept s s.pace := by
  unfold State.pace
  split
  · next up =>
    have earned : Kept s (s.setCredit (min (s.reentry.credit + s.setup.pacer) Config.creditMax)) :=
      ⟨⟨id, fun _ => ⟨Nat.min_le_right _ _, fun k => nomatch up.symm.trans k⟩, id⟩, id⟩
    exact earned.trans (bindLoop_kept 4 _)
  · exact .refl s

theorem reecFrame_kept (n : FrameNo) : Kept s (s.reecFrame n) :=
  (Kept.foldl (fun s c => tickContext_kept s n c) _ s).trans (pace_kept _)

theorem takeGrant_routine (g : Grant) : Routine s (s.takeGrant g) := by
  unfold State.takeGrant
  split
  · exact .refl s
  · next a ha =>
    exact .ite (setCtx_routine s (holder_eq ha)) (.refl s)

/-- The grants handed to the REC are read neither by the bounds nor by the places. -/
theorem withGrants_routine (l : List Grant) : Routine s { s with reentry := { s.reentry with grants := l } } :=
  ⟨⟨id, id, id⟩, rfl, fun _ => rfl, fun _ => rfl⟩

theorem takeGrants_routine : Routine s s.takeGrants :=
  (withGrants_routine s []).trans (.foldl takeGrant_routine _ _)

theorem buildGrants_routine (n : FrameNo) : Routine s (s.buildGrants n) :=
  (send_routine s _).trans (withGrants_routine _ _)

end

end Sys2Proof.Machine

namespace Sys2Proof.Machine

section
variable (s : State)

/-! ### Departures from service and the sector's loss -/

/-- An outage of a serviced terminal (R12). -/
theorem outage_kept {i : Slot} (h : (s.term i).state.serviced = true) (b : Bool) : Kept s (s.outage i b) := by
  have left : Routine s (s.leaveService i .down .outage (!b)) := leaveService_routine s h rfl _ _
  have down (u : State) (n : Nat) : Settles i u ((u.modTerm i fun t =>
      { t with counters := { t.counters with outages := satAdd t.counters.outages 1 } }).enterDown i n b) :=
    (modTerm_routine u i).settles (enterDown_settles _ i n b)
  exact left.kept.trans ((down _ _).kept ((left.place i).trans (TermState.reentering_of_serviced h)))

theorem takeMiss_kept {i : Slot} (h : (s.term i).state.serviced = true) : Kept s (s.takeMiss i) := by
  have counted : Routine s (s.modTerm i fun t => { t with
      window := { t.window with misses := min (t.window.misses + 1) 255 }
      counters := t.counters.miss }) := modTerm_routine s i
  have served : ((s.modTerm i fun t => { t with
      window := { t.window with misses := min (t.window.misses + 1) 255 }
      counters := t.counters.miss }).term i).state.serviced = true := by rw [State.modTerm_term_same]; exact h
  exact .ite (counted.kept.trans (outage_kept _ served false)) <|
    .ite (counted.trans (fadeReport_routine _ i)).kept counted.kept

/-- The end of an attempt by the sector's loss or a restart: a RANGING terminal holds a context (R20, R22, R65). -/
theorem loseAttempt_kept {i : Slot} (h : (s.term i).state = .ranging) (b : Bool) : Kept s (s.loseAttempt i b) := by
  unfold State.loseAttempt
  split
  · next c a hc => exact endAttempt_kept s (holder_eq (contextOf_holds hc).1) _ b
  · next hc =>
    refine ⟨(takeOutcome_settles s i .sectorLost none b).toKeepsBounds, fun k => ?_⟩
    obtain ⟨-, -, ranging, distinct⟩ := k
    obtain ⟨c, a, ha, ht⟩ := (ranging i).mp h
    exact nomatch hc.symm.trans (contextOf_of_only ⟨ha, ht, fun d b hb e => distinct d c b a hb ha (e.trans ht.symm)⟩)

/-- A QUEUED terminal taken out of the queue into DOWN (R20, R22). -/
theorem unqueueDown_kept {i : Slot} (h : (s.term i).state = .queued) (n : Nat) (b : Bool) :
    Kept s ((s.unqueue i).enterDown i n b) := by
  have down := enterDown_settles (s.unqueue i) i n b
  have unqueued : KeepsBounds s (s.unqueue i) := ⟨id, id, id⟩
  exact ⟨unqueued.trans down.toKeepsBounds, fun k => down.sound (k.unqueue (by rw [State.place, h]; rfl))⟩

theorem loseTerminal_kept (i : Slot) : Kept s (s.loseTerminal i) := by
  unfold State.loseTerminal
  split
  case h_1 h | h_2 h | h_3 h => exact outage_kept s (by rw [h]; rfl) false
  case h_4 h => exact unqueueDown_kept s h _ false
  case h_5 h => exact loseAttempt_kept s h false
  all_goals exact .refl s

theorem restartTerminal_kept (i : Slot) : Kept s (s.restartTerminal i) := by
  unfold State.restartTerminal
  split
  case h_1 h | h_2 h | h_3 h => exact outage_kept s (by rw [h]; rfl) true
  case h_4 h => exact unqueueDown_kept s h _ true
  case h_5 h => exact loseAttempt_kept s h true
  case h_6 h => exact (enterDown_settles s i _ true).kept (by rw [State.place, h]; rfl)
  all_goals exact .refl s

/-- A terminal placed by the sector's loss or a restart is neither QUEUED nor RANGING (R20, R22). -/
theorem lost_reentering (i : Slot) : (s.lost i).state.reentering = .absent := by
  unfold State.lost
  split
  case h_5 => split <;> rfl
  case h_1 h | h_2 h => rw [h]; rfl
  all_goals rfl

/-- Where the terminals placed are all those QUEUED or RANGING, none is so afterwards. -/
theorem LostAll.place {s t : State} {l : List Slot} (h : LostAll s t l)
    (hl : ∀ j, j ∉ l → s.place j = .absent) (j : Slot) : t.place j = .absent := by
  rw [State.place, h.term]
  split
  · exact lost_reentering s j
  · next hj => exact hl j hj

/-- With the sector DOWN its loss leaves no terminal QUEUED or RANGING (R20). -/
theorem foldl_loseTerminal_place (h : s.link.sectorUp = false) (j : Slot) :
    (s.lossSlots.foldl State.loseTerminal s).place j = .absent := by
  have lossy (i : Slot) : i ∈ s.lossSlots ↔ (s.term i).state.lossy = true := by rw [lossSlots_eq]; simp
  have all := foldl_lost (σ := State.loseTerminal)
    (ok := fun s i => s.link.sectorUp = false ∧ (s.term i).state.lossy = true)
    (fun s i h => lostAt_loseTerminal h.1 h.2)
    (fun s i j hj h k => ⟨by rw [show (s.loseTerminal i).link = s.link from h.same .link (by decide)]; exact k.1,
      by rw [h.other j hj]; exact k.2⟩)
    s.lossSlots s (Table.keys_nodup _ _) fun i hi => ⟨h, (lossy i).mp hi⟩
  refine all.place (fun i hi => ?_) j
  rw [lossy] at hi
  rw [State.place]
  cases e : (s.term i).state <;> first | rfl | exact absurd (by rw [e]; rfl) hi

/-- A restart leaves no terminal QUEUED or RANGING (R22). -/
theorem foldl_restartTerminal_place (j : Slot) : (s.restartSlots.foldl State.restartTerminal s).place j = .absent := by
  have placed (i : Slot) : i ∈ s.restartSlots ↔ (s.term i).state ≠ .absent ∧ (s.term i).state ≠ .parked := by
    rw [restartSlots_eq]; simp
  have all := foldl_lost (σ := State.restartTerminal)
    (ok := fun s i => (s.term i).state ≠ .absent ∧ (s.term i).state ≠ .parked)
    (fun s i h => (restartTerminal_spec s i h).1) (fun s i j hj h k => by rw [h.other j hj]; exact k)
    s.restartSlots s (Table.keys_nodup _ _) fun i hi => (placed i).mp hi
  refine all.place (fun i hi => ?_) j
  rw [placed] at hi
  rw [State.place]
  cases e : (s.term i).state <;> first | rfl | exact absurd (by rw [e]; exact ⟨nofun, nofun⟩) hi

/-- The REC cleared holds no credit (R80, R82). -/
theorem clearReentry_bounds : KeepsBounds s s.clearReentry := ⟨id, fun _ => ⟨Nat.zero_le _, fun _ => rfl⟩, id⟩

/-- The REC cleared is sound where no terminal is QUEUED or RANGING. -/
theorem clearReentry_sound (h : ∀ i, s.place i = .absent) : ReentrySound s.clearReentry := by
  refine (reentrySound_iff _).mpr ⟨List.nodup_nil, fun i => ?_, fun i => ?_, nofun⟩
  · rw [show s.clearReentry.place i = .absent from h i]; exact ⟨nofun, nofun⟩
  · rw [show s.clearReentry.place i = .absent from h i]; exact ⟨nofun, nofun⟩

/-- The sector's loss: its credit is 0 whatever it was before (R80, R163). -/
theorem loseSector_kept : Kept s s.loseSector := by
  let v := ((s.setSectorUp false).count fun k => { k with sectorLosses := satAdd k.sectorLosses 1 }).raise .sectorDown
  have lost : Kept ((s.setSectorUp false).count fun k => { k with sectorLosses := satAdd k.sectorLosses 1 })
      (v.lossSlots.foldl State.loseTerminal v) := (raise_routine _ _).kept.trans (.foldl loseTerminal_kept _ v)
  exact ⟨⟨lost.queues, fun _ => ⟨Nat.zero_le _, fun _ => rfl⟩, lost.setup⟩,
    fun _ => clearReentry_sound _ (foldl_loseTerminal_place v rfl)⟩

/-! ### The sector link -/

/-- The SLI changed but for the sector state. -/
theorem withLink_routine (k : Link) (h : k.sectorUp = s.link.sectorUp := by rfl) : Routine s { s with link := k } :=
  ⟨⟨id, fun c => by rw [CreditBounded, h]; exact c, id⟩, rfl, fun _ => rfl, fun _ => rfl⟩

theorem countGap_routine (n : FrameNo) : Routine s (s.countGap n) := by
  unfold State.countGap
  split
  · exact .refl s
  · exact .ite (.refl s) ((count_routine s _).trans (raise_routine _ _))

theorem takeFrameStart_routine (n : FrameNo) : Routine s (s.takeFrameStart n) :=
  (countGap_routine s n).trans (withLink_routine _ _)

theorem takeSectorState_kept (u : Bool) : Kept s (s.takeSectorState u) := by
  have up : Kept s (s.setSectorUp true) := ⟨⟨id, fun k => ⟨k.1, nofun⟩, id⟩, id⟩
  exact .ite (.refl s) (.ite (up.trans (raise_routine _ _).kept) (loseSector_kept s))

/-- A change of the Management Agent, the transmitter and the sector counters that keeps the queues within bounds. -/
theorem routine_of_queues {t : State} (h : SameBut [.mgmt, .tx, .counters] s t)
    (k : QueuesBounded s → QueuesBounded t) : Routine s t where
  queues := k
  credit c := by
    rwa [CreditBounded, show t.reentry = s.reentry from h .reentry (by decide),
      show t.link = s.link from h .link (by decide)]
  setup c := by rwa [SetupSound, show t.setup = s.setup from h .setup (by decide)]
  queue := congrArg Reentry.queue (h .reentry (by decide))
  place i := congrArg (fun t => t.state.reentering) (term_of_terms (h .terms (by decide)) i)
  holder c := congrArg (Option.map Attempt.terminal) (ctx_of_reentry (h .reentry (by decide)) c)

/-- A transmitter that starts takes no packet into its queue. -/
theorem Transmitter.start_queue_le (t : Transmitter) : t.start.queue.length ≤ t.queue.length := by
  unfold Transmitter.start
  split
  · next h => rw [h]; exact Nat.le_succ _
  · exact le_rfl

/-- A packet handed where there is room leaves the transmit queue within its limit (R177). -/
theorem Transmitter.hand_queue_le {t : Transmitter} (h : t.hasRoom = true) (p : Packet) :
    (t.hand p).queue.length ≤ 64 := by
  refine (Transmitter.start_queue_le _).trans ?_
  rw [List.length_append]
  exact of_decide_eq_true h

theorem forwardPacket_routine (p : Packet) : Routine s (s.forwardPacket p) := by
  refine routine_of_queues s ((s.forwardPacket_same p).mono rfl) fun ⟨hr, hn, hq⟩ => ?_
  unfold State.forwardPacket
  split
  · next h => exact ⟨hr, hn, Transmitter.hand_queue_le h.2.2 p⟩
  · exact ⟨hr, hn, hq⟩

theorem takePayload_routine (r : BurstReport) : Routine s (s.takePayload r) :=
  .ite (.foldl forwardPacket_routine _ s) (count_routine s _)

/-- A context found for a proving report or miss holds its attempt (R165, R166). -/
theorem provingContext_holder {i : Slot} {p : Bool} {n : FrameNo} {c : CtxNo} {a : Attempt}
    (h : s.provingContext i p n = some (c, a)) : s.holder c = some a.terminal := by
  unfold State.provingContext at h
  split at h
  · next hc =>
    split at h <;> cases h
    exact holder_eq (contextOf_holds hc).1
  · cases h

/-- A context found for a ranging report or miss holds its attempt (R167). -/
theorem invitedContext_holder {i : Slot} {c : CtxNo} {a : Attempt} (h : s.invitedContext i = some (c, a)) :
    s.holder c = some a.terminal := by
  unfold State.invitedContext at h
  split at h
  · next hc =>
    split at h <;> cases h
    exact holder_eq (contextOf_holds hc).1
  · cases h

theorem takeBurst_kept (r : BurstReport) : Kept s (s.takeBurst r) := by
  refine .ite ((takeSample_routine s _ _ _).trans (takePayload_routine _ r)).kept ?_
  split
  · next h => exact (judgeProving_kept s (provingContext_holder s h) _ _).trans (count_routine _ _).kept
  · exact (count_routine s _).kept

theorem takeMissReport_kept (r : MissReport) : Kept s (s.takeMissReport r) := by
  unfold State.takeMissReport
  split
  · next h => exact takeMiss_kept s h
  · split
    · next h => exact judgeProvingMiss_kept s (provingContext_holder s h)
    · exact (count_routine s _).kept

theorem takeRanging_kept (r : RangingReport) : Kept s (s.takeRanging r) := by
  unfold State.takeRanging
  split
  · next h => exact judgeRanging_kept s (invitedContext_holder s h) r
  · exact (count_routine s _).kept

theorem takeRangingMiss_kept (i : Slot) : Kept s (s.takeRangingMiss i) := by
  unfold State.takeRangingMiss
  split
  · next h => exact judgeRangingMiss_kept s (invitedContext_holder s h)
  · exact (count_routine s _).kept

theorem takeRecord_kept (r : LinkRecord) : Kept s (s.takeRecord r) :=
  .ite (.ite (takeFrameStart_routine s _).kept <| .ite (takeBurst_kept s _) <| .ite (takeMissReport_kept s _) <|
    .ite (takeRanging_kept s _) <| .ite (takeRangingMiss_kept s _) (takeSectorState_kept s _)) (count_routine s _).kept

/-! ### The timers of DOWN terminals -/

theorem expireTimer_kept (i : Slot) : Kept s (s.expireTimer i) := by
  unfold State.expireTimer
  split
  · next h => exact (makeQueued_settles s i).kept (by rw [State.place, h.1]; rfl)
  · exact .refl s

theorem walkDown_kept : Kept s s.walkDown :=
  .foldl (fun s i => (modTerm_routine s i).kept.trans (expireTimer_kept _ i)) _ s

/-! ### The trunk and the Management Agent -/

/-- A request taken into the queue leaves it within its limit (R173). -/
theorem enqueueRequest_routine (p : Packet) : Routine s (s.enqueueRequest p) := by
  refine routine_of_queues s ((s.enqueueRequest_same p).mono rfl) fun ⟨hr, hn, hq⟩ => ?_
  unfold State.enqueueRequest
  split
  · next h => exact ⟨List.length_append.trans_le h, hn, hq⟩
  · exact ⟨hr, hn, hq⟩

theorem takePacket_routine (p : Packet) : Routine s (s.takePacket p) :=
  .ite (count_routine s _) (.ite (enqueueRequest_routine s p) ((s.classify_same p).routine rfl))

/-- A response is handed where there is room, and otherwise held (R177). -/
theorem respond_routine (p : Packet) : Routine s (s.respond p) := by
  refine routine_of_queues s ((s.respond_same p).mono rfl) fun ⟨hr, hn, hq⟩ => ?_
  unfold State.respond
  split
  · next h => exact ⟨(List.length_tail ▸ Nat.sub_le _ _).trans hr, hn, Transmitter.hand_queue_le h p⟩
  · exact ⟨hr, hn, hq⟩

/-- The active request, the last result and the controller address are in no queue. -/
theorem withMgmt_routine (m : Management) (hr : m.requests = s.mgmt.requests) (hn : m.notices = s.mgmt.notices) :
    Routine s { s with mgmt := m } :=
  ⟨⟨fun k => by rw [QueuesBounded, hr, hn]; exact k, id, id⟩, rfl, fun _ => rfl, fun _ => rfl⟩

theorem finishSending_routine : Routine s s.finishSending := by
  have finished : Routine s { s with tx := s.tx.finish } :=
    ⟨⟨fun ⟨hr, hn, hq⟩ => ⟨hr, hn, (Transmitter.start_queue_le _).trans hq⟩, id, id⟩, rfl, fun _ => rfl, fun _ => rfl⟩
  refine .ite ?_ (.refl s)
  simp only []
  split
  · exact finished.trans (respond_routine _ _)
  · exact finished

theorem sendNotice_routine : Routine s s.sendNotice := by
  refine routine_of_queues s (s.sendNotice_same.mono rfl) fun ⟨hr, hn, hq⟩ => ?_
  unfold State.sendNotice
  split
  · next n rest _ h _ =>
    split
    · rw [h] at hn; exact ⟨hr, (Nat.le_succ _).trans hn, hq⟩
    · exact ⟨hr, hn, hq⟩
  · exact ⟨hr, hn, hq⟩

theorem takeRequest_routine : Routine s s.takeRequest := by
  unfold State.takeRequest
  split
  · exact .refl s
  · refine .ite ?_ (.refl s)
    split
    · exact routine_of_queues s (s.dropRequest_same.mono rfl) fun ⟨hr, hn, hq⟩ =>
        ⟨(List.length_tail ▸ Nat.sub_le _ _).trans hr, hn, hq⟩
    · exact respond_routine s _
    · exact withMgmt_routine s _ rfl rfl

theorem complete_routine (src : Mac) (body : List Byte) (r : CmdResult) : Routine s (s.complete src body r) := by
  have kept := withMgmt_routine s { s.mgmt with lastResult := some r } rfl rfl
  simp only [State.complete]
  split
  · exact kept
  · split
    · exact kept
    · refine .ite (.ite ?_ (withMgmt_routine s _ rfl rfl)) kept
      exact (withMgmt_routine s { s.mgmt with lastResult := some r, active := none } rfl rfl).trans
        (respond_routine _ _)

theorem controlledBy_routine (src : Mac) : Routine s (s.controlledBy src) := withMgmt_routine s _ rfl rfl

end

end Sys2Proof.Machine

namespace Sys2Proof.Machine

/-! ### Terminal commands -/

section
variable (s : State)

/-- A QUEUED terminal placed again stands in the queue once, as before (R60). -/
theorem requeue_kept (i : Slot) : Kept s (s.requeue i) := by
  unfold State.requeue
  split
  · next h =>
    have queued : s.place i = .queued := by rw [State.place, h]; rfl
    exact ⟨⟨id, id, id⟩, fun k => (k.unqueue queued).placeReentry queued⟩
  · exact .refl s

theorem ceilingStep_routine (i : Slot) : Routine s (s.ceilingStep i) := by
  unfold State.ceilingStep
  split
  · exact .ite (changeProfile_routine s i _) (.refl s)
  · exact .refl s

theorem ceilingEntry_routine (i : Slot) : Routine s (s.ceilingEntry i) := by
  unfold State.ceilingEntry
  split
  · next h =>
    split
    · exact .ite (setCtx_routine s (holder_eq (contextOf_holds h).1)) (.refl s)
    · exact .refl s
  · exact .refl s

theorem parkRanging_kept (i : Slot) : Kept s (s.parkRanging i) := by
  unfold State.parkRanging
  split
  · next h =>
    have held := holder_eq (contextOf_holds h).1
    exact .ite (setCtx_routine s held).kept (endAttempt_kept s held _ _)
  · exact .refl s

theorem park_kept (i : Slot) : Kept s (s.park i) := by
  unfold State.park
  split
  case h_3 h => exact (modTerm_routine_at s i (by rw [h]; rfl)).kept
  case h_4 h =>
    have parked : Settles i (s.unqueue i) ((s.unqueue i).modTerm i fun t => { t with state := .parked }) :=
      modTerm_settles _ i rfl
    have unqueued : KeepsBounds s (s.unqueue i) := ⟨id, id, id⟩
    exact ⟨unqueued.trans parked.toKeepsBounds, fun k => parked.sound (k.unqueue (by rw [State.place, h]; rfl))⟩
  case h_5 => exact parkRanging_kept s i
  case h_6 h | h_7 h | h_8 h => exact (leaveService_routine s (by rw [h]; rfl) rfl _ _).kept
  all_goals exact .refl s

theorem releaseTerminal_kept {i : Slot} (h : (s.term i).state = .parked) : Kept s (s.releaseTerminal i) :=
  (Settles.ite (makeQueued_settles s i) (enterDown_settles s i 0 false)).kept (by rw [State.place, h]; rfl)

theorem force_routine (i : Slot) (p : ProfIdx) : Routine s (s.force i p) :=
  .ite (modTerm_routine s i) (changeProfile_routine s i p)

/-! ### Flow commands -/

theorem setChain_routine (i : Slot) (l : List FlowIdx) : Routine s (s.setChain i l) :=
  (modTerm_routine s i).trans ((State.relink_same l _).routine rfl)

theorem unchain_routine (f : FlowIdx) : Routine s (s.unchain f) := by
  unfold State.unchain
  split
  · exact (setChain_routine s _ _).trans (modFlow_routine _ f _)
  · exact .refl s

theorem bindFlow_routine (w : FlowWrite) : Routine s (s.bindFlow w) := by
  have rebound : Routine s (s.rebound w) := (unchain_routine s _).trans (modFlow_routine _ _ _)
  rw [bindFlow_eq]
  refine .ite (.refl s) ?_
  split
  · exact rebound.trans (setChain_routine _ _ _)
  · exact rebound

theorem withdrawForRate_routine (f : FlowIdx) : Routine s (s.withdrawForRate f) :=
  .ite ((((s.withdraw_same f _).routine rfl).trans (repriceFlow_routine _ f)).trans (noteFlowWaiting_routine _ f))
    (.refl s)

theorem setFlow_routine (w : FlowWrite) : Routine s (s.setFlow w) := by
  have write (u : State) : Routine u (u.writeFlow w) := modFlow_routine u _ _
  refine ((bindFlow_routine s w).trans (.trans ?_ (.ite (trimTail_routine _ _ _) (.refl _)))).trans
    (.ite (reportRamping_routine _) (.refl _))
  exact .ite ((write _).trans (withdrawForRate_routine _ _)) (write _)

theorem unbind_routine (f : FlowIdx) : Routine s (s.unbind f) := by
  unfold State.unbind
  split
  · exact .refl s
  · exact (((setChain_routine s _ _).trans (modFlow_routine _ f _)).trans (modFlow_routine _ f _)).trans
      (reportRamping_routine _)

theorem enable_routine (f : FlowIdx) : Routine s (s.enable f) :=
  .ite ((((s.makeWaiting_same f _).routine rfl).trans (noteFlowWaiting_routine _ f)).trans
    (reportRamping_routine _)) (.refl s)

theorem disable_routine (f : FlowIdx) : Routine s (s.disable f) := by
  unfold State.disable
  split
  · exact .refl s
  · exact ((((s.makeDisabled_same f).routine rfl).trans (repriceFlow_routine _ f)).trans
      ((State.flushQueue_same _ f).routine rfl)).trans (reportRamping_routine _)
  · exact ((((s.makeDisabled_same f).routine rfl).trans ((State.unlist_same _ f).routine rfl)).trans
      ((State.flushQueue_same _ f).routine rfl)).trans (reportRamping_routine _)

/-! ### Sector commands -/

/-- A field taken lies in its range, where the one held does (R181). -/
theorem takeField_range {lo hi held : Nat} (h : lo ≤ held ∧ held ≤ hi) (given : Option Nat) :
    lo ≤ takeField lo hi given held ∧ takeField lo hi given held ≤ hi := by
  cases given with
  | none => exact h
  | some v => exact ⟨le_min (h.1.trans h.2) (le_max_left _ _), min_le_left _ _⟩

/-- The M_o that a command leaves is above its M_f and within a byte (R181). -/
theorem apply_mo {b : SetupBody} {c : Setup} (hb : ∀ v, b.mo = some v → v ≤ 255) (hf : 1 ≤ c.mf ∧ c.mf ≤ 15)
    (ho : c.mf < c.mo ∧ c.mo ≤ 255) : b.newMf c < (b.apply c).mo ∧ (b.apply c).mo ≤ 255 := by
  have mf : 1 ≤ b.newMf c ∧ b.newMf c ≤ 15 := takeField_range hf b.mf
  have raw : b.rawMo c ≤ 255 := by
    unfold SetupBody.rawMo
    cases h : b.mo with
    | none => exact ho.2
    | some v => exact hb v h
  show b.newMf c < (if b.moRaised c then _ else _) ∧ (if b.moRaised c then _ else _) ≤ 255
  split
  · omega
  · next h =>
    refine ⟨?_, raw⟩
    cases given : b.mo.isSome || b.mf.isSome with
    | true => exact not_le.mp fun k => h (by simp [SetupBody.moRaised, given, k])
    | false =>
      obtain ⟨hmo, hmf⟩ := Bool.or_eq_false_iff.mp given
      rw [SetupBody.newMf, SetupBody.rawMo, Option.not_isSome_iff_eq_none.mp (Bool.eq_false_iff.mp hmo),
        Option.not_isSome_iff_eq_none.mp (Bool.eq_false_iff.mp hmf)]
      exact ho.1

theorem apply_setupSound {b : SetupBody} (hb : ∀ v, b.mo = some v → v ≤ 255) (ht : (b.apply s.setup).tooSmall = false)
    (h : SetupSound s) : SetupSound { s with setup := b.apply s.setup } := by
  obtain ⟨hu, hd, hrs, hm, ha, hw, he, hmf, hmo, hs, hback, hp, hr, htr, htw, hpw, -⟩ := h
  exact ⟨takeField_range hu _, takeField_range hd _, takeField_range hrs _, takeField_range hm _, takeField_range ha _,
    takeField_range hw _, (takeField_range ⟨Nat.zero_le _, he⟩ _).2, takeField_range hmf _, apply_mo hb hmf hmo,
    (takeField_range ⟨Nat.zero_le _, hs⟩ _).2, takeField_range hback _, takeField_range hp _, takeField_range hr _,
    takeField_range htr _, takeField_range htw _, takeField_range hpw _, not_lt.mp (of_decide_eq_false ht)⟩

theorem writeSetup_kept {c : Setup} (h : SetupSound s → SetupSound { s with setup := c }) :
    Kept s (s.writeSetup c) := by
  have written : Kept s { s with setup := c } := ⟨⟨id, id, h⟩, id⟩
  have windows (u : State) : Routine u u.restartWindows :=
    u.restartWindows_same.routine_of_places rfl fun i => by rw [State.place, State.restartWindows_term]; rfl
  have prices (u : State) : Routine u u.repriceAll := .foldl reprice_routine _ u
  exact written.trans <| Routine.kept <| (Routine.ite (windows _) (.refl _)).trans <|
    (Routine.ite (prices _) (.refl _)).trans (.ite (shedToFit_routine _) (.refl _))

/-- After a restart no terminal is QUEUED or RANGING, the queue is empty and no context is bound (R22, R82). -/
theorem restart_kept : Kept s s.restart := by
  let v := s.raise .restart
  let u := v.restartSlots.foldl State.restartTerminal v
  have placed : Kept s u := (raise_routine s _).kept.trans (.foldl restartTerminal_kept _ v)
  have cleared : Kept s u.clearReentry := ⟨placed.toKeepsBounds.trans (clearReentry_bounds u),
    fun _ => clearReentry_sound u (foldl_restartTerminal_place v)⟩
  have windows : Routine u.clearReentry u.clearReentry.clearWindows :=
    (State.clearWindows_same _).routine_of_places rfl fun i => by rw [State.place, State.clearWindows_term]; rfl
  have ledger : Routine u.clearReentry.clearWindows u.clearReentry.clearWindows.rebuildLedger :=
    (State.rebuildLedger_same _).routine_of_places rfl fun i => by rw [State.place, State.rebuildLedger_term]; rfl
  exact cleared.trans ((windows.trans ledger).trans ((State.flushAll_same _).routine rfl)).kept

theorem clearAllCounters_routine : Routine s s.clearAllCounters :=
  s.clearAllCounters_same.routine_of_places rfl fun i => by rw [State.place, State.clearAllCounters_term]; rfl

/-- The sticky flags and the outage-seen flags are in no queue and no place. -/
theorem clearFlags_routine : Routine s s.clearFlags :=
  ⟨⟨id, id, id⟩, rfl, fun i => by rw [State.place, State.clearFlags_term]; rfl, fun _ => rfl⟩

end

/-! ### The shape of a command -/

section
variable {s u : State} {src : Mac}

/-- An effect taken with the source the controller (R178). -/
theorem Kept.command (h : Kept (s.controlledBy src) u) : Kept s u := (controlledBy_routine s src).kept.trans h

/-- A write command keeps what its effect keeps, where its checks let it pass (R178). -/
theorem Kept.runWrite {code : Byte} {len : Nat} {body : List Byte} {check : State → Verdict}
    (h : ∀ st effect result, check s = .take st effect result →
      Kept (s.controlledBy src) (effect (s.controlledBy src))) :
    Kept s (s.runWrite src code len body check) := by
  by_cases hl : body.length = len
  · cases hc : check s with
    | refuse st => rw [State.runWrite_refuse hl hc]; exact (complete_routine s _ _ _).kept
    | take st effect result =>
      rw [State.runWrite_take hl hc]
      exact (h _ _ _ hc).command.trans (complete_routine _ _ _ _).kept
  · rw [State.runWrite, if_pos hl]
    exact (complete_routine s _ _ _).kept

theorem Kept.runRead (code : Byte) (len : Nat) (body : List Byte) (read : State → Status × List Byte) :
    Kept s (s.runRead src code len body read) := by
  unfold State.runRead
  split <;> exact (complete_routine s _ _ _).kept

end

/-! ### What each command's checks let pass -/

section
variable {s v : State} {st : Status} {effect : State → State} {result : List Byte}

theorem checkProvision_kept {b : TerminalBody} (h : checkProvision b s = .take st effect result)
    (ht : v.terms = s.terms) : Kept v (effect v) := by
  unfold checkProvision at h
  split at h
  · cases h
  · next absent =>
    split at h
    · cases h
    · split at h <;> cases h
      refine (modTerm_routine_at v _ ?_).kept
      rw [term_of_terms ht, not_not.mp absent]; rfl

theorem checkSetTerminal_kept {b : TerminalBody} (h : checkSetTerminal b s = .take st effect result) :
    Kept v (effect v) := by
  unfold checkSetTerminal at h
  split at h
  · cases h
  · split at h
    · cases h
    · split at h <;> cases h
      exact (modTerm_routine v _).kept.trans <| (requeue_kept _ _).trans
        ((ceilingStep_routine _ _).trans (ceilingEntry_routine _ _)).kept

theorem checkPark_kept {i : Slot} (h : checkPark i s = .take st effect result) : Kept v (effect v) := by
  unfold checkPark at h
  split at h <;> cases h
  exact park_kept v i

theorem checkRelease_kept {i : Slot} (h : checkRelease i s = .take st effect result) (ht : v.terms = s.terms) :
    Kept v (effect v) := by
  unfold checkRelease at h
  split at h
  case h_2 parked =>
    cases h
    exact releaseTerminal_kept v (by rw [term_of_terms ht]; exact parked)
  all_goals cases h

/-- A slot given up was PARKED (R11). -/
theorem checkDeprovision_kept {i : Slot} (h : checkDeprovision i s = .take st effect result) (ht : v.terms = s.terms) :
    Kept v (effect v) := by
  unfold checkDeprovision at h
  split at h
  · cases h
  · split at h <;> cases h
    next parked =>
    refine (modTerm_routine_at v i ?_).kept
    rw [term_of_terms ht, parked.1]; rfl

theorem checkForce_kept {i : Slot} {n : Nat} (h : checkForce i n s = .take st effect result) : Kept v (effect v) := by
  unfold checkForce at h
  split at h
  · cases h
  · split at h
    · cases h
    · split_ifs at h
      cases h
      exact (force_routine v i _).kept

theorem checkWriteProfile_kept {b : ProfileBody} (h : checkWriteProfile b s = .take st effect result) :
    Kept v (effect v) := by
  unfold checkWriteProfile at h
  split at h
  · cases h
  · split_ifs at h
    cases h
    exact ((v.setProfile_same _ _).routine rfl).kept

theorem checkInvalidate_kept {n : Nat} (h : checkInvalidate n s = .take st effect result) : Kept v (effect v) := by
  unfold checkInvalidate at h
  split at h
  · cases h
  · split_ifs at h
    cases h
    exact ((v.setProfile_same _ _).routine rfl).kept

theorem checkSetFlow_kept {b : FlowBody} (h : checkSetFlow b s = .take st effect result) : Kept v (effect v) := by
  unfold checkSetFlow at h
  split at h
  · cases h
  · simp only at h
    split_ifs at h
    cases h
    exact (setFlow_routine v _).kept

theorem checkUnbind_kept {n : Nat} (h : checkUnbind n s = .take st effect result) : Kept v (effect v) := by
  unfold checkUnbind at h
  split at h
  · cases h
  · split at h <;> cases h
    exact (unbind_routine v _).kept

theorem checkEnable_kept {n : Nat} (h : checkEnable n s = .take st effect result) : Kept v (effect v) := by
  unfold checkEnable at h
  split at h
  · cases h
  · split at h <;> cases h
    exact (enable_routine v _).kept

theorem checkDisable_kept {n : Nat} (h : checkDisable n s = .take st effect result) : Kept v (effect v) := by
  unfold checkDisable at h
  split at h <;> cases h
  exact (disable_routine v _).kept

theorem checkMapTags_kept {b : TagsBody} (h : checkMapTags b s = .take st effect result) : Kept v (effect v) := by
  unfold checkMapTags at h
  split at h
  · cases h
  · split at h
    · cases h
    · cases h
      exact ((v.writeTags_same _ _).routine rfl).kept

theorem readSetupBody_mo {body : List Byte} {n : Nat} (h : (readSetupBody body).mo = some n) : n ≤ 255 := by
  have hn : presentAt body 8 (nat8At body 15) = some n := h
  unfold presentAt at hn
  split at hn <;> cases hn
  exact Nat.le_of_lt_succ (byteAt body 15).isLt

theorem checkSetSector_kept {body : List Byte} (h : checkSetSector (readSetupBody body) s = .take st effect result)
    (hv : v.setup = s.setup) : Kept v (effect v) := by
  unfold checkSetSector at h
  split_ifs at h with _ large _
  cases h
  rw [← hv] at large
  exact writeSetup_kept v (apply_setupSound v (fun _ => readSetupBody_mo) (Bool.eq_false_iff.mpr large))

theorem checkClearCounters_kept {scope : Byte} {i : Slot} {n : Nat}
    (h : checkClearCounters scope i n s = .take st effect result) : Kept v (effect v) := by
  unfold checkClearCounters at h
  split_ifs at h
  · cases h
    exact (modTerm_routine v i).kept
  · split at h <;> cases h
    exact (modFlow_routine v _ _).kept
  · cases h
    exact (clearAllCounters_routine v).kept

end

/-! ### Every command and every step -/

section
variable (s : State)

/-- A device reset brings back empty queues, no credit and the setup record of R181 (R62, R83, R187). -/
theorem deviceReset_kept (straps : Byte) : Kept s { State.resetWith straps with pending := s.pending } where
  queues _ := ⟨Nat.zero_le _, Nat.zero_le _, Nat.zero_le _⟩
  credit _ := ⟨Nat.zero_le _, fun _ => rfl⟩
  setup _ := resetWith_setupSound straps
  sound _ := resetWith_reentrySound straps

/-- The SLI changed but for the sector state, and the result stamp, which the bounds and the places are not read from. -/
theorem withResultStamp_routine (k : Link) (n : Option FrameNo) (h : k.sectorUp = s.link.sectorUp := by rfl) :
    Routine s { s with link := k, resultStamp := n } :=
  let stamped : Routine { s with link := k } { s with link := k, resultStamp := n } :=
    ⟨⟨id, id, id⟩, rfl, fun _ => rfl, fun _ => rfl⟩
  (withLink_routine s k h).trans stamped

/-- What every command and event keeps. -/
theorem exec_kept {c : Instr} {t : State} (h : exec c s = .next t) : Kept s t := by
  cases c with
  | frameStart r | burstReport r | missReport r | rangingReport r | rangingMiss r | sectorState r =>
    cases h
    exact takeRecord_kept s r
  | trunkPacketArrival p =>
    cases h
    exact (takePacket_routine s p).kept
  | deviceReset straps =>
    cases h
    exact deviceReset_kept s straps
  | qmonFrameEvent =>
    simp only [exec, execQmonFrameEvent] at h
    split at h <;> cases h
    · exact .refl s
    · exact (withResultStamp_routine s _ _).kept
  | tmgrFrameEvent =>
    simp only [exec, execTmgrFrameEvent] at h
    split at h <;> cases h
    · exact .refl s
    · exact (withLink_routine s _).kept.trans (walkDown_kept _)
  | downTimerExpiry i =>
    cases h
    exact expireTimer_kept s i
  | recFrameEvent =>
    simp only [exec, execRecFrameEvent] at h
    split at h <;> cases h
    · exact .refl s
    · exact ((withLink_routine s _).trans (takeGrants_routine _)).kept.trans (reecFrame_kept _ _)
  | responseTimeout k =>
    cases h
    exact timeout_kept s k
  | readmissionScan =>
    simp only [exec, execReadmissionScan] at h
    split at h <;> cases h
    · exact .refl s
    · exact ((withLink_routine s _).trans (scan_routine _)).kept
  | pbrFrameEvent =>
    simp only [exec, execPbrFrameEvent] at h
    split at h <;> cases h
    · exact .refl s
    · exact ((withLink_routine s _).trans (releaseFrame_routine _ _)).kept
  | staleDiscard f =>
    cases h
    exact (staleOnce_routine s f).kept
  | gbldFrameEvent =>
    simp only [exec, execGbldFrameEvent] at h
    split at h <;> cases h
    · exact .refl s
    · exact ((withLink_routine s _).trans (buildGrants_routine _ _)).kept
  | grantTake =>
    simp only [exec, execGrantTake] at h
    split at h <;> cases h
    · exact .refl s
    · exact ((withGrants_routine s _).trans (takeGrant_routine _ _)).kept
  | windowComplete i =>
    cases h
    exact .ite (completeIfFull_routine s i).kept (.refl s)
  | requestTake =>
    cases h
    exact (takeRequest_routine s).kept
  | transmitComplete =>
    cases h
    exact (finishSending_routine s).kept
  | noticeSend =>
    cases h
    exact (sendNotice_routine s).kept
  | unknownCommand src code body =>
    cases h
    exact (complete_routine s _ _ _).kept
  | provisionTerminal src body => cases h; exact .runWrite fun _ _ _ k => checkProvision_kept k rfl
  | setTerminal src body => cases h; exact .runWrite fun _ _ _ => checkSetTerminal_kept
  | parkTerminal src body => cases h; exact .runWrite fun _ _ _ => checkPark_kept
  | releaseTerminal src body => cases h; exact .runWrite fun _ _ _ k => checkRelease_kept k rfl
  | deprovisionTerminal src body => cases h; exact .runWrite fun _ _ _ k => checkDeprovision_kept k rfl
  | forceProfile src body => cases h; exact .runWrite fun _ _ _ => checkForce_kept
  | writeProfile src body => cases h; exact .runWrite fun _ _ _ => checkWriteProfile_kept
  | invalidateProfile src body => cases h; exact .runWrite fun _ _ _ => checkInvalidate_kept
  | setFlow src body => cases h; exact .runWrite fun _ _ _ => checkSetFlow_kept
  | unbindFlow src body => cases h; exact .runWrite fun _ _ _ => checkUnbind_kept
  | enableFlow src body => cases h; exact .runWrite fun _ _ _ => checkEnable_kept
  | disableFlow src body => cases h; exact .runWrite fun _ _ _ => checkDisable_kept
  | mapTags src body => cases h; exact .runWrite fun _ _ _ => checkMapTags_kept
  | setSector src body => cases h; exact .runWrite fun _ _ _ k => checkSetSector_kept k rfl
  | restartSector src body =>
    cases h
    exact .runWrite fun _ _ _ e => by cases e; exact restart_kept _
  | readTerminal src body | readFlow src body | readProfile src body | readSector src body | readTags src body
  | readReentryQueue src body | readReadmissionList src body | readContexts src body | readLedger src body =>
    cases h
    exact .runRead _ _ _ _
  | clearCounters src body => cases h; exact .runWrite fun _ _ _ => checkClearCounters_kept
  | clearFlags src body =>
    cases h
    exact .runWrite fun _ _ _ e => by cases e; exact (clearFlags_routine _).kept

end

/-- Settles O6: each command keeps the bounds, and so does each step, which takes one command or none. -/
theorem queueAndCreditBoundsAreKept : Obligations.QueueAndCreditBoundsAreKept := fun _ _ h =>
  ⟨step_induction (fun _ _ k => k) (fun _ s _ e => (exec_kept s e).queues) h,
    step_induction (fun _ _ k => k) (fun _ s _ e => (exec_kept s e).credit) h,
    step_induction (fun _ _ k => k) (fun _ s _ e => (exec_kept s e).setup) h⟩

/-- Settles O9: each command keeps the queue, the places and the contexts in agreement, and so does each step. -/
theorem reentryStaysSound : Obligations.ReentryStaysSound := fun _ _ hs h =>
  step_induction (fun _ _ k => k) (fun _ s _ e => (exec_kept s e).sound) h hs

end Sys2Proof.Machine

namespace Sys2Proof.Machine

/-! ### Fields of a result body -/

/-- The bytes at an offset of a body are the given ones. -/
def StandsAt (l : List Byte) (k : Nat) (bytes : List Byte) : Prop := (l.drop k).take bytes.length = bytes

section
variable {l bytes : List Byte} {k : Nat}

theorem StandsAt.getD (h : StandsAt l k bytes) {i : Nat} (hi : i < bytes.length) :
    byteAt l (k + i) = bytes.getD i 0#8 := by
  conv_rhs => rw [← h]
  simp only [byteAt, List.getD_eq_getElem?_getD, List.getElem?_take_of_lt hi, List.getElem?_drop]

/-- What stands in a part of a body stands in the body. -/
theorem StandsAt.within (h : StandsAt l k bytes) (pre post : List Byte) :
    StandsAt (pre ++ (l ++ post)) (pre.length + k) bytes := by
  have fits : bytes.length ≤ (l.drop k).length :=
    (congrArg List.length h).symm.trans_le ((List.length_take_le' _ _))
  rw [StandsAt, List.drop_length_add_append, List.drop_append, List.take_append_of_le_length fits]
  exact h

/-- What stands in an entry of a list stands in a body that holds the entries, each of one length, behind a header. -/
theorem StandsAt.entry {α : Type} {g : α → List Byte} {i j w : Nat} {a : α} {as : List α} (h : StandsAt (g a) i bytes)
    (hg : ∀ a, (g a).length = w) (hj : as[j]? = some a) (pre : List Byte) (hk : k = pre.length + w * j + i) :
    StandsAt (pre ++ as.flatMap g) k bytes := by
  obtain ⟨hlt, rfl⟩ := List.getElem?_eq_some_iff.mp hj
  have split : pre ++ as.flatMap g =
      (pre ++ (as.take j).flatMap g) ++ (g as[j] ++ (as.drop (j + 1)).flatMap g) := by
    conv_lhs => rw [← List.take_append_drop j as, List.drop_eq_getElem_cons hlt]
    rw [List.append_assoc, List.flatMap_append, List.flatMap_cons]
  have before : (pre ++ (as.take j).flatMap g).length = pre.length + w * j := by
    rw [List.length_append, length_flatMap_of_length hg, List.length_take_of_le hlt.le]
  rw [split, hk, ← before]
  exact h.within _ _

/-! ### Reading a field -/

theorem byteAt_of {b : Byte} (h : StandsAt l k [b]) : byteAt l k = b := h.getD (i := 0) Nat.one_pos

theorem nat8At_of {n : Nat} (h : StandsAt l k [num8 n]) : nat8At l k = n % 256 := by
  rw [nat8At, byteAt_of h, num8, BitVec.toNat_ofNat]

theorem word16At_of {w : Word16} (h : StandsAt l k (be16 w)) : word16At l k = w := by
  have high : byteAt l k = w.extractLsb' 8 8 := h.getD (i := 0) Nat.two_pos
  have low : byteAt l (k + 1) = w.extractLsb' 0 8 := h.getD (i := 1) Nat.one_lt_two
  rw [word16At, high, low, word16_of_bytes]

theorem nat16At_of {n : Nat} (h : StandsAt l k (num16 n)) : nat16At l k = n % 65536 := by
  rw [nat16At, word16At_of h, BitVec.toNat_ofNat]

theorem word32At_of {w : Word32} (h : StandsAt l k (be32 w)) : word32At l k = w := by
  have byte (i : Nat) (hi : i < 4) : byteAt l (k + i) = (be32 w).getD i 0#8 := h.getD hi
  show (byteAt l (k + 0) ++ byteAt l (k + 1) : Word16) ++
    (byteAt l (k + 2) ++ byteAt l (k + 3) : Word16) = w
  rw [byte 0 (by decide), byte 1 (by decide), byte 2 (by decide), byte 3 (by decide)]
  exact word32At_be32 0#8 w []

/-- A counter of four bytes stands at an offset. -/
def CounterAt (l : List Byte) (k n : Nat) : Prop := (word32At l k).toNat = n % 4294967296

theorem counterAt_of {n : Nat} (h : StandsAt l k (num32 n)) : CounterAt l k n := by
  rw [CounterAt, word32At_of h, BitVec.toNat_ofNat]

theorem macAt_of {w : Mac} (h : StandsAt l k (be48 w)) : macAt l k = w := by
  have byte (i : Nat) (hi : i < 6) : byteAt l (k + i) = (be48 w).getD i 0#8 := h.getD hi
  show (byteAt l (k + 0) ++ byteAt l (k + 1) : Word16) ++
    ((byteAt l (k + 2) ++ byteAt l (k + 3) : Word16) ++
      (byteAt l (k + 4) ++ byteAt l (k + 5) : Word16) : Word32) = w
  rw [byte 0 (by decide), byte 1 (by decide), byte 2 (by decide), byte 3 (by decide), byte 4 (by decide),
    byte 5 (by decide)]
  show (w.extractLsb' 40 8 ++ w.extractLsb' 32 8 : Word16) ++
    ((w.extractLsb' 24 8 ++ w.extractLsb' 16 8 : Word16) ++
      (w.extractLsb' 8 8 ++ w.extractLsb' 0 8 : Word16) : Word32) = w
  iterate 5 rw [BitVec.extractLsb'_append_extractLsb'_eq_extractLsb' (by rfl)]
  exact BitVec.extractLsb'_eq_self

/-- The bits of a flag byte are those listed, and 0 behind them. -/
theorem flagByte_getLsbD (bits : List Bool) :
    ∀ n, (flagByte bits).getLsbD n = (decide (n < 8) && bits.getD n false) := by
  induction bits with
  | nil => exact fun n => by simp [flagByte]
  | cons b rest ih =>
    intro n
    have low : (if b then 1#8 else 0#8 : Byte).getLsbD n = (decide (n = 0) && b) := by
      cases b <;> simp [BitVec.getLsbD_one]
    have cons : (flagByte (b :: rest)).getLsbD n =
        ((flagByte rest <<< 1).getLsbD n || (if b then 1#8 else 0#8 : Byte).getLsbD n) := BitVec.getLsbD_or
    rw [cons, low, BitVec.getLsbD_shiftLeft]
    cases n with
    | zero => simp
    | succ n =>
      rw [Nat.add_sub_cancel, ih n]
      by_cases hn : n + 1 < 8
      · simp [hn, Nat.lt_of_succ_lt hn]
      · simp [hn]

theorem bitAt_of {bits : List Bool} {b : Bool} {n : Nat} (h : StandsAt l k [flagByte bits])
    (hn : (decide (n < 8) && bits.getD n false) = b) : bitAt l k n = b := by
  rw [bitAt, byteAt_of h, flagByte_getLsbD, hn]

/-- A bit that tells whether a proposition holds. -/
theorem bitAt_iff {bits : List Bool} {b : Bool} {p : Prop} {n : Nat} (h : StandsAt l k [flagByte bits])
    (hp : b = true ↔ p) (hn : (decide (n < 8) && bits.getD n false) = b) : bitAt l k n = true ↔ p := by
  rw [bitAt_of h hn, hp]

theorem slotAt_of {i : Slot} (h : StandsAt l k [num8 i.val]) : slotAt l k = i := by
  rw [slotAt, byteAt_of h, slotOf_num8]

/-- A number below the size of a byte is read as it is. -/
theorem nat8At_of_fin {m : Nat} {x : Fin m} (hm : m ≤ 256) (h : StandsAt l k [num8 x.val]) :
    nat8At l k = x.val := (nat8At_of h).trans (Nat.mod_eq_of_lt (x.isLt.trans_le hm))

theorem nat16At_of_fin {m : Nat} {x : Fin m} (hm : m ≤ 65536) (h : StandsAt l k (num16 x.val)) :
    nat16At l k = x.val := (nat16At_of h).trans (Nat.mod_eq_of_lt (x.isLt.trans_le hm))

/-- A number that may be absent is below any bound of the numbers present. -/
theorem getD_val_lt {m n : Nat} (hm : m ≤ n) (hn : 0 < n) (o : Option (Fin m)) : (o.map Fin.val).getD 0 < n := by
  cases o with
  | none => exact hn
  | some x => exact x.isLt.trans_le hm

theorem nat8At_of_option {m : Nat} {o : Option (Fin m)} (hm : m ≤ 256)
    (h : StandsAt l k [num8 ((o.map Fin.val).getD 0)]) : nat8At l k = (o.map Fin.val).getD 0 :=
  (nat8At_of h).trans (Nat.mod_eq_of_lt (getD_val_lt hm (by decide) o))

theorem nat16At_of_option {m : Nat} {o : Option (Fin m)} (hm : m ≤ 65536)
    (h : StandsAt l k (num16 ((o.map Fin.val).getD 0))) : nat16At l k = (o.map Fin.val).getD 0 :=
  (nat16At_of h).trans (Nat.mod_eq_of_lt (getD_val_lt hm (by decide) o))

end


/-! ### The nine result bodies -/

/-- The result body of READ_TERMINAL (11.3). -/
theorem terminalBytes_laidOut {i : Slot} {t : Terminal} {l : List Byte} (h : terminalBytes i t = l) :
    slotAt l 0 = i ∧ byteAt l 1 = t.state.code ∧
    (bitAt l 2 0 = t.identity.isSome ∧ bitAt l 2 1 = t.current.isSome ∧ bitAt l 2 2 = t.resume.isSome ∧
      bitAt l 2 3 = t.beforeFade.isSome ∧ bitAt l 2 4 = t.timer.isSome ∧ bitAt l 2 5 = t.lastOutcome.isSome ∧
      bitAt l 2 6 = t.lastResult.isSome ∧ bitAt l 2 7 = t.chainHead.isSome) ∧
    (bitAt l 3 0 = t.freeze ∧ bitAt l 3 1 = t.outageSeen ∧ bitAt l 3 2 = t.window.settling ∧
      (bitAt l 3 3 = true ↔ ∃ x, t.lastResult = some x ∧ x.impaired = true) ∧
      (bitAt l 3 4 = true ↔ t.policy = .sectorDefault) ∧ (bitAt l 3 5 = true ↔ t.beforeFade = some .inService) ∧
      bitAt l 3 6 = false ∧ bitAt l 3 7 = false) ∧
    macAt l 4 = t.identity.getD 0 ∧ nat8At l 10 = t.cls.val ∧ nat8At l 11 = t.ceiling.val ∧
    nat8At l 12 = (t.current.map Fin.val).getD 0 ∧ nat8At l 13 = (t.resume.map Fin.val).getD 0 ∧
    nat8At l 14 = t.dwell % 256 ∧ nat8At l 15 = t.failedAttempts % 256 ∧ nat16At l 16 = t.timer.getD 0 % 65536 ∧
    byteAt l 18 = (t.lastOutcome.map AttemptOutcome.code).getD 0 ∧ nat8At l 19 = t.window.misses % 256 ∧
    nat16At l 20 = (t.lastResult.map WindowResult.q).getD 0 % 65536 ∧
    word16At l 22 = (t.lastResult.bind WindowResult.frame).getD 0 ∧ nat16At l 24 = (t.chainHead.map Fin.val).getD 0 ∧
    nat8At l 26 = t.window.samples % 256 ∧ nat8At l 27 = t.window.crcBad % 256 ∧ nat16At l 28 = t.window.sum % 65536 ∧
    CounterAt l 30 t.needUp ∧ CounterAt l 34 t.needDown ∧
    CounterAt l 38 t.counters.bursts ∧ CounterAt l 42 t.counters.crcBad ∧ CounterAt l 46 t.counters.misses ∧
    CounterAt l 50 t.counters.attempts ∧ CounterAt l 54 t.counters.failed ∧ CounterAt l 58 t.counters.outages := by
  simp only [terminalBytes, TermCounters.bytes, frameWord, flowWord, num16, num32, be16, be32, be48, List.cons_append,
    List.nil_append] at h
  subst h
  exact ⟨slotAt_of rfl, byteAt_of rfl,
    ⟨bitAt_of rfl rfl, bitAt_of rfl rfl, bitAt_of rfl rfl, bitAt_of rfl rfl, bitAt_of rfl rfl, bitAt_of rfl rfl,
      bitAt_of rfl rfl, bitAt_of rfl rfl⟩,
    ⟨bitAt_of rfl rfl, bitAt_of rfl rfl, bitAt_of rfl rfl,
      bitAt_iff rfl (Option.any_eq_true _ _) rfl, bitAt_iff rfl decide_eq_true_iff rfl,
      bitAt_iff rfl decide_eq_true_iff rfl,
      bitAt_of rfl rfl, bitAt_of rfl rfl⟩,
    macAt_of rfl, nat8At_of_fin (by decide) rfl, nat8At_of_fin (by decide) rfl, nat8At_of_option (by decide) rfl,
    nat8At_of_option (by decide) rfl, nat8At_of rfl, nat8At_of rfl, nat16At_of rfl, byteAt_of rfl, nat8At_of rfl,
    nat16At_of rfl, word16At_of rfl, nat16At_of_option (by decide) rfl, nat8At_of rfl, nat8At_of rfl, nat16At_of rfl,
    counterAt_of rfl, counterAt_of rfl, counterAt_of rfl, counterAt_of rfl, counterAt_of rfl, counterAt_of rfl,
    counterAt_of rfl, counterAt_of rfl⟩

/-- The result body of READ_FLOW (11.3). -/
theorem flowBytes_laidOut {f : FlowIdx} {x : Flow} {l : List Byte} (h : flowBytes f x = l) :
    nat16At l 0 = f.val ∧
    (bitAt l 2 0 = x.bound.isSome ∧ (bitAt l 2 1 = true ↔ x.dir = .up) ∧ (bitAt l 2 2 = true ↔ x.policy = .shed) ∧
      bitAt l 2 3 = x.chainNext.isSome ∧ bitAt l 2 4 = x.marker.isSome ∧ bitAt l 2 5 = x.state.isWaiting ∧
      bitAt l 2 6 = false ∧ bitAt l 2 7 = false) ∧
    nat8At l 3 = (x.bound.map Fin.val).getD 0 ∧ nat8At l 4 = x.cls.val ∧ byteAt l 5 = x.state.code ∧
    byteAt l 6 = x.state.causeByte ∧ byteAt l 7 = 0#8 ∧ nat16At l 8 = x.cb % 65536 ∧ nat16At l 10 = x.pb % 65536 ∧
    nat16At l 12 = x.limit % 65536 ∧ nat16At l 14 = x.holdAge % 65536 ∧
    nat16At l 16 = (x.chainNext.map Fin.val).getD 0 ∧ nat16At l 18 = x.queue.length % 65536 ∧
    nat16At l 20 = x.cellsHeld % 65536 ∧ nat16At l 22 = x.credit % 65536 ∧
    nat16At l 24 = (x.marker.map Marker.remaining).getD 0 % 65536 ∧
    nat16At l 26 = (x.marker.map Marker.released).getD 0 % 65536 ∧
    nat16At l 28 = (x.marker.map Marker.discarded).getD 0 % 65536 ∧
    CounterAt l 30 x.counters.enqueued ∧ CounterAt l 34 x.counters.released ∧ CounterAt l 38 x.counters.full ∧
    CounterAt l 42 x.counters.shed ∧ CounterAt l 46 x.counters.stale ∧ CounterAt l 50 x.counters.disabled ∧
    CounterAt l 54 x.counters.noBuf ∧ CounterAt l 58 x.counters.flush := by
  simp only [flowBytes, FlowCounters.bytes, markerBytes, flowWord, num16, num32, be16, be32, List.cons_append,
    List.nil_append] at h
  subst h
  exact ⟨nat16At_of_fin (by decide) rfl,
    ⟨bitAt_of rfl rfl, bitAt_iff rfl decide_eq_true_iff rfl, bitAt_iff rfl decide_eq_true_iff rfl, bitAt_of rfl rfl,
      bitAt_of rfl rfl, bitAt_of rfl rfl, bitAt_of rfl rfl, bitAt_of rfl rfl⟩,
    nat8At_of_option (by decide) rfl, nat8At_of_fin (by decide) rfl, byteAt_of rfl, byteAt_of rfl, byteAt_of rfl,
    nat16At_of rfl, nat16At_of rfl, nat16At_of rfl, nat16At_of rfl, nat16At_of_option (by decide) rfl, nat16At_of rfl,
    nat16At_of rfl, nat16At_of rfl, nat16At_of rfl, nat16At_of rfl, nat16At_of rfl, counterAt_of rfl, counterAt_of rfl,
    counterAt_of rfl, counterAt_of rfl, counterAt_of rfl, counterAt_of rfl, counterAt_of rfl, counterAt_of rfl⟩

/-- The result body of READ_PROFILE (11.3). -/
theorem profileBytes_laidOut {p : ProfIdx} {e : Profile} {l : List Byte} (h : profileBytes p e = l) :
    nat8At l 0 = p.val ∧ byteAt l 1 = (if e.valid then 1#8 else 0#8) ∧ nat8At l 2 = e.density % 256 ∧
    nat8At l 3 = e.dwell % 256 ∧ nat16At l 4 = e.overhead % 65536 ∧ nat16At l 6 = e.entry % 65536 ∧
    nat16At l 8 = e.exit % 65536 := by
  subst h
  have valid : flagByte [e.valid] = if e.valid then 1#8 else 0#8 := by cases e.valid <;> rfl
  have flags : StandsAt (profileBytes p e) 1 [flagByte [e.valid]] := rfl
  exact ⟨nat8At_of_fin (by decide) rfl, (byteAt_of flags).trans valid, nat8At_of rfl, nat8At_of rfl,
    nat16At_of rfl, nat16At_of rfl, nat16At_of rfl⟩

/-- The result body of READ_SECTOR (R180, 11.3). -/
theorem sectorBytes_laidOut {s : State} {l : List Byte} (h : sectorBytes s = l) :
    byteAt l 0 = (if s.link.sectorUp then 1#8 else 0#8) ∧ bitAt l 1 0 = s.link.frame.isSome ∧
    bitAt l 1 1 = s.mgmt.controller.isSome ∧
    (bitAt l 2 0 = s.mgmt.flags.terminal ∧ bitAt l 2 1 = s.mgmt.flags.attempt ∧ bitAt l 2 2 = s.mgmt.flags.capacity ∧
      bitAt l 2 3 = s.mgmt.flags.backlog ∧ bitAt l 2 4 = s.mgmt.flags.sector ∧ bitAt l 2 5 = s.mgmt.overflow) ∧
    word16At l 4 = s.link.frame.getD 0 ∧ word16At l 6 = (s.link.frame.map (· + 1)).getD 0 ∧
    (nat16At l 8 = s.setup.u % 65536 ∧ nat16At l 10 = s.setup.d % 65536 ∧ nat16At l 12 = s.setup.rs % 65536 ∧
      nat8At l 14 = s.setup.m % 256 ∧ nat8At l 15 = s.setup.a % 256 ∧ nat8At l 16 = s.setup.w % 256 ∧
      nat8At l 17 = s.setup.eMax % 256 ∧ nat8At l 18 = s.setup.mf % 256 ∧ nat8At l 19 = s.setup.mo % 256 ∧
      nat16At l 20 = s.setup.settle % 65536 ∧ nat8At l 23 = s.setup.backoff % 256 ∧
      nat16At l 24 = s.setup.pacer % 65536 ∧ nat8At l 26 = s.setup.rMax % 256 ∧ nat8At l 27 = s.setup.tr % 256 ∧
      nat8At l 28 = s.setup.timingWindow % 256 ∧ nat8At l 29 = s.setup.powerWindow % 256 ∧
      nat8At l 30 = s.setup.defaultProfile.val) ∧
    (bitAt l 31 0 = s.setup.enable.terminal ∧ bitAt l 31 1 = s.setup.enable.attempt ∧
      bitAt l 31 2 = s.setup.enable.capacity ∧ bitAt l 31 3 = s.setup.enable.backlog ∧
      bitAt l 31 4 = s.setup.enable.sector) ∧
    macAt l 32 = s.setup.address ∧
    CounterAt l 38 s.counters.trunkErrors ∧ CounterAt l 42 s.counters.unclassified ∧
    CounterAt l 46 s.counters.misdirected ∧ CounterAt l 50 s.counters.upForwarded ∧ CounterAt l 54 s.counters.upDropped ∧
    CounterAt l 58 s.counters.noBuffer ∧ CounterAt l 62 s.counters.linkErrors ∧ CounterAt l 66 s.counters.frameGaps ∧
    CounterAt l 70 s.counters.sectorLosses ∧ CounterAt l 74 s.counters.strayReports ∧
    macAt l 78 = s.mgmt.controller.getD 0 ∧ nat8At l 84 = s.mgmt.notices.length % 256 ∧ word16At l 86 = s.mgmt.seq := by
  simp only [sectorBytes, setupBytes, SectorCounters.bytes, frameWord, num16, num32, be16, be32, be48, List.cons_append,
    List.nil_append] at h
  subst h
  exact ⟨byteAt_of rfl, bitAt_of rfl rfl, bitAt_of rfl rfl,
    ⟨bitAt_of rfl rfl, bitAt_of rfl rfl, bitAt_of rfl rfl, bitAt_of rfl rfl, bitAt_of rfl rfl, bitAt_of rfl rfl⟩,
    word16At_of rfl, word16At_of rfl,
    ⟨nat16At_of rfl, nat16At_of rfl, nat16At_of rfl, nat8At_of rfl, nat8At_of rfl, nat8At_of rfl, nat8At_of rfl,
      nat8At_of rfl, nat8At_of rfl, nat16At_of rfl, nat8At_of rfl, nat16At_of rfl, nat8At_of rfl, nat8At_of rfl,
      nat8At_of rfl, nat8At_of rfl, nat8At_of_fin (by decide) rfl⟩,
    ⟨bitAt_of rfl rfl, bitAt_of rfl rfl, bitAt_of rfl rfl, bitAt_of rfl rfl, bitAt_of rfl rfl⟩, macAt_of rfl,
    counterAt_of rfl, counterAt_of rfl, counterAt_of rfl, counterAt_of rfl, counterAt_of rfl, counterAt_of rfl,
    counterAt_of rfl, counterAt_of rfl, counterAt_of rfl, counterAt_of rfl, macAt_of rfl, nat8At_of rfl, word16At_of rfl⟩

/-- The result body of READ_LEDGER (11.3). -/
theorem ledgerBytes_laidOut {s : State} {l : List Byte} (h : ledgerBytes s = l) :
    CounterAt l 0 s.ledger.loadUp ∧ CounterAt l 4 s.ledger.loadDown ∧ nat16At l 8 = s.setup.usableUp % 65536 ∧
    nat16At l 10 = s.setup.ceilingUp % 65536 ∧ nat16At l 12 = s.setup.ceilingDown % 65536 ∧
    nat16At l 14 = s.buffer.freeCells % 65536 ∧ nat16At l 16 = s.reentry.credit % 65536 := by
  subst h
  exact ⟨counterAt_of rfl, counterAt_of rfl, nat16At_of rfl, nat16At_of rfl, nat16At_of rfl, nat16At_of rfl,
    nat16At_of rfl⟩

/-! ### Bodies of entries -/

/-- What stands in the entry of a context stands in the body of READ_CONTEXTS, twelve bytes to a context. -/
theorem StandsAt.context {s : State} {c : CtxNo} {i k : Nat} {bytes : List Byte}
    (h : StandsAt (contextBytes (s.ctx c)) i bytes) (hk : k = 12 * c.val + i) :
    StandsAt (allContexts.flatMap fun c => contextBytes (s.ctx c)) k bytes := by
  have listed : ∀ c : CtxNo, allContexts[c.val]? = some c := by decide
  exact h.entry (g := fun c => contextBytes (s.ctx c)) (fun _ => contextBytes_length _) (listed c) []
    (hk.trans (by rw [List.length_nil, Nat.zero_add]))

/-- A free context is read as twelve zeros (R65). -/
theorem contextBytes_free {s : State} {c : CtxNo} (h : s.ctx c = none) {k : Nat} (hk : k < 12) :
    byteAt (allContexts.flatMap fun c => contextBytes (s.ctx c)) (12 * c.val + k) = 0#8 := by
  have zeros : ∀ i, i < 12 → StandsAt (List.replicate 12 0#8) i [0#8] := by unfold StandsAt; decide
  exact byteAt_of (.context (h ▸ zeros k hk) rfl)

/-- The entry of a bound context in the body of READ_CONTEXTS (R65). -/
theorem contextBytes_laidOut {s : State} {c : CtxNo} {a : Attempt} (h : s.ctx c = some a) {l : List Byte}
    (hl : (allContexts.flatMap fun c => contextBytes (s.ctx c)) = l) :
    bitAt l (12 * c.val) 0 = true ∧ bitAt l (12 * c.val) 1 = a.timer.isSome ∧
    bitAt l (12 * c.val) 2 = a.entryProfile.isSome ∧ bitAt l (12 * c.val) 3 = a.sample.isSome ∧
    bitAt l (12 * c.val) 4 = a.parkPending ∧ slotAt l (12 * c.val + 1) = a.terminal ∧
    byteAt l (12 * c.val + 2) = a.stage.code ∧ nat8At l (12 * c.val + 3) = a.failures % 256 ∧
    nat8At l (12 * c.val + 4) = a.adjusts % 256 ∧ nat8At l (12 * c.val + 5) = a.timer.getD 0 % 256 ∧
    word16At l (12 * c.val + 6) = a.slotFrame.getD 0 ∧
    nat8At l (12 * c.val + 8) = (a.entryProfile.map Fin.val).getD 0 ∧
    nat16At l (12 * c.val + 9) = a.sample.getD 0 % 65536 := by
  have field {i : Nat} {bytes : List Byte} (k : StandsAt (contextBytes (some a)) i bytes) :
      StandsAt l (12 * c.val + i) bytes := hl ▸ StandsAt.context (h.symm ▸ k) rfl
  have flags : StandsAt l (12 * c.val) [flagByte [true, a.timer.isSome, a.entryProfile.isSome, a.sample.isSome,
      a.parkPending]] := field (i := 0) rfl
  exact ⟨bitAt_of flags rfl, bitAt_of flags rfl, bitAt_of flags rfl, bitAt_of flags rfl, bitAt_of flags rfl,
    slotAt_of (field rfl), byteAt_of (field rfl), nat8At_of (field rfl), nat8At_of (field rfl), nat8At_of (field rfl),
    word16At_of (field rfl), nat8At_of_option (by decide) (field rfl), nat16At_of (field rfl)⟩

/-- The entry of a list read from a start position (R179). -/
theorem entriesFrom_getElem? {α : Type} {l : List α} {start count j : Nat} {a : α} (hj : j < count)
    (h : l[start + j]? = some a) : (entriesFrom l start count)[j]? = some (start + j, a) := by
  simp [entriesFrom, List.getElem?_take_of_lt hj, h]

/-- The tags read are those from the start tag onward (R94). -/
theorem tagsRead_getElem? {start count j : Nat} {v : Tag} (hs : start ≤ 4095) (hj : j < min count 64)
    (hv : v.val = start + j) : (tagsRead start count)[j]? = some v := by
  obtain ⟨n, hn⟩ := Nat.exists_eq_add_of_lt hj
  have split : List.range (min count 64) = List.range j ++ j :: (List.range n).map (j + 1 + ·) := by
    rw [hn, Nat.add_right_comm, List.range_add, List.range_succ, List.append_assoc]; rfl
  have before : tagsRead start j = (List.range j).filterMap fun j =>
      if h : start + j < 4096 then some (⟨start + j, h⟩ : Tag) else none := by
    rw [tagsRead, min_eq_left (hj.le.trans (min_le_right _ _))]
  have room : start + j < 4096 := hv ▸ v.isLt
  have length : (tagsRead start j).length = j := by rw [tagsRead_length hs]; omega
  rw [tagsRead, split, List.filterMap_append, ← before, List.getElem?_append_right length.le, length, Nat.sub_self,
    List.filterMap_cons_some (by rw [dif_pos room])]
  exact congrArg some (Fin.ext hv.symm)

/-- The count of the entries of a list read is below the size of a byte. -/
theorem nat8At_count {α : Type} {as : List α} {start count limit : Nat} {l : List Byte} {k : Nat} (hl : limit < 256)
    (h : StandsAt l k [num8 (entriesFrom as start (min count limit)).length]) :
    nat8At l k = min (min count limit) (as.length - start) := by
  rw [nat8At_of h, entriesFrom_length, Nat.mod_eq_of_lt (by omega)]

/-- What stands in an entry of a list read stands in its body, behind the length and the count. -/
theorem StandsAt.listed {α : Type} {g : Nat × α → List Byte} {w i j k start count limit n : Nat} {a : α} {as : List α}
    {bytes : List Byte} (h : StandsAt (g (start + j, a)) i bytes) (hg : ∀ e, (g e).length = w) (hj : j < min count limit)
    (ha : as[start + j]? = some a) (hk : k = 4 + w * j + i) :
    StandsAt (num16 as.length ++ num8 n :: 0#8 :: (entriesFrom as start (min count limit)).flatMap g) k bytes :=
  h.entry hg (entriesFrom_getElem? hj ha) (num16 as.length ++ [num8 n, 0#8]) hk

/-- An entry in the body of READ_REENTRY_QUEUE (R61). -/
theorem reentryBytes_laidOut {s : State} {start count j n : Nat} {i : Slot} {l : List Byte} (hj : j < min count 32)
    (hi : s.reentry.queue[start + j]? = some i) (hl : num16 s.reentry.queue.length ++ num8 n :: 0#8 ::
      (entriesFrom s.reentry.queue start (min count 32)).flatMap (reentryBytes s) = l) :
    nat16At l (4 + 4 * j) = (start + j) % 65536 ∧ slotAt l (6 + 4 * j) = i ∧
      nat8At l (7 + 4 * j) = (s.term i).cls.val := by
  have field {b k : Nat} {bytes : List Byte} (h : StandsAt (reentryBytes s (start + j, i)) b bytes)
      (hk : k = 4 + 4 * j + b) : StandsAt l k bytes := hl ▸ h.listed (reentryBytes_length s) hj hi hk
  have position : StandsAt l (4 + 4 * j) (num16 (start + j)) := field (b := 0) rfl rfl
  have slot : StandsAt l (6 + 4 * j) [num8 i.val] := field (b := 2) rfl (by omega)
  have cls : StandsAt l (7 + 4 * j) [num8 (s.term i).cls.val] := field (b := 3) rfl (by omega)
  exact ⟨nat16At_of position, slotAt_of slot, nat8At_of_fin (by decide) cls⟩

theorem listEligible_iff (s : State) (f : FlowIdx) :
    s.listEligible f = true ↔ ∃ i, (s.flow f).bound = some i ∧ (s.term i).state.active = true := by
  unfold State.listEligible
  split
  · next i hi => simp [hi]
  · next hi => simp [hi]

/-- An entry in the body of READ_READMISSION_LIST (R105). -/
theorem readmissionBytes_laidOut {s : State} {start count j n : Nat} {f : FlowIdx} {l : List Byte}
    (hj : j < min count 64) (hf : s.ledger.list[start + j]? = some f) (hl : num16 s.ledger.list.length ++ num8 n ::
      0#8 :: (entriesFrom s.ledger.list start (min count 64)).flatMap (readmissionBytes s) = l) :
    nat16At l (4 + 8 * j) = (start + j) % 65536 ∧ nat16At l (6 + 8 * j) = f.val ∧
    nat8At l (8 + 8 * j) = ((s.flow f).bound.map Fin.val).getD 0 ∧
    (bitAt l (9 + 8 * j) 0 = true ↔ (s.flow f).dir = .up) ∧
    (bitAt l (9 + 8 * j) 1 = true ↔ ∃ i, (s.flow f).bound = some i ∧ (s.term i).state.active = true) ∧
    nat8At l (10 + 8 * j) = (s.flow f).cls.val ∧ byteAt l (11 + 8 * j) = (s.flow f).state.causeByte := by
  have field {b k : Nat} {bytes : List Byte} (h : StandsAt (readmissionBytes s (start + j, f)) b bytes)
      (hk : k = 4 + 8 * j + b) : StandsAt l k bytes := hl ▸ h.listed (readmissionBytes_length s) hj hf hk
  have position : StandsAt l (4 + 8 * j) (num16 (start + j)) := field (b := 0) rfl rfl
  have flow : StandsAt l (6 + 8 * j) (num16 f.val) := field (b := 2) rfl (by omega)
  have terminal : StandsAt l (8 + 8 * j) [slotByte (s.flow f).bound] := field (b := 4) rfl (by omega)
  have flags : StandsAt l (9 + 8 * j) [flagByte [decide ((s.flow f).dir = .up), s.listEligible f]] :=
    field (b := 5) rfl (by omega)
  have cls : StandsAt l (10 + 8 * j) [num8 (s.flow f).cls.val] := field (b := 6) rfl (by omega)
  have cause : StandsAt l (11 + 8 * j) [(s.flow f).state.causeByte] := field (b := 7) rfl (by omega)
  exact ⟨nat16At_of position, nat16At_of_fin (by decide) flow, nat8At_of_option (by decide) terminal,
    bitAt_iff flags decide_eq_true_iff rfl,
    bitAt_iff flags (listEligible_iff s f) rfl, nat8At_of_fin (by decide) cls, byteAt_of cause⟩

/-- An entry in the body of READ_TAGS (R94). -/
theorem tagBytes_laidOut {s : State} {start count j n : Nat} {v : Tag} {l : List Byte} (hs : start ≤ 4095)
    (hj : j < min count 64) (hv : v.val = start + j)
    (hl : num8 n :: 0#8 :: (tagsRead start count).flatMap (tagBytes s) = l) :
    nat16At l (2 + 4 * j) = v.val ∧ nat16At l (4 + 4 * j) = ((s.tags.get v).map Fin.val).getD 65535 := by
  have field {b k : Nat} {bytes : List Byte} (h : StandsAt (tagBytes s v) b bytes) (hk : k = 2 + 4 * j + b) :
      StandsAt l k bytes :=
    hl ▸ h.entry (tagBytes_length s) (tagsRead_getElem? hs hj hv) [num8 n, 0#8] hk
  have tag : StandsAt l (2 + 4 * j) (num16 v.val) := field (b := 0) rfl rfl
  refine ⟨nat16At_of_fin (by decide) tag, ?_⟩
  cases hf : s.tags.get v with
  | none =>
    have target : StandsAt l (4 + 4 * j) (num16 65535) := field (b := 2) (by unfold tagBytes; rw [hf]; rfl) (by omega)
    exact nat16At_of target
  | some f =>
    have target : StandsAt l (4 + 4 * j) (num16 f.val) := field (b := 2) (by unfold tagBytes; rw [hf]; rfl) (by omega)
    exact nat16At_of_fin (by decide) target

/-! ### The answers -/

/-- A read is answered with the status and the result body it gives (R179). -/
theorem answered_read {s : State} {src : Mac} {code : Byte} {len : Nat} {body : List Byte}
    {read : State → Status × List Byte} {st : Status} {l : List Byte} (h : body.length = len) (hr : read s = (st, l)) :
    (Host.Outcome.next (s.runRead src code len body read) : Answer) = .next (s.complete src body ⟨code, st, l⟩) := by
  rw [State.runRead_length h, hr]

/-- Settles O59: each read is answered with its result body, and every field stands in it at its offset. -/
theorem readResultsAreLaidOut : Obligations.ReadResultsAreLaidOut := by
  intro src body s answered counter termState outcome flowState cause stage
  have hcause (x : FlowState) : x.causeByte = cause x := by
    cases x with
    | waiting c => cases c <;> rfl
    | disabled | admitted => rfl
  refine ⟨fun hl => ⟨_, answered_read hl rfl, terminalBytes_laidOut rfl⟩, fun f hl hf => ?_, fun p hl hp => ?_,
    fun hl => ⟨_, answered_read hl rfl, fun c =>
      ⟨fun h _ => contextBytes_free h, fun a h => contextBytes_laidOut h rfl⟩⟩,
    fun hl => ⟨_, answered_read hl rfl, sectorBytes_laidOut rfl⟩,
    fun hl => ⟨_, answered_read hl rfl, ledgerBytes_laidOut rfl⟩, fun hl => ⟨?_, ?_, fun hs => ?_⟩⟩
  · have named : flowOf (nat16At body 0) = some f := flowOf_eq_some hf
    have fields := flowBytes_laidOut (f := f) (x := s.flow f) rfl
    rw [hcause] at fields
    exact ⟨_, answered_read hl (by rw [named]), fields⟩
  · have named : profileOf (nat8At body 0) = some p := profileOf_eq_some hp
    exact ⟨_, answered_read hl (by rw [named]), profileBytes_laidOut rfl⟩
  · exact ⟨_, answered_read hl (Prod.ext (countStatus_eq ..) rfl), nat16At_of rfl, nat8At_count (by decide) rfl,
      fun j i hj hi => reentryBytes_laidOut hj hi rfl⟩
  · refine ⟨_, answered_read hl (Prod.ext (countStatus_eq ..) rfl), nat16At_of rfl, nat8At_count (by decide) rfl,
      fun j f hj hf => ?_⟩
    rw [← hcause]
    exact readmissionBytes_laidOut hj hf rfl
  · have count : (tagsRead (nat16At body 0) (nat8At body 2)).length < 256 := by rw [tagsRead_length hs]; omega
    refine ⟨_, answered_read hl ((if_neg (not_lt.mpr hs)).trans (Prod.ext (countStatus_eq ..) rfl)), ?_,
      fun j v hj hv => tagBytes_laidOut hs hj hv rfl⟩
    refine Eq.trans ?_ ((Nat.mod_eq_of_lt count).trans (tagsRead_length hs _))
    exact nat8At_of rfl

end Sys2Proof.Machine

namespace Sys2Proof.Machine

/-! ### A packet that arrives on the trunk -/

section
variable {s : State} {p : Packet}

theorem packetChecks_iff : packetChecks p = true ↔ 64 ≤ p.length ∧ p.length ≤ 9216 ∧ fcsChecks p = true := by
  rw [packetChecks, Bool.and_eq_true, Bool.and_eq_true, decide_eq_true_iff, decide_eq_true_iff, and_assoc]
  rfl

theorem isTagged_iff : isTagged p = true ↔ word16At p 12 = 0x8100#16 := beq_iff_eq

/-- A management packet for the part, by where its type field stands (R96). -/
theorem isManagement_iff : s.isManagement p = true ↔
    (word16At p 12 ≠ 0x8100#16 ∧ word16At p 12 = 0x7A6C#16 ∨
      word16At p 12 = 0x8100#16 ∧ word16At p 16 = 0x7A6C#16) ∧
    (macAt p 0 = s.setup.address ∨ macAt p 0 = 0xFFFFFFFFFFFF#48) := by
  have type : word16At p (typeOffset p) = managementType ↔
      word16At p 12 ≠ 0x8100#16 ∧ word16At p 12 = 0x7A6C#16 ∨
        word16At p 12 = 0x8100#16 ∧ word16At p 16 = 0x7A6C#16 := by
    by_cases h : word16At p 12 = 0x8100#16
    · simp [typeOffset, isTagged, h, managementType]
    · simp [typeOffset, isTagged, h, managementType]
  simp [State.isManagement, type, destOf, broadcastAddress]

theorem takePacket_unsound (h : ¬ (64 ≤ p.length ∧ p.length ≤ 9216 ∧ fcsChecks p = true)) :
    s.takePacket p = s.count fun k => { k with trunkErrors := satAdd k.trunkErrors 1 } :=
  if_pos (Bool.eq_false_iff.mpr (mt packetChecks_iff.mp h))

theorem takePacket_management (h : 64 ≤ p.length ∧ p.length ≤ 9216 ∧ fcsChecks p = true)
    (hm : s.isManagement p = true) : s.takePacket p = s.enqueueRequest p := by
  rw [State.takePacket, if_neg (by simp [packetChecks_iff.mpr h]), if_pos hm]

theorem takePacket_downstream (h : 64 ≤ p.length ∧ p.length ≤ 9216 ∧ fcsChecks p = true)
    (hm : s.isManagement p = false) : s.takePacket p = s.classify p := by
  rw [State.takePacket, if_neg (by simp [packetChecks_iff.mpr h]), if_neg (by simp [hm])]

/-- The answer to a packet, from what the TPC does with it. -/
theorem exec_trunkPacketArrival {t : State} (h : s.takePacket p = t) : exec (.trunkPacketArrival p) s = .next t :=
  congrArg Host.Outcome.next h

theorem taggedFlow_eq_none_iff : s.taggedFlow p = none ↔
    word16At p 12 ≠ 0x8100#16 ∨ vlanOf p = 0 ∨ vlanOf p = 4095 ∨ s.tags.get (vlanOf p) = none := by
  have untagged : isTagged p = false ↔ word16At p 12 ≠ 0x8100#16 := Bool.eq_false_iff.trans isTagged_iff.not
  rw [State.taggedFlow, ← untagged]
  split
  · next h => tauto
  · next h => tauto

theorem taggedFlow_eq_some {f : FlowIdx} (ht : word16At p 12 = 0x8100#16) (h0 : vlanOf p ≠ 0) (h4095 : vlanOf p ≠ 4095)
    (hf : s.tags.get (vlanOf p) = some f) : s.taggedFlow p = some f := by
  have usable : ¬ (isTagged p = false ∨ vlanOf p = 0 ∨ vlanOf p = 4095) := by
    simp [isTagged_iff.mpr ht, h0, h4095]
  rw [State.taggedFlow, if_neg usable, hf]

end

/-- Settles O31: the checks of R96, and the request queue with and without room. -/
theorem trunkPacketIsChecked : Obligations.TrunkPacketIsChecked := by
  intro p s good forPart
  refine ⟨fun bad => ?_, fun ok mine room => ?_, fun ok mine full => ?_⟩
  · exact exec_trunkPacketArrival (takePacket_unsound bad)
  · refine exec_trunkPacketArrival ((takePacket_management ok (isManagement_iff.mpr mine)).trans ?_)
    exact if_pos room
  · refine exec_trunkPacketArrival ((takePacket_management ok (isManagement_iff.mpr mine)).trans ?_)
    exact if_neg (not_lt.mpr full)

/-- Settles O32: the flow of the packet's tag, then the flow's direction, state and policy (R97). -/
theorem downstreamPacketIsClassified : Obligations.DownstreamPacketIsClassified := by
  intro p s hmin hmax hfcs hm v
  have taken {t : State} (h : s.classify p = t) : exec (.trunkPacketArrival p) s = .next t :=
    exec_trunkPacketArrival ((takePacket_downstream ⟨hmin, hmax, hfcs⟩ hm).trans h)
  refine ⟨fun unmapped => ?_, fun f ht h0 h4095 hf => ?_⟩
  · exact taken (by rw [State.classify, taggedFlow_eq_none_iff.mpr unmapped]; rfl)
  · have mapped : s.taggedFlow p = some f := taggedFlow_eq_some ht h0 h4095 hf
    refine ⟨fun up => taken ?_, fun down disabled => taken ?_, fun down waiting shed => taken ?_,
      fun down handed => taken ?_⟩
    · simp only [State.classify, mapped, up]; rfl
    · simp only [State.classify, mapped, down, disabled]; rfl
    · cases hw : (s.flow f).state with
      | waiting c => simp only [State.classify, mapped, down, hw, shed]; rfl
      | disabled | admitted => rw [hw] at waiting; cases waiting
    · rcases handed with admitted | ⟨waiting, hold⟩
      · simp only [State.classify, mapped, down, admitted]
      · cases hw : (s.flow f).state with
        | waiting c => simp only [State.classify, mapped, down, hw, hold]
        | disabled | admitted => rw [hw] at waiting; cases waiting

end Sys2Proof.Machine

namespace Sys2Proof.Machine

/-! ### The block of a MAP_TAGS -/

/-- A number as a tag that may be mapped: none where it is reserved or no tag (R95). -/
def mappableTag (n : Nat) : Option Tag :=
  if h : n < 4096 then if n = 0 ∨ n = 4095 then none else some ⟨n, h⟩ else none

theorem blockTags_eq (base k : Nat) :
    blockTags base k = (List.range (2 ^ k)).filterMap fun j => mappableTag (alignedBase base k + j) := rfl

theorem mappableTag_eq_some {n : Nat} {v : Tag} : mappableTag n = some v ↔ v.val = n ∧ v ≠ 0 ∧ v ≠ 4095 := by
  have reserved : (v = 0 ↔ v.val = 0) ∧ (v = 4095 ↔ v.val = 4095) := ⟨Fin.ext_iff, Fin.ext_iff⟩
  rw [Ne, Ne, reserved.1, reserved.2]
  unfold mappableTag
  split_ifs with small special
  · exact iff_of_false nofun (by omega)
  · rw [Option.some_inj, Fin.ext_iff]
    show n = v.val ↔ _
    omega
  · exact iff_of_false nofun (by omega)

theorem mappableTag_count {n : Nat} (h : n < 4096) :
    (mappableTag n).toList.length = if n = 0 ∨ n = 4095 then 0 else 1 := by
  rw [mappableTag, dif_pos h]
  split_ifs <;> rfl

/-- The tags of a block (R95). -/
theorem mem_blockTags {base k : Nat} {v : Tag} : v ∈ blockTags base k ↔
    (alignedBase base k ≤ v.val ∧ v.val < alignedBase base k + 2 ^ k) ∧ v ≠ 0 ∧ v ≠ 4095 := by
  simp only [blockTags_eq, List.mem_filterMap, List.mem_range, mappableTag_eq_some]
  constructor
  · rintro ⟨j, hj, hv, unreserved⟩
    exact ⟨by omega, unreserved⟩
  · rintro ⟨⟨hlow, hhigh⟩, unreserved⟩
    exact ⟨v.val - alignedBase base k, by omega, by omega, unreserved⟩

/-- Of a run of numbers up to 4095, all but the reserved ones are tags that may be mapped. -/
theorem mappableTags_length {low n : Nat} (h : low + n ≤ 4096) :
    ((List.range n).filterMap fun j => mappableTag (low + j)).length =
      n - (if low = 0 ∧ 0 < n then 1 else 0) - (if 0 < n ∧ low + n = 4096 then 1 else 0) := by
  induction n with
  | zero => simp
  | succ n ih =>
    have last : ([n].filterMap fun j => mappableTag (low + j)) = (mappableTag (low + n)).toList := by
      rw [List.filterMap_eq_flatMap_toList, List.flatMap_singleton]
    rw [List.range_succ, List.filterMap_append, List.length_append, ih (by omega), last, mappableTag_count (by omega)]
    split_ifs <;> omega

/-- A block ends at the last tag or before it. -/
theorem alignedBase_block_le {base k : Nat} (hb : base ≤ 4095) (hk : k ≤ 8) : alignedBase base k + 2 ^ k ≤ 4096 := by
  obtain ⟨blocks, hm⟩ : 2 ^ k ∣ 2 ^ 12 := Nat.pow_dvd_pow 2 (by omega)
  have below : base / 2 ^ k < blocks := Nat.div_lt_of_lt_mul (by omega)
  calc alignedBase base k + 2 ^ k = 2 ^ k * (base / 2 ^ k + 1) := by
        have := Nat.div_add_mod base (2 ^ k)
        rw [alignedBase, Nat.mul_add, Nat.mul_one]
        omega
    _ ≤ 2 ^ k * blocks := Nat.mul_le_mul_left _ below
    _ = 4096 := hm.symm

/-- The number of entries a MAP_TAGS writes (R95). -/
theorem blockTags_length {base k : Nat} (hb : base ≤ 4095) (hk : k ≤ 8) : (blockTags base k).length =
    2 ^ k - (if alignedBase base k = 0 then 1 else 0) - (if alignedBase base k + 2 ^ k = 4096 then 1 else 0) := by
  have nonempty : 0 < 2 ^ k := Nat.two_pow_pos k
  rw [blockTags_eq, mappableTags_length (alignedBase_block_le hb hk)]
  simp only [nonempty, and_true, true_and]

/-- The tags of a list have the flow written. -/
theorem writeTags_get_mem {l : List Tag} (v : Option FlowIdx) {t : Tag} (ht : t ∈ l) :
    ∀ s : State, (s.writeTags l v).tags.get t = v := by
  induction l with
  | nil => cases ht
  | cons x rest ih =>
    intro s
    by_cases later : t ∈ rest
    · exact ih later { s with tags := s.tags.put x v }
    · obtain rfl : t = x := (List.mem_cons.mp ht).resolve_right later
      exact (writeTags_get rest v later { s with tags := s.tags.put t v }).trans (Table.get_put_same ..)

/-! ### MAP_TAGS -/

theorem checkMapTags_range {b : TagsBody} {s : State} (h : 4095 < b.base) : checkMapTags b s = .refuse .range :=
  if_pos h

/-- The checks of MAP_TAGS on a base that is a tag are those on its target (R95). -/
theorem checkMapTags_refuse {b : TagsBody} {s : State} {st : Status} (hb : b.base ≤ 4095)
    (ht : s.tagTarget b.target = .error st) : checkMapTags b s = .refuse st := by
  rw [checkMapTags, if_neg (not_lt.mpr hb), ht]

theorem checkMapTags_take {b : TagsBody} {s : State} {target : Option FlowIdx} (hb : b.base ≤ 4095)
    (ht : s.tagTarget b.target = .ok target) : checkMapTags b s =
      .take (if 8 < b.k then .clamped else .ok) (fun s => s.writeTags (blockTags b.base (min 8 b.k)) target)
        (num16 (alignedBase b.base (min 8 b.k)) ++ num16 (blockTags b.base (min 8 b.k)).length) := by
  rw [checkMapTags, if_neg (not_lt.mpr hb), ht, min_comm]
  simp [okOr]

/-- Settles O55: the checks of MAP_TAGS in their order, and the block it writes. -/
theorem mapTagsWritesTheBlock : Obligations.MapTagsWritesTheBlock := by
  intro src body s hl refused base k given low
  have given_target (h : given = true) : (readTagsBody body).target = some (nat16At body 4) := if_pos h
  have absent_target (h : given = false) : (readTagsBody body).target = none := if_neg (Bool.eq_false_iff.mp h)
  refine ⟨fun hb => ?_, fun hb hg hn => ?_, fun f hb hg hf unbound => ?_, fun target hb ht => ?_⟩
  · exact answer_refuse hl (checkMapTags_range hb)
  · exact answer_refuse hl (checkMapTags_refuse hb (by rw [given_target hg, State.tagTarget, flowOf_eq_none hn]))
  · refine answer_refuse hl (checkMapTags_refuse hb ?_)
    simp only [given_target hg, State.tagTarget, flowOf_eq_some hf, unbound, if_true]
  · have passed : s.tagTarget (readTagsBody body).target = .ok target := by
      rcases ht with ⟨hg, rfl⟩ | ⟨f, hg, rfl, hf, bound⟩
      · rw [absent_target hg, State.tagTarget]
      · simp only [given_target hg, State.tagTarget, flowOf_eq_some hf, bound, if_false]
    refine ⟨(s.controlledBy src).writeTags (blockTags base k) target, ?_, fun v hlow hhigh h0 h4095 => ?_,
      fun v outside => ?_, rfl, (s.controlledBy_same src).then (State.writeTags_same _ _ _) rfl rfl⟩
    · have count : (blockTags base k).length = _ := blockTags_length hb (min_le_left 8 _)
      refine (answer_take hl (checkMapTags_take hb passed)).trans ?_
      show Host.Outcome.next (State.complete _ src body ⟨_, _, _ ++ num16 (blockTags base k).length⟩) = _
      rw [count]
      rfl
    · exact writeTags_get_mem target (mem_blockTags.mpr ⟨⟨hlow, hhigh⟩, h0, h4095⟩) _
    · refine writeTags_get _ target (fun inside => ?_) _
      obtain ⟨⟨hlow, hhigh⟩, h0, h4095⟩ := mem_blockTags.mp inside
      rcases outside with below | above | zero | last
      · exact absurd hlow (not_le.mpr below)
      · exact absurd hhigh (not_lt.mpr above)
      · exact h0 zero
      · exact h4095 last

end Sys2Proof.Machine

namespace Sys2Proof.Machine

/-! ### Packets the part seals (R96, R189) -/

section
variable (l : List Byte)

/-- A packet's bytes as they are sealed: zero bytes up to 60 behind them (R189). -/
def padded : List Byte := l ++ List.replicate (60 - l.length) 0#8

theorem sealPacket_eq : sealPacket l = padded l ++ fcsBytes (padded l) := rfl

theorem padded_length : (padded l).length = max 60 l.length := by
  rw [padded, List.length_append, List.length_replicate]
  omega

theorem sealPacket_length : (sealPacket l).length = max 64 (l.length + 4) := by
  rw [sealPacket_eq, List.length_append, padded_length]
  show _ + 4 = _
  omega

theorem length_sub_fcs : (sealPacket l).length - 4 = (padded l).length := by
  rw [sealPacket_length, padded_length]
  omega

theorem withoutFcs_sealPacket : withoutFcs (sealPacket l) = padded l := by
  rw [withoutFcs, length_sub_fcs, sealPacket_eq, List.take_left]

/-- A sealed packet passes the FCS check (R96). -/
theorem fcsChecks_sealPacket : fcsChecks (sealPacket l) = true := by
  rw [fcsChecks, withoutFcs_sealPacket, length_sub_fcs, sealPacket_eq, List.drop_left, beq_self_eq_true]

end

/-! ### Management packets (R96, R177) -/

section
variable (dest src : Mac) (payload : List Byte)

theorem managementPacket_destOf : destOf (managementPacket dest src payload) = dest := macAt_of rfl

theorem managementPacket_sourceOf : sourceOf (managementPacket dest src payload) = src := macAt_of rfl

theorem managementPacket_type : word16At (managementPacket dest src payload) 12 = managementType := word16At_of rfl

theorem managementPacket_typeOffset : typeOffset (managementPacket dest src payload) = 12 := by
  rw [typeOffset, isTagged, managementPacket_type]
  rfl

/-- The payload of a management packet is read with the zero bytes that pad the packet (R189). -/
theorem managementPacket_payloadOf :
    ∃ n, payloadOf (managementPacket dest src payload) = payload ++ List.replicate n 0#8 := by
  rw [payloadOf, managementPacket_typeOffset, managementPacket, withoutFcs_sealPacket]
  exact ⟨_, rfl⟩

theorem managementPacket_isManagement {s : State} (h : s.setup.address = dest) :
    s.isManagement (managementPacket dest src payload) = true := by
  rw [State.isManagement, managementPacket_typeOffset, managementPacket_type, managementPacket_destOf, h]
  simp

theorem managementPacket_length : (managementPacket dest src payload).length = max 64 (18 + payload.length) := by
  rw [managementPacket, sealPacket_length]
  simp only [List.length_append, be48_length, be16_length]
  omega

end

/-! ### Command records laid out (R174) -/

theorem CmdRecord.bytes_length (r : CmdRecord) : r.bytes.length = 4 + r.body.length := by
  rw [CmdRecord.bytes, List.length_append, List.length_cons, List.length_cons, num16_length]

/-- A command record at the head of some bytes is read back, and the walk goes on behind it. -/
theorem walkRecords_bytes {r : CmdRecord} (h : r.body.length < 65536) (n : Nat) (l : List Byte) :
    walkRecords (n + 1) (r.bytes ++ l) = (walkRecords n l).map fun rs => r :: rs := by
  have stands : StandsAt (r.bytes ++ l) 2 (num16 r.body.length) := rfl
  have length : nat16At (r.bytes ++ l) 2 = r.body.length := (nat16At_of stands).trans (Nat.mod_eq_of_lt h)
  have fits : ¬ (r.bytes ++ l).length < 4 + r.body.length := by
    rw [List.length_append, r.bytes_length]
    omega
  have code : byteAt (r.bytes ++ l) 0 = r.code := byteAt_of rfl
  have body : ((r.bytes ++ l).drop 4).take r.body.length = r.body :=
    List.take_left (l₁ := r.body)
  rw [walkRecords, length, if_neg fits, code, body, ← r.bytes_length, List.drop_left]

/-- Command records laid out one behind the other are read back, whatever stands behind them. -/
theorem walkRecords_flatMap {rs : List CmdRecord} (h : ∀ r ∈ rs, r.body.length < 65536) (l : List Byte) :
    walkRecords rs.length (rs.flatMap CmdRecord.bytes ++ l) = some rs := by
  induction rs with
  | nil => rfl
  | cons r rest ih =>
    rw [List.flatMap_cons, List.append_assoc, List.length_cons, walkRecords_bytes (h r (by simp)),
      ih fun q hq => h q (by simp [hq])]
    rfl

/-- The payload of a request (spec/11, 11.1). -/
def requestPayload (tag : Word16) (rs : List CmdRecord) : List Byte :=
  1#8 :: 1#8 :: be16 tag ++ [num8 rs.length, 0#8] ++ rs.flatMap CmdRecord.bytes

theorem requestPacket_eq (dest src : Mac) (tag : Word16) (rs : List CmdRecord) :
    requestPacket dest src tag rs = managementPacket dest src (requestPayload tag rs) := rfl

theorem requestPayload_length (tag : Word16) (rs : List CmdRecord) :
    (requestPayload tag rs).length = 6 + (rs.map fun r => 4 + r.body.length).sum := by
  have records : (rs.flatMap CmdRecord.bytes).length = (rs.map fun r => 4 + r.body.length).sum := by
    rw [List.length_flatMap]
    exact congrArg List.sum (List.map_congr_left fun r _ => r.bytes_length)
  rw [requestPayload, List.length_append, records]
  rfl

/-- A packet from no group address whose payload is that of a request with 1 to 16 records, and any bytes behind
them, is well formed (R174, R189). -/
theorem requestForm_good {p : Packet} {tag : Word16} {rs : List CmdRecord} {rest : List Byte}
    (hp : payloadOf p = requestPayload tag rs ++ rest) (hs : isGroup (sourceOf p) = false) (h1 : 1 ≤ rs.length)
    (h16 : rs.length ≤ 16) (hr : ∀ r ∈ rs, r.body.length < 65536) : requestForm p = .good rs := by
  have version : byteAt (payloadOf p) 0 = 1#8 := hp ▸ byteAt_of rfl
  have kind : byteAt (payloadOf p) 1 = 1#8 := hp ▸ byteAt_of rfl
  have count : nat8At (payloadOf p) 4 = rs.length :=
    (hp ▸ nat8At_of (n := rs.length) rfl : _ = rs.length % 256).trans (Nat.mod_eq_of_lt (by omega))
  have records : (payloadOf p).drop 6 = rs.flatMap CmdRecord.bytes ++ rest := hp ▸ rfl
  have commands : ¬ (rs.length < 1 ∨ Config.commandMax < rs.length) := not_or.mpr ⟨not_lt.mpr h1, not_lt.mpr h16⟩
  simp only [requestForm, hs, version, kind, count, commands, records, walkRecords_flatMap hr, ne_eq,
    not_true_eq_false, Bool.false_eq_true, if_false]

/-- Settles O12: each field of a request packet is read where it was laid out. -/
theorem requestsReadBack : Obligations.RequestsReadBack := by
  intro dest src tag rs hg h1 h16 hr p
  obtain ⟨n, hp⟩ : ∃ n, payloadOf p = requestPayload tag rs ++ List.replicate n 0#8 :=
    managementPacket_payloadOf dest src _
  have source : sourceOf p = src := managementPacket_sourceOf dest src _
  refine ⟨requestForm_good hp (source.symm ▸ hg) h1 h16 hr, managementPacket_destOf dest src _, source,
    hp ▸ word16At_of rfl, fcsChecks_sealPacket _, fun s h => managementPacket_isManagement dest src _ h, ?_⟩
  have length : p.length = max 64 (18 + (requestPayload tag rs).length) := managementPacket_length dest src _
  rw [length, requestPayload_length]
  omega

end Sys2Proof.Machine

namespace Sys2Proof.Machine

/-! ### The transmitter's line (R177) -/

/-- A transmitter that starts keeps its packets in their order. -/
theorem Transmitter.start_line (t : Transmitter) : t.start.line = t.line := by
  obtain ⟨sending, queue⟩ := t
  cases sending with
  | some _ => rfl
  | none =>
    cases queue with
    | nil => rfl
    | cons _ _ => rfl

theorem Transmitter.hand_line (t : Transmitter) (p : Packet) : (t.hand p).line = t.line ++ [p] :=
  (Transmitter.start_line _).trans (List.append_assoc ..).symm

/-- A transmitter that has sent its packet sends the next one waiting. -/
theorem Transmitter.finish_eq (t : Transmitter) : t.finish = ⟨t.queue.head?, t.queue.tail⟩ := by
  obtain ⟨sending, queue⟩ := t
  cases queue with
  | nil => rfl
  | cons _ _ => rfl

theorem Transmitter.finish_line (t : Transmitter) : t.finish.line = t.queue := Transmitter.start_line _

/-- A transmit queue within its limit has room once its first packet is being sent. -/
theorem Transmitter.finish_hasRoom {t : Transmitter} (h : t.queue.length ≤ 64) : t.finish.hasRoom = true := by
  rw [Transmitter.finish_eq]
  refine decide_eq_true ?_
  show t.queue.tail.length < 64
  rw [List.length_tail]
  omega

theorem Transmitter.opportunity_iff (t : Transmitter) : t.opportunity = true ↔ t.line = [] := by
  rw [Transmitter.opportunity, Transmitter.line, Bool.and_eq_true, List.append_eq_nil_iff, Option.isNone_iff_eq_none,
    List.isEmpty_iff, Option.toList_eq_nil_iff]

/-! ### Payload, responses and notices leave -/

section
variable {s : State}

theorem forwardPacket_forwarded {p : Packet} (h : 64 ≤ p.length ∧ p.length ≤ 9216 ∧ s.tx.queue.length < 64) :
    s.forwardPacket p =
      { s with tx := s.tx.hand p }.count fun k => { k with upForwarded := satAdd k.upForwarded 1 } :=
  if_pos ⟨h.1, h.2.1, decide_eq_true h.2.2⟩

theorem forwardPacket_dropped {p : Packet} (h : ¬ (64 ≤ p.length ∧ p.length ≤ 9216 ∧ s.tx.queue.length < 64)) :
    s.forwardPacket p = s.count fun k => { k with upDropped := satAdd k.upDropped 1 } :=
  if_neg fun ⟨hmin, hmax, room⟩ => h ⟨hmin, hmax, of_decide_eq_true room⟩

theorem respond_handed {p : Packet} (h : s.tx.hasRoom = true) : s.respond p =
    { s with mgmt := { s.mgmt with requests := s.mgmt.requests.tail, held := none }, tx := s.tx.hand p } :=
  if_pos h

theorem finishSending_idle (h : s.tx.sending = none) : s.finishSending = s := by
  rw [State.finishSending, h]
  rfl

/-- A packet sent with no response held only moves the line on (R177). -/
theorem finishSending_none {p : Packet} (h : s.tx.sending = some p) (hh : s.mgmt.held = none) :
    s.finishSending = { s with tx := s.tx.finish } := by
  simp only [State.finishSending, h, Option.isSome_some, if_true, hh]

/-- A packet sent with a response held makes room for it (R177). -/
theorem finishSending_held {p r : Packet} (h : s.tx.sending = some p) (hh : s.mgmt.held = some r) :
    s.finishSending = { s with tx := s.tx.finish }.respond r := by
  simp only [State.finishSending, h, Option.isSome_some, if_true, hh]

/-- A notice's class, kind, subject and detail are those of spec/11, 11.4. -/
theorem NoticeBody.laid_eq (b : NoticeBody) : b.laid = (b.cls.code, b.kind, b.subject, b.detail) := by
  cases b with
  | attempt i c o n => cases o <;> rfl
  | shed f i x k p load => cases x <;> rfl
  | stale f i st n => cases st <;> rfl
  | _ => rfl

/-- The bytes of a notice's payload, the detail at offset 12 (spec/11, 11.4). -/
theorem Notice.payload_eq (x : Notice) : x.payload = [1#8, 3#8] ++ be16 x.seq ++
    [x.body.cls.code, x.body.kind,
      (if x.body.subject.isSome then 1#8 else 0#8) ||| (if x.frame.isSome then 2#8 else 0#8), 0#8] ++
    num16 (x.body.subject.getD 0) ++ be16 (x.frame.getD 0) ++ x.body.detail ++
    List.replicate (34 - x.body.detail.length) 0#8 := by
  have flags (a b : Bool) : flagByte [a, b] = (if a then 1#8 else 0#8) ||| (if b then 2#8 else 0#8) := by
    revert a b; decide
  rw [Notice.payload, flags]
  simp only [frameWord, List.length_append, List.length_cons, List.length_nil, be16_length, num16_length]
  rw [show 46 - _ = 34 - x.body.detail.length by omega]
  simp

/-- The head notice is sent to the controller by a transmitter that holds nothing (R185). -/
theorem sendNotice_sent {x : Notice} {rest : List Notice} {d : Mac} (hn : s.mgmt.notices = x :: rest)
    (hd : s.mgmt.controller = some d) (ht : s.tx.line = []) : s.sendNotice =
      { s with
        mgmt := { s.mgmt with notices := rest }
        tx := { sending := some (managementPacket d s.setup.address x.payload), queue := [] } } := by
  have queue : s.tx.queue = [] := (List.append_eq_nil_iff.mp ht).2
  simp only [State.sendNotice, hn, hd, s.tx.opportunity_iff.mpr ht, if_true, queue]

theorem sendNotice_unsent (h : s.mgmt.notices = [] ∨ s.mgmt.controller = none ∨ s.tx.line ≠ []) :
    s.sendNotice = s := by
  unfold State.sendNotice
  split
  · next hn hd =>
    rw [hn, hd] at h
    have busy : s.tx.line ≠ [] := by simpa using h
    rw [if_neg (mt s.tx.opportunity_iff.mp busy)]
  · rfl

end

/-- Settles O42: what each of the three events does where there is something to send, and where there is not. -/
theorem trunkTransmitterServes : Obligations.TrunkTransmitterServes := by
  refine ⟨fun s p ps => ⟨rfl, rfl, fun hmin hmax room => ?_, fun refused => ?_⟩, fun s p sending => ?_,
    fun s x rest d hn hd sending queue => ?_, fun s idle => ?_, fun s nothing => ?_⟩
  · have forwarded : s.forwardPayload [p] = _ := forwardPacket_forwarded ⟨hmin, hmax, room⟩
    refine ⟨?_, ?_, State.forwardPacket_same s p⟩
    · rw [forwarded]
      exact Transmitter.hand_line _ p
    · rw [forwarded]
      rfl
  · exact forwardPacket_dropped (by omega)
  · refine ⟨s.finishSending, rfl, fun held => ?_, fun r held bounded => ?_, s.finishSending_same⟩
    · rw [finishSending_none sending held]
      exact ⟨s.tx.finish_line, fun _ => congrArg Transmitter.sending s.tx.finish_eq, rfl⟩
    · rw [finishSending_held sending held, respond_handed (s.tx.finish_hasRoom bounded)]
      exact ⟨(Transmitter.hand_line _ r).trans (congrArg (· ++ [r]) s.tx.finish_line), rfl⟩
  · have empty : s.tx.line = [] := by rw [Transmitter.line, sending, queue]; rfl
    have sent : exec .noticeSend s = .next _ := congrArg Host.Outcome.next (sendNotice_sent hn hd empty)
    rw [NoticeBody.laid_eq]
    refine ⟨x.payload_eq ▸ sent, fun fits => ?_⟩
    · simp only [List.length_append, List.length_cons, List.length_nil, be16_length, num16_length,
        List.length_replicate]
      omega
  · exact congrArg Host.Outcome.next (finishSending_idle idle)
  · exact congrArg Host.Outcome.next (sendNotice_unsent nothing)

end Sys2Proof.Machine

namespace Sys2Proof.Machine

/-! ### What the Capacity Ledger reads of a record -/

/-- What a flow counts in the need of a direction of its terminal (R107). -/
def Flow.charge (r : Flow) (x : Direction) : Nat := if r.dir = x ∧ r.state = .admitted then r.cb else 0

/-- What the chains, the needs and the Readmission List read of a flow. -/
structure FlowAccount where
  bound : Option Slot
  cls : Fin 8
  next : Option FlowIdx
  state : FlowState
  charge : Direction → Nat

/-- The account of a flow's record. -/
def Flow.account (r : Flow) : FlowAccount := ⟨r.bound, r.cls, r.chainNext, r.state, r.charge⟩

/-- The profile a terminal is priced at, where it is serviced (R107). -/
def Terminal.standing (t : Terminal) : Option (Option ProfIdx) :=
  if t.state.serviced = true then some t.current else none

/-- What the chains and the loads read of a terminal. -/
structure TermAccount where
  head : Option FlowIdx
  standing : Option (Option ProfIdx)
  needUp : Nat
  needDown : Nat

/-- The account of a terminal's record. -/
def Terminal.account (t : Terminal) : TermAccount := ⟨t.chainHead, t.standing, t.needUp, t.needDown⟩

theorem Flow.charge_of_ne {r : Flow} (h : r.state ≠ .admitted) (x : Direction) : r.charge x = 0 :=
  if_neg fun k => h k.2

theorem Terminal.standing_eq_some {t : Terminal} {o : Option ProfIdx} :
    t.standing = some o ↔ t.state.serviced = true ∧ t.current = o := by
  rw [Terminal.standing]
  split
  · next h => simp [h]
  · next h => simp [h]

theorem Terminal.standing_eq_none {t : Terminal} : t.standing = none ↔ t.state.serviced = false := by
  rw [Terminal.standing]
  split
  · next h => simp [h]
  · next h => simp [h]

/-- Two terminals of one standing are serviced alike. -/
theorem serviced_of_standing {t u : Terminal} (h : t.standing = u.standing) : t.state.serviced = u.state.serviced := by
  cases k : u.state.serviced
  · exact Terminal.standing_eq_none.mp (h.trans (Terminal.standing_eq_none.mpr k))
  · exact (Terminal.standing_eq_some.mp (h.trans (Terminal.standing_eq_some.mpr ⟨k, rfl⟩))).1

theorem account_ext {t u : Terminal} (hh : t.chainHead = u.chainHead) (hs : t.standing = u.standing)
    (hu : t.needUp = u.needUp) (hd : t.needDown = u.needDown) : t.account = u.account := by
  rw [Terminal.account, Terminal.account, hh, hs, hu, hd]

section
variable {t u : Terminal} (h : t.account = u.account)
include h

theorem head_of_account : t.chainHead = u.chainHead := congrArg TermAccount.head h

theorem standing_of_account : t.standing = u.standing := congrArg TermAccount.standing h

theorem need_of_account (x : Direction) : t.need x = u.need x := by
  cases x with
  | up => exact congrArg TermAccount.needUp h
  | down => exact congrArg TermAccount.needDown h

end

section
variable {r q : Flow} (h : r.account = q.account)
include h

theorem links_of_account : r.bound = q.bound ∧ r.cls = q.cls ∧ r.chainNext = q.chainNext :=
  ⟨congrArg FlowAccount.bound h, congrArg FlowAccount.cls h, congrArg FlowAccount.next h⟩

theorem state_of_account : r.state = q.state := congrArg FlowAccount.state h

theorem charge_of_account (x : Direction) : r.charge x = q.charge x := congrFun (congrArg FlowAccount.charge h) x

end

/-! ### Needs by the charges of a chain -/

theorem sumCB_eq_charges (s : State) (x : Direction) (l : List FlowIdx) :
    s.sumCB x [] l = (l.map fun f => (s.flow f).charge x).sum := by
  simp [State.sumCB, Flow.charge]

/-- A need does not rise where the terminal has not entered service or changed its profile, and the CB summed over its
chain does not rise (R107). -/
theorem needWith_le_of_sums {s t : State} {i : Slot} {x : Direction}
    (hs : (t.term i).state.serviced = true → (t.term i).standing = (s.term i).standing)
    (hm : t.setup.m = s.setup.m) (hp : t.profiles = s.profiles)
    (h : t.sumCB x [] (t.chain i) ≤ s.sumCB x [] (s.chain i)) : t.needWith i x [] ≤ s.needWith i x [] := by
  cases k : (t.term i).state.serviced with
  | false => rw [needWith_unserviced k]; exact Nat.zero_le _
  | true =>
    have st := hs k
    rw [Terminal.standing, if_pos k, eq_comm, Terminal.standing_eq_some] at st
    obtain ⟨served, current⟩ := st
    have pricing : t.pricing i = s.pricing i := by simp only [State.pricing, current, profile_of_profiles hp]
    have cost := priced_mono (s.pricing i) h
    simp only [State.needWith, k, served, hm, pricing, if_true]
    cases x with
    | up => dsimp only; split_ifs <;> omega
    | down => dsimp only; split_ifs <;> omega

/-- A need does not rise where no flow of the terminal's chain is charged more (R107). -/
theorem needWith_le_of_charges {s t : State} {i : Slot} {x : Direction}
    (hs : (t.term i).state.serviced = true → (t.term i).standing = (s.term i).standing)
    (hl : t.chain i = s.chain i) (hm : t.setup.m = s.setup.m) (hp : t.profiles = s.profiles)
    (h : ∀ f ∈ s.chain i, (t.flow f).charge x ≤ (s.flow f).charge x) : t.needWith i x [] ≤ s.needWith i x [] := by
  refine needWith_le_of_sums hs hm hp ?_
  rw [sumCB_eq_charges, sumCB_eq_charges, hl]
  exact List.sum_le_sum h

/-- A need is the same where the terminal's standing is, and the charges of its chain are (R107). -/
theorem needWith_eq_of_charges {s t : State} {i : Slot} {x : Direction}
    (hs : (t.term i).standing = (s.term i).standing)
    (hl : t.chain i = s.chain i) (hm : t.setup.m = s.setup.m) (hp : t.profiles = s.profiles)
    (h : ∀ f ∈ s.chain i, (t.flow f).charge x = (s.flow f).charge x) :
    t.needWith i x [] = s.needWith i x [] :=
  le_antisymm (needWith_le_of_charges (fun _ => hs) hl hm hp fun f hf => (h f hf).le)
    (needWith_le_of_charges (fun _ => hs.symm) hl.symm hm.symm hp.symm fun f hf => (h f (hl ▸ hf)).ge)

/-! ### Sound books -/

/-- Every ADMITTED flow is bound to a serviced terminal (R107). -/
def AdmittedServed (s : State) : Prop :=
  ∀ f, (s.flow f).state = .admitted → ∃ i, (s.flow f).bound = some i ∧ (s.term i).state.serviced = true

/-- The chains and the setup record are sound, the ADMITTED flows are those of serviced terminals, and needs and loads
are those of R107 and R108; the loads may exceed the capacity. -/
structure Priced (s : State) : Prop where
  chains : ChainsSound s
  setup : SetupSound s
  served : AdmittedServed s
  needs : NeedsSound s
  loads : LoadsSound s

/-- The books are sound and the loads lie within the capacity (R106, R110). -/
structure Solvent (s : State) : Prop extends Priced s where
  fits : ∀ x, s.load x ≤ s.setup.capacity x

theorem solvent_iff (s : State) : Solvent s ↔ ChainsSound s ∧ SetupSound s ∧ LedgerSound s := by
  constructor
  · rintro ⟨⟨chains, setup, served, needs, up, down⟩, fits⟩
    exact ⟨chains, setup, served, needs, up, down, fits .up, fits .down⟩
  · rintro ⟨chains, setup, served, needs, up, down, fitsUp, fitsDown⟩
    refine ⟨⟨chains, setup, served, needs, up, down⟩, fun x => ?_⟩
    cases x with
    | up => exact fitsUp
    | down => exact fitsDown

/-! ### What an operation keeps of the books -/

/-- Between two states the Readmission List stays that of the WAITING flows; and on a premise the books stay sound. -/
structure Booked (p : Prop) (s t : State) : Prop where
  list : ReadmissionSound s → ReadmissionSound t
  ledger : p → Solvent s → Solvent t

section
variable {p q : Prop} {s t u : State}

theorem Booked.refl (s : State) : Booked p s s := ⟨id, fun _ h => h⟩

theorem Booked.trans (h : Booked p s t) (k : Booked p t u) : Booked p s u :=
  ⟨fun x => k.list (h.list x), fun hp x => k.ledger hp (h.ledger hp x)⟩

theorem Booked.mono (h : Booked p s t) (k : q → p) : Booked q s t := ⟨h.list, fun hq => h.ledger (k hq)⟩

theorem Booked.of (h : Booked p s t) (hp : p) : Booked q s t := h.mono fun _ => hp

/-- A change booked on either condition is booked. -/
theorem Booked.ite {c : Prop} [Decidable c] (h : Booked p s t) (k : Booked p s u) :
    Booked p s (if c then t else u) := by
  split
  · exact h
  · exact k

theorem Booked.foldl {α : Type} {g : State → α → State} (h : ∀ s a, Booked p s (g s a)) (l : List α) :
    ∀ s, Booked p s (l.foldl g s) := by
  induction l with
  | nil => exact Booked.refl
  | cons a rest ih => exact fun s => (h s a).trans (ih _)

end

/-! ### Accounts kept -/

/-- The second state has the first's accounts, Readmission List, loads, setup record and profile table. -/
structure SameBooks (s t : State) : Prop where
  setup : t.setup = s.setup
  profiles : t.profiles = s.profiles
  ledger : t.ledger = s.ledger
  flow : ∀ f, (t.flow f).account = (s.flow f).account
  term : ∀ i, (t.term i).account = (s.term i).account

section
variable {p : Prop} {s t u : State}

/-- The Readmission List stays that of the WAITING flows where neither it nor what flows are WAITING changes. -/
theorem ReadmissionSound.congr (h : ReadmissionSound s) (hl : t.ledger.list = s.ledger.list)
    (hf : ∀ f, (t.flow f).state.isWaiting = (s.flow f).state.isWaiting) : ReadmissionSound t := by
  obtain ⟨nodup, mem⟩ := h
  rw [ReadmissionSound, hl]
  exact ⟨nodup, fun f => by rw [mem, hf]⟩

theorem load_of_ledger (h : t.ledger = s.ledger) (x : Direction) : t.load x = s.load x := by
  cases x <;> simp only [State.load, h]

theorem SameBooks.links (h : SameBooks s t) : SameLinks s t :=
  ⟨fun f => links_of_account (h.flow f), fun i => head_of_account (h.term i)⟩

theorem SameLinks.chain (h : SameLinks s t) (i : Slot) : t.chain i = s.chain i :=
  chain_congr (h.head i) fun f => (h.flow f).2.2

/-- ADMITTED flows stay those of serviced terminals where no flow becomes ADMITTED and their terminals stay serviced. -/
theorem AdmittedServed.congr (h : AdmittedServed s)
    (hf : ∀ f, (t.flow f).state = .admitted → (s.flow f).state = .admitted ∧ (t.flow f).bound = (s.flow f).bound)
    (hs : ∀ f i, (t.flow f).state = .admitted → (t.flow f).bound = some i → (s.term i).state.serviced = true →
      (t.term i).state.serviced = true) : AdmittedServed t := by
  intro f ha
  obtain ⟨admitted, bound⟩ := hf f ha
  obtain ⟨i, hb, served⟩ := h f admitted
  exact ⟨i, bound.trans hb, hs f i ha (bound.trans hb) served⟩

/-- What needs and loads read is the same in the second state: no flow has become ADMITTED, and each is charged as it
was. -/
structure SameLoads (s t : State) : Prop where
  links : SameLinks s t
  setup : t.setup = s.setup
  profiles : t.profiles = s.profiles
  load : ∀ x, t.load x = s.load x
  admitted : ∀ f, (t.flow f).state = .admitted → (s.flow f).state = .admitted
  charge : ∀ f x, (t.flow f).charge x = (s.flow f).charge x
  term : ∀ i, (t.term i).account = (s.term i).account

theorem SameLoads.priced (h : SameLoads s t) (k : Priced s) : Priced t where
  chains := h.links.chainsSound k.chains
  setup := by rw [SetupSound, h.setup]; exact k.setup
  served := k.served.congr (fun f ha => ⟨h.admitted f ha, (h.links.flow f).1⟩)
    fun _ i _ _ hs => by rw [serviced_of_standing (standing_of_account (h.term i))]; exact hs
  needs i x := by
    rw [need_of_account (h.term i), k.needs i x]
    exact (needWith_eq_of_charges (standing_of_account (h.term i)) (h.links.chain i) (congrArg _ h.setup) h.profiles
      fun f _ => h.charge f x).symm
  loads := k.loads.congr h.load fun i x => need_of_account (h.term i) x

theorem SameLoads.solvent (h : SameLoads s t) (k : Solvent s) : Solvent t where
  toPriced := h.priced k.toPriced
  fits x := by rw [h.load, h.setup]; exact k.fits x

theorem SameBooks.sameLoads (h : SameBooks s t) : SameLoads s t :=
  ⟨h.links, h.setup, h.profiles, load_of_ledger h.ledger, fun f ha => state_of_account (h.flow f) ▸ ha,
    fun f x => charge_of_account (h.flow f) x, h.term⟩

theorem SameBooks.solvent (h : SameBooks s t) (k : Solvent s) : Solvent t := h.sameLoads.solvent k

theorem SameBooks.booked (h : SameBooks s t) : Booked p s t where
  list k := k.congr (congrArg _ h.ledger) fun f => by rw [state_of_account (h.flow f)]
  ledger _ := h.solvent

/-- The parts of the state that no account reads. -/
def asideParts : List Part := [.pending, .straps, .tags, .link, .reentry, .buffer, .resultStamp, .mgmt, .tx, .counters]

section
variable {ps : List Part} (h : SameBut ps s t)
include h

/-- A change aside from terminals, flows, ledger, setup and profiles keeps the books. -/
theorem SameBut.sameBooks (hp : (ps.all fun q => asideParts.contains q) = true := by rfl) : SameBooks s t := by
  have k : SameBut asideParts s t := h.mono hp
  exact ⟨k .setup (by decide), k .profiles (by decide), k .ledger (by decide),
    fun f => by rw [flow_of_flows (k .flows (by decide))], fun i => by rw [term_of_terms (k .terms (by decide))]⟩

theorem SameBut.booked (hp : (ps.all fun q => asideParts.contains q) = true := by rfl) : Booked p s t :=
  (h.sameBooks hp).booked

/-- A change of flows that keeps their accounts keeps the books. -/
theorem SameBut.sameBooks_of_flows (hf : ∀ f, (t.flow f).account = (s.flow f).account)
    (hp : (ps.all fun q => (.flows :: asideParts).contains q) = true := by rfl) : SameBooks s t := by
  have k : SameBut (.flows :: asideParts) s t := h.mono hp
  exact ⟨k .setup (by decide), k .profiles (by decide), k .ledger (by decide), hf,
    fun i => by rw [term_of_terms (k .terms (by decide))]⟩

/-- A change of terminals that keeps their accounts keeps the books. -/
theorem SameBut.sameBooks_of_terms (ht : ∀ i, (t.term i).account = (s.term i).account)
    (hp : (ps.all fun q => (.terms :: asideParts).contains q) = true := by rfl) : SameBooks s t := by
  have k : SameBut (.terms :: asideParts) s t := h.mono hp
  exact ⟨k .setup (by decide), k .profiles (by decide), k .ledger (by decide),
    fun f => by rw [flow_of_flows (k .flows (by decide))], ht⟩

/-- A change of terminals alone is booked where it keeps their accounts on the premise. -/
theorem SameBut.booked_of_terms (ht : p → ∀ i, (t.term i).account = (s.term i).account)
    (hp : (ps.all fun q => (.terms :: asideParts).contains q) = true := by rfl) : Booked p s t where
  list k := by
    have same : SameBut (.terms :: asideParts) s t := h.mono hp
    exact k.congr (congrArg _ (same .ledger (by decide))) fun f => by rw [flow_of_flows (same .flows (by decide))]
  ledger hpr := (h.sameBooks_of_terms (ht hpr) hp).solvent

end

end

/-! ### One record changed -/

section
variable {p : Prop} (s : State)

theorem sameBooks_modFlow (f : FlowIdx) {g : Flow → Flow}
    (h : (g (s.flow f)).account = (s.flow f).account := by exact rfl) : SameBooks s (s.modFlow f g) :=
  (s.modFlow_same f g).sameBooks_of_flows fun j => by
    rw [State.modFlow_flow]
    split
    · next e => subst e; exact h
    · rfl

theorem booked_modFlow (f : FlowIdx) {g : Flow → Flow}
    (h : (g (s.flow f)).account = (s.flow f).account := by exact rfl) : Booked p s (s.modFlow f g) :=
  (sameBooks_modFlow s f h).booked

/-- A change of one terminal's record keeps the accounts where it keeps that of the record. -/
theorem modTerm_accounts (i : Slot) {g : Terminal → Terminal} (h : (g (s.term i)).account = (s.term i).account)
    (j : Slot) : ((s.modTerm i g).term j).account = (s.term j).account := by
  rw [State.modTerm_term]
  split
  · next e => subst e; exact h
  · rfl

theorem sameBooks_modTerm (i : Slot) {g : Terminal → Terminal}
    (h : (g (s.term i)).account = (s.term i).account := by exact rfl) : SameBooks s (s.modTerm i g) :=
  (s.modTerm_same i g).sameBooks_of_terms (modTerm_accounts s i h)

theorem booked_modTerm (i : Slot) {g : Terminal → Terminal}
    (h : (g (s.term i)).account = (s.term i).account := by exact rfl) : Booked p s (s.modTerm i g) :=
  (sameBooks_modTerm s i h).booked

/-- A terminal is not serviced. -/
def State.Out (s : State) (i : Slot) : Prop := (s.term i).state.serviced = false

/-- A terminal out of service that stays so keeps its account. -/
theorem account_of_out {t u : Terminal} (ht : t.state.serviced = false) (hu : u.state.serviced = false)
    (hh : u.chainHead = t.chainHead) (hn : u.needUp = t.needUp ∧ u.needDown = t.needDown) : u.account = t.account :=
  account_ext hh ((Terminal.standing_eq_none.mpr hu).trans (Terminal.standing_eq_none.mpr ht).symm) hn.1 hn.2

/-- A change of a terminal out of service that leaves it there. -/
theorem booked_modTerm_out (i : Slot) {g : Terminal → Terminal}
    (hs : (g (s.term i)).state.serviced = false := by exact rfl)
    (hh : (g (s.term i)).chainHead = (s.term i).chainHead := by exact rfl)
    (hn : (g (s.term i)).needUp = (s.term i).needUp ∧ (g (s.term i)).needDown = (s.term i).needDown := by
      exact ⟨rfl, rfl⟩) : Booked (s.Out i) s (s.modTerm i g) :=
  (s.modTerm_same i g).booked_of_terms fun out => modTerm_accounts s i (account_of_out out hs hh hn)

theorem raise_booked (b : NoticeBody) : Booked p s (s.raise b) := (s.raise_same b).booked

theorem count_booked (f : SectorCounters → SectorCounters) : Booked p s (s.count f) := (s.count_same f).booked

theorem setCtx_booked (c : CtxNo) (a : Option Attempt) : Booked p s (s.setCtx c a) := (s.setCtx_same c a).booked

end

end Sys2Proof.Machine

namespace Sys2Proof.Machine

/-! ### The books through the queues and the release -/

section
variable {p : Prop} (s : State)

/-- A change of flows, and of the buffer or the counters with them, that keeps the flows' accounts. -/
theorem booked_of_flows {ps : List Part} {t : State} (h : SameBut ps s t)
    (hf : ∀ f, (t.flow f).account = (s.flow f).account)
    (hp : (ps.all fun q => (.flows :: asideParts).contains q) = true := by rfl) : Booked p s t :=
  (h.sameBooks_of_flows hf hp).booked

theorem withBuffer_same (b : Buffer) : SameBut [.buffer] s { s with buffer := b } := by
  intro q hq
  cases q <;> first | rfl | exact absurd (by decide) hq

theorem freeUp_booked (n : Nat) : Booked p s (s.freeUp n) := (State.freeUp_same s n).booked

theorem countMarker_booked (f : FlowIdx) (r : Bool) : Booked p s (s.countMarker f r) := by
  simp only [State.countMarker]
  split
  · exact .refl s
  · exact .ite ((booked_modFlow s f).trans (raise_booked _ _)) (booked_modFlow s f)

/-- An entry taken out of a queue, its cells freed and counted by the marker. -/
theorem dequeue_booked (f : FlowIdx) {g : Flow → Flow} (n : Nat) (r : Bool)
    (h : (g (s.flow f)).account = (s.flow f).account := by exact rfl) :
    Booked p s (((s.modFlow f g).freeUp n).countMarker f r) :=
  ((booked_modFlow s f h).trans (freeUp_booked _ n)).trans (countMarker_booked _ f r)

theorem releaseHead_booked (f : FlowIdx) : Booked p s (s.releaseHead f) := by
  unfold State.releaseHead
  split
  · exact .refl s
  · exact dequeue_booked s f _ true

theorem discardStale_booked (f : FlowIdx) : Booked p s (s.discardStale f) := by
  unfold State.discardStale
  split
  · exact .refl s
  · exact dequeue_booked s f _ false

theorem discardTail_booked (f : FlowIdx) : Booked p s (s.discardTail f) := by
  unfold State.discardTail
  split
  · exact .refl s
  · next e _ =>
    have taken : Booked p s ((s.modFlow f fun r => { r with
        queue := r.queue.dropLast
        counters := { r.counters with full := satAdd r.counters.full 1 } }).freeUp e.cells) :=
      (booked_modFlow s f).trans (freeUp_booked _ _)
    simp only []
    split
    · exact taken
    · exact .ite (taken.trans (countMarker_booked _ f false)) taken

theorem trimTail_booked (f : FlowIdx) (n : Nat) : ∀ s : State, Booked p s (State.trimTail f n s) := by
  induction n with
  | zero => exact .refl
  | succ n ih => exact fun s => .ite (.refl s) ((discardTail_booked s f).trans (ih _))

theorem flushQueue_booked (f : FlowIdx) : Booked p s (s.flushQueue f) :=
  (booked_modFlow s f).trans (freeUp_booked _ _)

theorem enqueue_booked (f : FlowIdx) (k : Packet) : Booked p s (s.enqueue f k) :=
  .ite (booked_modFlow s f) <| .ite ((booked_modFlow s f).trans (count_booked _ _)) <|
    (booked_modFlow s f).trans (withBuffer_same _ _).booked

/-! ### Stamp, sweep and credit -/

theorem setStamp_booked (n : FrameNo) : Booked p s (s.setStamp n) := by
  refine booked_of_flows s (s.setStamp_same n) fun f => ?_
  unfold State.setStamp
  dsimp only
  split
  · rw [State.flow, Table.get_map _ _ _ (by rfl)]
    rfl
  · rfl

theorem sweepHeads_booked (n : FrameNo) (f : FlowIdx) (k : Nat) :
    ∀ s : State, Booked p s (State.sweepHeads n f k s) := by
  induction k with
  | zero => exact .refl
  | succ k ih => exact fun s => .ite ((discardStale_booked s f).trans (ih _)) (.refl s)

theorem summarize_booked (f : FlowIdx) (k : Nat) : Booked p s (s.summarize f k) := (s.summarize_same f k).booked

theorem sweep_booked (n : FrameNo) : Booked p s (s.sweep n) :=
  (Booked.foldl (fun s f => sweepHeads_booked n f _ s) _ s).trans (.foldl (fun s f => summarize_booked s f _) _ _)

theorem stepCredit_booked : Booked p s s.stepCredit :=
  booked_of_flows s s.stepCredit_same fun f => by
    rw [show s.stepCredit.flow f = _ from Table.get_map s.flows _ f rfl]
    rfl

/-! ### The passes -/

theorem Pass.release_booked (q : Pass) (i : Slot) (f : FlowIdx) (e : QEntry) (b : Bool) :
    Booked p q.state (q.release i f e b).state :=
  .ite ((releaseHead_booked q.state f).trans (booked_modFlow _ f)) (releaseHead_booked q.state f)

theorem releaseCommitted_booked (i : Slot) (f : FlowIdx) (n : Nat) :
    ∀ q : Pass, Booked p q.state (releaseCommitted i f n q).state := by
  induction n with
  | zero => exact fun q => .refl q.state
  | succ n ih =>
    intro q
    unfold releaseCommitted
    split
    · exact .refl q.state
    · split_ifs
      · exact (q.release_booked i f _ true).trans (ih _)
      · exact .refl q.state

theorem releaseExcess_booked (i : Slot) (f : FlowIdx) (n : Nat) :
    ∀ q : Pass, Booked p q.state (releaseExcess i f n q).state := by
  induction n with
  | zero => exact fun q => .refl q.state
  | succ n ih =>
    intro q
    unfold releaseExcess
    split
    · exact .refl q.state
    · split_ifs
      · exact (q.release_booked i f _ false).trans (ih _)
      · exact .refl q.state

theorem runPass_booked (one : Slot → FlowIdx → Nat → Pass → Pass)
    (h : ∀ i f n q, Booked p q.state (one i f n q).state) (l : List FlowIdx) :
    ∀ q : Pass, Booked p q.state (runPass one l q).state := by
  induction l with
  | nil => exact fun q => .refl q.state
  | cons f rest ih =>
    intro q
    have first : Booked p q.state (match (q.state.flow f).bound with
        | some i => one i f (q.state.flow f).queue.length q
        | none => q).state := by
      split
      · exact h _ f _ q
      · exact .refl q.state
    exact first.trans (ih _)

theorem releaseFrame_booked (n : FrameNo) : Booked p s (s.releaseFrame n) :=
  ((((setStamp_booked s n).trans (sweep_booked _ n)).trans (stepCredit_booked _)).trans
    ((runPass_booked _ releaseCommitted_booked _ ⟨_, _, []⟩).trans (runPass_booked _ releaseExcess_booked _ _))).trans
    (State.sendBursts_same _ n _).booked

theorem staleOnce_booked (f : FlowIdx) : Booked p s (s.staleOnce f) := by
  unfold State.staleOnce
  split
  · exact .ite ((discardStale_booked s f).trans (summarize_booked _ f 1)) (.refl s)
  · exact .refl s

theorem takePacket_booked (k : Packet) : Booked p s (s.takePacket k) := by
  refine .ite (count_booked s _) <| .ite (s.enqueueRequest_same k).booked ?_
  unfold State.classify
  split
  · exact count_booked s _
  · split
    · exact count_booked s _
    · exact booked_modFlow s _
    · exact enqueue_booked s _ k
    · exact enqueue_booked s _ k
    · exact booked_modFlow s _

/-! ### Windows, notices and timers of a terminal -/

theorem noted_account (t : Terminal) : t.noted.account = t.account :=
  account_ext rfl (by rw [Terminal.standing, Terminal.noted_serviced]; rfl) rfl rfl

theorem noteWaiting_booked (i : Slot) : Booked p s (s.noteWaiting i) :=
  ((s.noteWaiting_same i).sameBooks_of_terms fun j => by
    rw [noteWaiting_term]
    split
    · next e => subst e; exact noted_account _
    · rfl).booked

theorem noteFlowWaiting_booked (f : FlowIdx) : Booked p s (s.noteFlowWaiting f) := by
  unfold State.noteFlowWaiting
  split
  · exact noteWaiting_booked s _
  · exact .refl s

theorem reportRamping_booked : Booked p s s.reportRamping :=
  (s.reportRamping_same.sameBooks_of_terms fun j => by
    have served := reportRamping_serviced s j
    rw [reportRamping_term] at served ⊢
    exact account_ext rfl (by rw [Terminal.standing, served]; rfl) rfl rfl).booked

theorem restartWindows_booked : Booked p s s.restartWindows :=
  (s.restartWindows_same.sameBooks_of_terms fun i => by rw [State.restartWindows_term]; rfl).booked

theorem learnIdentity_booked (i : Slot) (d : Mac) : Booked p s (s.learnIdentity i d) := by
  have learnt : Booked p s (s.modTerm i fun t => { t with identity := some d }) := booked_modTerm s i
  refine .ite (.refl s) ?_
  split
  · exact .ite learnt (learnt.trans (raise_booked _ _))
  · exact learnt

/-! ### Command answers and clears -/

theorem controlledBy_booked (src : Mac) : Booked p s (s.controlledBy src) := (s.controlledBy_same src).booked

theorem complete_booked (src : Mac) (body : List Byte) (r : CmdResult) : Booked p s (s.complete src body r) :=
  (s.complete_same src body r).booked

theorem clearFlags_booked : Booked p s s.clearFlags :=
  (s.clearFlags_same.sameBooks_of_terms fun i => by rw [State.clearFlags_term]; rfl).booked

end

end Sys2Proof.Machine

namespace Sys2Proof.Machine

/-! ### The Readmission List as flows enter and leave WAITING (R102, R104) -/

section
variable {s t : State} {f : FlowIdx}

/-- A flow that becomes WAITING is placed in the list. -/
theorem ReadmissionSound.join (h : ReadmissionSound s) (hs : (s.flow f).state.isWaiting = false) {cls : FlowIdx → Nat}
    (hl : t.ledger.list = placeByClass cls f s.ledger.list) (ht : (t.flow f).state.isWaiting = true)
    (ho : ∀ g, g ≠ f → (t.flow g).state.isWaiting = (s.flow g).state.isWaiting) : ReadmissionSound t := by
  obtain ⟨nodup, mem⟩ := h
  have out : f ∉ s.ledger.list := fun k => by rw [(mem f).mp k] at hs; cases hs
  have perm : t.ledger.list.Perm (f :: s.ledger.list) := by
    rw [hl]
    exact List.perm_middle.trans (.cons f (.of_eq List.takeWhile_append_dropWhile))
  refine ⟨perm.nodup_iff.mpr (List.nodup_cons.mpr ⟨out, nodup⟩), fun g => ?_⟩
  rw [hl, mem_placeByClass, mem]
  by_cases e : g = f
  · subst e; simp [ht]
  · simp [e, ho g e]

/-- A flow that is WAITING no more is taken out of the list. -/
theorem ReadmissionSound.leave (h : ReadmissionSound s)
    (hl : t.ledger.list = s.ledger.list.filter fun g => decide (g ≠ f)) (ht : (t.flow f).state.isWaiting = false)
    (ho : ∀ g, g ≠ f → (t.flow g).state.isWaiting = (s.flow g).state.isWaiting) : ReadmissionSound t := by
  obtain ⟨nodup, mem⟩ := h
  rw [ReadmissionSound, hl]
  refine ⟨nodup.filter _, fun g => ?_⟩
  rw [List.mem_filter, decide_eq_true_iff, mem]
  by_cases e : g = f
  · subst e; simp [ht]
  · simp [e, ho g e]

/-- An ADMITTED flow withdrawn joins the list (R102). -/
theorem ReadmissionSound.withdraw (h : ReadmissionSound s) (ha : (s.flow f).state = .admitted) (c : Cause) :
    ReadmissionSound (s.withdraw f c) :=
  h.join (by rw [ha]; rfl) (withdraw_list s f c) (by rw [withdraw_flow, if_pos rfl]; rfl)
    fun g hg => by rw [withdraw_flow, if_neg hg]

theorem ReadmissionSound.withdrawAll (h : ReadmissionSound s) (c : Cause) (l : List FlowIdx) :
    ReadmissionSound (s.withdrawAll c l) := by
  refine List.foldlRecOn l _ h fun t k f _ => ?_
  split
  · next ha => exact k.withdraw ha c
  · exact k

theorem ReadmissionSound.reprice (h : ReadmissionSound s) (i : Slot) : ReadmissionSound (s.reprice i) :=
  h.congr rfl fun _ => rfl

theorem ReadmissionSound.shedFlow (h : ReadmissionSound s) (ha : (s.flow f).state = .admitted) (x : Direction) :
    ReadmissionSound (s.shedFlow x f) :=
  h.join (by rw [ha]; rfl) (shedFlow_list s x f) (by rw [shedFlow_flow, if_pos rfl]; rfl)
    fun g hg => by rw [shedFlow_flow, if_neg hg]

theorem ReadmissionSound.shedLoop (x : Direction) (n : Nat) :
    ∀ {s : State}, ReadmissionSound s → ReadmissionSound (State.shedLoop x n s) := by
  induction n with
  | zero => exact id
  | succ n ih =>
    intro s h
    rw [State.shedLoop]
    split
    · exact h
    · split
      · exact h
      · next f hf =>
        have first := (shedFirst_spec s _ f hf).1
        exact ih (h.shedFlow ((mem_admittedFlows s x f).mp first).2 x)

theorem ReadmissionSound.shedToFit (h : ReadmissionSound s) : ReadmissionSound s.shedToFit :=
  (h.shedLoop .up _).shedLoop .down _

end

/-! ### Shedding brings sound books within the capacity (R106, R110) -/

/-- U leaves room for the maintenance grants of every slot (R106). -/
theorem SetupSound.maintenance {s : State} (h : SetupSound s) : 256 * s.setup.m + 4 * s.setup.rs ≤ s.setup.u := by
  obtain ⟨-, -, -, -, -, -, -, -, -, -, -, -, -, -, -, -, room⟩ := h
  exact room

/-- The most a terminal needs with no flow of a direction ADMITTED: M upstream, nothing downstream (R107). -/
def Setup.idleNeed (c : Setup) : Direction → Nat
  | .up => c.m
  | .down => 0

theorem needWith_le_of_none {s : State} {x : Direction} (h : ∀ f, (s.flow f).charge x = 0) (i : Slot) :
    s.needWith i x [] ≤ s.setup.idleNeed x := by
  have sum : s.sumCB x [] (s.chain i) = 0 := by
    rw [sumCB_eq_charges, List.sum_eq_zero_iff]
    intro n hn
    obtain ⟨f, -, rfl⟩ := List.mem_map.mp hn
    exact h f
  cases x with
  | up => simp only [State.needWith, sum, if_true, Setup.idleNeed]; split_ifs <;> omega
  | down => simp only [State.needWith, sum, if_true, ite_self, Setup.idleNeed, le_refl]

section
variable {s t b : State} {i : Slot}

/-- With no flow of a direction ADMITTED, sound books lie within its capacity. -/
theorem Priced.load_le_of_none (h : Priced s) {x : Direction}
    (hx : ∀ f, (s.flow f).dir = x → (s.flow f).state ≠ .admitted) : s.load x ≤ s.setup.capacity x := by
  have none (f : FlowIdx) : (s.flow f).charge x = 0 := if_neg fun ⟨hd, ha⟩ => hx f hd ha
  have each (n : Nat) (hn : n ∈ (List.finRange 256).map fun i => (s.term i).need x) :
      n ≤ s.setup.idleNeed x := by
    obtain ⟨i, -, rfl⟩ := List.mem_map.mp hn
    exact (h.needs i x).trans_le (needWith_le_of_none none i)
  have total := List.sum_le_card_nsmul _ _ each
  rw [← (loadsSound_iff s).mp h.loads x, List.length_map, List.length_finRange, smul_eq_mul] at total
  have room := h.setup.maintenance
  cases x with
  | up => simp only [Setup.capacity, Setup.usableUp, Setup.idleNeed] at total ⊢; omega
  | down => simp only [Setup.capacity, Setup.idleNeed] at total ⊢; omega

/-- Sheds keep the books sound. -/
theorem Priced.shedAll (h : Priced s) (l : List FlowIdx) : Priced (s.shedAll l) := by
  have run := shedAll_run l s
  refine ⟨run.chainsSound h.chains, ?_, h.served.congr (fun f ha => ?_) fun f i _ _ hs => ?_,
    fun j => run.needs h.chains j (.inl (h.needs j)), run.loads h.loads⟩
  · rw [SetupSound, show (s.shedAll l).setup = s.setup from run.same .setup (by decide)]
    exact h.setup
  · exact ⟨((run.admitted_iff f).mp ha).2, (run.fields f).1⟩
  · obtain ⟨-, -, served⟩ := run.termFields i
    rw [served]; exact hs

theorem Priced.shedToFit (h : Priced s) : Solvent s.shedToFit := by
  obtain ⟨up, down, e, -⟩ := shedToFit_takes s
  have priced : Priced s.shedToFit := e ▸ h.shedAll _
  obtain ⟨fitsUp, fitsDown, -⟩ := shedToFit_shedToFit (fun j x => (h.needs j x).ge) h.loads
  have dir (f : FlowIdx) : (s.shedToFit.flow f).dir = (s.flow f).dir := by
    obtain ⟨-, -, -, dir, -⟩ := (e ▸ shedAll_run _ s : ShedRun s s.shedToFit _).fields f
    exact dir
  refine ⟨priced, fun x => ?_⟩
  cases x with
  | up => exact fitsUp.elim id fun k => priced.load_le_of_none fun f hd => k f (dir f ▸ hd)
  | down => exact fitsDown.elim id fun k => priced.load_le_of_none fun f hd => k f (dir f ▸ hd)

/-- Sound books stay within the capacity where no need rises (R108). -/
theorem Solvent.of_le (h : Solvent s) (k : Priced t) (hs : t.setup = s.setup)
    (hn : ∀ j x, t.needWith j x [] ≤ s.needWith j x []) : Solvent t where
  toPriced := k
  fits x := by
    refine le_trans ?_ (hs ▸ h.fits x)
    rw [(loadsSound_iff t).mp k.loads x, (loadsSound_iff s).mp h.loads x]
    refine List.sum_le_sum fun j _ => ?_
    rw [k.needs, h.needs]
    exact hn j x

/-! ### One terminal touched and repriced -/

/-- One terminal's record, and flows bound to it, have changed between two states; the links, the other terminals and what
other flows are charged have not. -/
structure Touched (s b : State) (i : Slot) : Prop where
  links : SameLinks s b
  others : OtherTerms i s b
  charges : ∀ f, (s.flow f).bound ≠ some i → ∀ x, (b.flow f).charge x = (s.flow f).charge x
  setup : b.setup = s.setup
  profiles : b.profiles = s.profiles
  served : AdmittedServed s → AdmittedServed b

/-- The needs of the other terminals stand, held and priced. -/
theorem Touched.needWith_other (h : Touched s b i) (k : ChainsSound s) {j : Slot} (hj : j ≠ i) (x : Direction) :
    b.needWith j x [] = s.needWith j x [] := by
  refine needWith_eq_of_charges (by rw [h.others j hj]) (h.links.chain j) (congrArg _ h.setup) h.profiles
    fun f hf => h.charges f (fun hb => hj ?_) x
  exact Option.some.inj (((k.1 j f).mp hf).symm.trans hb)

/-- A terminal touched and repriced leaves sound books (R108). -/
theorem Priced.touched (k : Priced s) (h : Touched s b i) : Priced (b.reprice i) where
  chains := (h.links.trans (reprice_quiet b i).links).chainsSound k.chains
  setup := by rw [SetupSound, show (b.reprice i).setup = s.setup from h.setup]; exact k.setup
  served := (h.served k.served).congr (fun f ha => ⟨ha, rfl⟩) fun f j _ _ hs => by
    rw [reprice_term]
    split
    · next e => subst e; exact hs
    · exact hs
  needs j x := by
    by_cases e : j = i
    · rw [e]; exact reprice_need b i x
    · rw [reprice_needWith, reprice_term, if_neg e, h.others j e, h.needWith_other k.chains e]
      exact k.needs j x
  loads := reprice_loadsSound b i

/-- Where the terminal touched has not entered service or changed its profile, and no flow is charged more, the loads
stay within the capacity as well. -/
theorem Solvent.touched (k : Solvent s) (h : Touched s b i)
    (hs : (b.term i).state.serviced = true → (b.term i).standing = (s.term i).standing)
    (hc : ∀ f x, (b.flow f).charge x ≤ (s.flow f).charge x) : Solvent (b.reprice i) :=
  k.of_le (k.toPriced.touched h) h.setup fun j x => by
    rw [reprice_needWith]
    by_cases e : j = i
    · rw [e]
      exact needWith_le_of_charges hs (h.links.chain i) (congrArg _ h.setup) h.profiles fun f _ => hc f x
    · exact (h.needWith_other k.chains e x).le

/-- A change of one terminal's record that keeps its chain head keeps the links. -/
theorem sameLinks_modTerm (s : State) (i : Slot) {g : Terminal → Terminal}
    (hh : (g (s.term i)).chainHead = (s.term i).chainHead := by exact rfl) : SameLinks s (s.modTerm i g) :=
  ⟨fun _ => ⟨rfl, rfl, rfl⟩, fun j => by
    rw [State.modTerm_term]
    split
    · next e => subst e; exact hh
    · rfl⟩

/-- A change of one terminal's record that keeps its chain head and serves it no less. -/
theorem touched_modTerm (s : State) (i : Slot) {g : Terminal → Terminal}
    (hh : (g (s.term i)).chainHead = (s.term i).chainHead := by exact rfl)
    (hs : (s.term i).state.serviced = true → (g (s.term i)).state.serviced = true := by exact fun h => h) :
    Touched s (s.modTerm i g) i where
  links := sameLinks_modTerm s i hh
  others := s.modTerm_others i g
  charges _ _ _ := rfl
  setup := rfl
  profiles := rfl
  served k := k.congr (fun _ ha => ⟨ha, rfl⟩) fun f j _ _ hj => by
    rw [State.modTerm_term]
    split
    · next e => subst e; exact hs hj
    · exact hj

end

end Sys2Proof.Machine

namespace Sys2Proof.Machine

/-! ### Profiles changed and service entered (R50, R112, R117) -/

section
variable {p : Prop} (s : State) (i : Slot)

/-- One terminal's record changed, repriced and brought within the capacity: what every change of a profile in service
and every entry to service does. -/
theorem moved_booked {g : Terminal → Terminal} (hh : (g (s.term i)).chainHead = (s.term i).chainHead := by exact rfl)
    (hs : (s.term i).state.serviced = true → (g (s.term i)).state.serviced = true := by exact fun h => h) :
    Booked p s (((s.modTerm i g).reprice i).shedToFit) where
  list h := ReadmissionSound.shedToFit (ReadmissionSound.reprice (h.congr rfl fun _ => rfl) i)
  ledger _ h := (h.toPriced.touched (touched_modTerm s i hh hs)).shedToFit

theorem changeProfile_booked (k : ProfIdx) : Booked p s (s.changeProfile i k) := moved_booked s i

/-- Between two serviced states of one profile a terminal keeps its account. -/
theorem account_of_serviced {t u : Terminal} (ht : t.state.serviced = true) (hu : u.state.serviced = true)
    (hc : u.current = t.current) (hh : u.chainHead = t.chainHead)
    (hn : u.needUp = t.needUp ∧ u.needDown = t.needDown) : u.account = t.account :=
  account_ext hh (by rw [Terminal.standing, Terminal.standing, ht, hu, hc]) hn.1 hn.2

/-- A change of a serviced terminal that leaves it in service at its profile. -/
theorem booked_modTerm_serviced {g : Terminal → Terminal} (hs : (s.term i).state.serviced = true)
    (hg : (g (s.term i)).state.serviced = true := by exact rfl)
    (hc : (g (s.term i)).current = (s.term i).current := by exact rfl)
    (hh : (g (s.term i)).chainHead = (s.term i).chainHead := by exact rfl)
    (hn : (g (s.term i)).needUp = (s.term i).needUp ∧ (g (s.term i)).needDown = (s.term i).needDown := by
      exact ⟨rfl, rfl⟩) : Booked p s (s.modTerm i g) :=
  booked_modTerm s i (account_of_serviced hs hg hc hh hn)

theorem toInService_booked (hs : (s.term i).state.serviced = true) : Booked p s (s.toInService i) :=
  (booked_modTerm_serviced s i hs).trans (raise_booked _ _)

theorem shedToFit_serviced : (s.shedToFit.term i).state.serviced = (s.term i).state.serviced := by
  obtain ⟨up, down, e, -⟩ := shedToFit_takes s
  obtain ⟨-, -, served⟩ := (shedAll_run (up ++ down) s).termFields i
  rw [e, served]

/-- A terminal enters service: its need joins the load and flows are shed until it fits (R15, R117). -/
theorem enterService_booked (k : ProfIdx) : Booked p s (s.enterService i k) := by
  let entered (t : Terminal) : Terminal :=
    { t with
      state := .ramping, current := some k, failedAttempts := 0, dwell := 0
      window := Window.opening }
  let b := (s.raise (.ramping i)).modTerm i entered
  have moved : Booked p s (b.reprice i).shedToFit :=
    (raise_booked s _).trans (moved_booked (s.raise (.ramping i)) i rfl fun _ => rfl)
  have served : ((b.reprice i).shedToFit.term i).state.serviced = true := by
    rw [shedToFit_serviced, reprice_term, if_pos rfl, State.modTerm_term_same]
    rfl
  show Booked p s (if (b.reprice i).shedToFit.hasWaiting i then (b.reprice i).shedToFit
    else (b.reprice i).shedToFit.toInService i)
  exact .ite moved (moved.trans (toInService_booked _ i served))

end

/-! ### Flows that leave ADMITTED (R93, R121) -/

section
variable {s b : State} {f : FlowIdx} {i : Slot}

/-- One flow of a terminal changed, ADMITTED no more, touches the terminal. -/
theorem touched_of_flow (hs : SameBut [.flows, .ledger] s b) (hl : SameLinks s b) (ho : OtherFlows f s b)
    (hb : (s.flow f).bound = some i) (hf : (b.flow f).state ≠ .admitted) : Touched s b i where
  links := hl
  others j _ := term_of_terms (hs .terms (by decide)) j
  charges g hg x := by rw [ho g fun e => hg (e ▸ hb)]
  setup := hs .setup (by decide)
  profiles := hs .profiles (by decide)
  served k := k.congr (fun g ha => by rw [← ho g fun e => hf (e ▸ ha)]; exact ⟨ha, rfl⟩)
    fun g j _ _ hj => by rw [term_of_terms (hs .terms (by decide))]; exact hj

/-- One flow changed, ADMITTED neither before nor after, changes no load. -/
theorem sameLoads_of_flow (hs : SameBut [.flows, .ledger] s b) (hl : SameLinks s b) (hx : ∀ x, b.load x = s.load x)
    (ho : OtherFlows f s b) (hf : (s.flow f).state ≠ .admitted) (hf' : (b.flow f).state ≠ .admitted) :
    SameLoads s b where
  links := hl
  setup := hs .setup (by decide)
  profiles := hs .profiles (by decide)
  load := hx
  admitted g ha := by rw [← ho g fun e => hf' (e ▸ ha)]; exact ha
  charge g x := by
    by_cases e : g = f
    · rw [e, Flow.charge_of_ne hf, Flow.charge_of_ne hf']
    · rw [ho g e]
  term i := by rw [term_of_terms (hs .terms (by decide))]

/-- A flow that leaves ADMITTED and its terminal's needs recomputed: the books stay sound. -/
theorem Solvent.lessFlow (h : Solvent s) (hs : SameBut [.flows, .ledger] s b) (hl : SameLinks s b)
    (ho : OtherFlows f s b) (ha : (s.flow f).state = .admitted) (hf : (b.flow f).state ≠ .admitted) :
    Solvent (b.repriceFlow f) := by
  obtain ⟨i, hb, -⟩ := h.served f ha
  have e : b.repriceFlow f = b.reprice i := by rw [State.repriceFlow, (hl.flow f).1, hb]
  rw [e]
  refine h.touched (touched_of_flow hs hl ho hb hf) (fun _ => ?_) fun g x => ?_
  · rw [term_of_terms (hs .terms (by decide))]
  · by_cases e : g = f
    · rw [e, Flow.charge_of_ne hf]
      exact Nat.zero_le _
    · rw [ho g e]

end

section
variable {p : Prop} (s : State) (f : FlowIdx)

theorem makeDisabled_same : SameBut [.flows] s (s.makeDisabled f) :=
  (s.modFlow_same f _).then (State.dropCredit_same _ f) rfl rfl

theorem makeDisabled_others : OtherFlows f s (s.makeDisabled f) :=
  fun g hg => by rw [makeDisabled_flow, if_neg hg]

theorem makeDisabled_state : ((s.makeDisabled f).flow f).state = .disabled := by rw [makeDisabled_flow, if_pos rfl]

/-- An ADMITTED flow disabled leaves its terminal's need (R93). -/
theorem disableAdmitted_booked (ha : (s.flow f).state = .admitted) : Booked p s ((s.makeDisabled f).repriceFlow f) where
  list h := h.congr (repriceFlow_list _ f) fun g => by
    rw [repriceFlow_flow]
    by_cases e : g = f
    · rw [e, makeDisabled_state, ha]; rfl
    · rw [makeDisabled_others s f g e]
  ledger _ h := h.lessFlow ((makeDisabled_same s f).mono rfl) (makeDisabled_quiet s f).links (makeDisabled_others s f) ha
    (by rw [makeDisabled_state]; nofun)

/-- A WAITING flow disabled leaves the list (R93). -/
theorem disableWaiting_booked {c : Cause} (hw : (s.flow f).state = .waiting c) :
    Booked p s ((s.makeDisabled f).unlist f) where
  list h := h.leave (f := f) rfl (by rw [State.unlist_flow, makeDisabled_state]; rfl)
    fun g hg => by rw [State.unlist_flow, makeDisabled_others s f g hg]
  ledger _ h := by
    have same : SameBut [.flows, .ledger] s ((s.makeDisabled f).unlist f) :=
      (makeDisabled_same s f).then (State.unlist_same _ f) rfl rfl
    have links : SameLinks s ((s.makeDisabled f).unlist f) :=
      (makeDisabled_quiet s f).links.trans ((State.unlist_same _ f).quiet (by decide) (by decide)).links
    refine (sameLoads_of_flow (f := f) same links (fun x => by cases x <;> rfl) (makeDisabled_others s f) ?_ ?_).solvent h
    · rw [hw]; nofun
    · rw [State.unlist_flow, makeDisabled_state]; nofun

theorem disable_booked : Booked p s (s.disable f) := by
  have after (t : State) : Booked p t ((t.flushQueue f).reportRamping) :=
    (flushQueue_booked t f).trans (reportRamping_booked _)
  unfold State.disable
  split
  · exact .refl s
  · next ha => exact (disableAdmitted_booked s f ha).trans (after _)
  · next c hw => exact (disableWaiting_booked s f hw).trans (after _)

/-- A DISABLED flow enabled becomes WAITING (R92). -/
theorem enable_booked : Booked p s (s.enable f) := by
  have others : OtherFlows f s (s.makeWaiting f .new) := fun g hg => by rw [makeWaiting_flow, if_neg hg]
  have state : ((s.makeWaiting f .new).flow f).state = .waiting .new := by rw [makeWaiting_flow, if_pos rfl]
  unfold State.enable
  split
  · next hd =>
    have waits : Booked p s (s.makeWaiting f .new) := by
      refine ⟨fun h => h.join (by rw [hd]; rfl) (makeWaiting_list s f .new) (by rw [state]; rfl)
        fun g hg => by rw [others g hg], fun _ h => ?_⟩
      refine (sameLoads_of_flow (f := f) ?_ (makeWaiting_quiet s f .new).links (fun x => by cases x <;> rfl) others ?_
        ?_).solvent h
      · exact (s.modFlow_same f _).then (State.placeReadmission_same _ f) rfl rfl
      · rw [hd]; nofun
      · rw [state]; nofun
    exact (waits.trans (noteFlowWaiting_booked _ f)).trans (reportRamping_booked _)
  · exact .refl s

end

end Sys2Proof.Machine

namespace Sys2Proof.Machine

/-! ### Departures from service (R118) -/

theorem Flow.withdrawn_state_ne (r : Flow) (c : Cause) : (r.withdrawn c).state ≠ .admitted := by
  unfold Flow.withdrawn
  split
  · nofun
  · next h => exact h

theorem Flow.emptied_state (r : Flow) : r.emptied.state = r.state := by
  unfold Flow.emptied
  split <;> rfl

section
variable (s : State) (c : Cause) (b : Bool) (l : List FlowIdx)

/-- The ADMITTED flows of a chain withdrawn, and its SHED-policy queues discarded where the departure discards them. -/
def State.clearChain : State :=
  if b then (s.withdrawAll c l).discardShedQueues l else s.withdrawAll c l

/-- The flows of the chain are ADMITTED no more. -/
theorem clearChain_state {f : FlowIdx} (hf : f ∈ l) : ((s.clearChain c b l).flow f).state ≠ .admitted := by
  have withdrawn : ((s.withdrawAll c l).flow f).state ≠ .admitted := by
    rw [withdrawAll_flow, if_pos hf]
    exact Flow.withdrawn_state_ne _ c
  unfold State.clearChain
  split
  · rw [discardShedQueues_flow, if_pos hf, Flow.emptied_state]
    exact withdrawn
  · exact withdrawn

/-- The flows of other chains are as they were. -/
theorem clearChain_flow_other {f : FlowIdx} (hf : f ∉ l) : (s.clearChain c b l).flow f = s.flow f := by
  unfold State.clearChain
  split
  · rw [discardShedQueues_flow, if_neg hf, withdrawAll_flow, if_neg hf]
  · rw [withdrawAll_flow, if_neg hf]

theorem clearChain_same : SameBut [.flows, .ledger, .buffer] s (s.clearChain c b l) := by
  unfold State.clearChain
  split
  · exact (s.withdrawAll_same c l).then (State.discardShedQueues_same _ l) rfl rfl
  · exact (s.withdrawAll_same c l).mono rfl

theorem clearChain_links : SameLinks s (s.clearChain c b l) :=
  (Quiet.ite ((withdrawAll_quiet s c l).trans (discardShedQueues_quiet _ l)) (withdrawAll_quiet s c l)).links

theorem ReadmissionSound.clearChain {s : State} (h : ReadmissionSound s) (c : Cause) (b : Bool) (l : List FlowIdx) :
    ReadmissionSound (s.clearChain c b l) := by
  have withdrawn := h.withdrawAll c l
  unfold State.clearChain
  split
  · refine withdrawn.congr (congrArg Ledger.list (State.discardShedQueues_same _ _ .ledger (by decide))) fun f => ?_
    rw [discardShedQueues_flow]
    split
    · rw [Flow.emptied_state]
    · rfl
  · exact withdrawn

end

section
variable (s : State) (i : Slot) (d : TermState) (c : Cause) (b : Bool)

/-- A terminal's record as it leaves service for a state (R34, R55). -/
def State.leftFor : State := s.modTerm i fun t =>
  { t with state := d, current := none, beforeFade := none, dwell := 0, window := Window.cleared }

theorem leaveService_eq_reprice :
    s.leaveService i d c b = ((s.leftFor i d).clearChain c b (s.chain i)).reprice i := rfl

theorem leftFor_clearChain_state : (((s.leftFor i d).clearChain c b (s.chain i)).term i).state = d := by
  rw [term_of_terms (clearChain_same _ c b _ .terms (by decide)), State.leftFor, State.modTerm_term_same]

/-- A terminal that leaves service with its flows withdrawn touches no other's. -/
theorem touched_leftFor {s : State} (h : ChainsSound s) (i : Slot) (d : TermState) (c : Cause) (b : Bool) :
    Touched s ((s.leftFor i d).clearChain c b (s.chain i)) i := by
  let t := (s.leftFor i d).clearChain c b (s.chain i)
  have other (f : FlowIdx) (hf : (s.flow f).bound ≠ some i) : t.flow f = s.flow f :=
    clearChain_flow_other _ c b _ fun k => hf ((h.1 i f).mp k)
  have links : SameLinks s t := (sameLinks_modTerm s i).trans (clearChain_links _ c b _)
  have same : SameBut [.terms, .flows, .ledger, .buffer] s t :=
    (s.modTerm_same i _).then (clearChain_same _ c b _) rfl rfl
  have others : OtherTerms i s t := fun j hj =>
    (term_of_terms (clearChain_same (s.leftFor i d) c b _ .terms (by decide)) j).trans (s.modTerm_others i _ j hj)
  refine ⟨links, others, fun f hf x => congrArg (fun r => Flow.charge r x) (other f hf), same .setup (by decide),
    same .profiles (by decide), fun k f ha => ?_⟩
  have out : (s.flow f).bound ≠ some i := fun hb => clearChain_state _ c b _ ((h.1 i f).mpr hb) ha
  obtain ⟨j, hb, hs⟩ := k f (other f out ▸ ha)
  have hj : j ≠ i := fun e => out (by rw [hb, e])
  exact ⟨j, (congrArg Flow.bound (other f out)).trans hb, by rw [others j hj]; exact hs⟩

/-- A departure from service (R118). -/
theorem leaveService_booked {p : Prop} (hd : d.serviced = false) : Booked p s (s.leaveService i d c b) := by
  rw [leaveService_eq_reprice]
  refine ⟨fun h => ?_, fun _ h => ?_⟩
  · have left : ReadmissionSound (s.leftFor i d) := h.congr rfl fun _ => rfl
    exact (left.clearChain c b _).reprice i
  · refine h.touched (touched_leftFor h.chains i d c b) (fun hs => ?_) fun f x => ?_
    · rw [leftFor_clearChain_state, hd] at hs
      cases hs
    · by_cases hf : f ∈ s.chain i
      · rw [Flow.charge_of_ne (clearChain_state _ c b _ hf)]
        exact Nat.zero_le _
      · rw [clearChain_flow_other _ c b _ hf]
        exact le_rfl

theorem leaveService_out (hd : d.serviced = false) : (s.leaveService i d c b).Out i := by
  rw [State.Out, leaveService_term s i d c b hd]
  exact hd

end

/-! ### Terminals out of service (R5, R13) -/

section
variable (s : State) (i : Slot)

/-- A terminal's change that leaves it out of service, whatever it was. -/
theorem out_modTerm {g : Terminal → Terminal} (h : (g (s.term i)).state.serviced = false) : (s.modTerm i g).Out i := by
  rw [State.Out, State.modTerm_term_same]
  exact h

theorem makeQueued_booked : Booked (s.Out i) s (s.makeQueued i) :=
  (booked_modTerm_out s i).trans (State.placeReentry_same _ i).booked

theorem enterDown_booked (n : Nat) (b : Bool) : Booked (s.Out i) s (s.enterDown i n b) := by
  have down : Booked (s.Out i) s ((s.modTerm i fun t =>
      { t with state := .down, timer := some n, outageSeen := true }).raise (.down i)) :=
    (booked_modTerm_out s i).trans (raise_booked _ _)
  have out : (((s.modTerm i fun t => { t with state := .down, timer := some n, outageSeen := true })).raise
      (.down i)).Out i := by
    rw [State.Out, State.raise_term, State.modTerm_term_same]
    rfl
  exact .ite (down.trans ((makeQueued_booked _ i).of out)) down

theorem outage_booked {p : Prop} (b : Bool) : Booked p s (s.outage i b) := by
  have left : Booked p s (s.leaveService i .down .outage (!b)) := leaveService_booked s i _ _ _ rfl
  have out := leaveService_out s i .down .outage (!b) rfl
  refine (left.trans (booked_modTerm _ i)).trans ((enterDown_booked _ i _ b).of ?_)
  exact out_modTerm _ i out

theorem unqueue_booked {p : Prop} : Booked p s (s.unqueue i) := (s.unqueue_same i).booked

end

end Sys2Proof.Machine

namespace Sys2Proof.Machine

/-! ### The readmission scan (R113, R114) -/

theorem ReadmissionSound.makeAdmitted {s : State} (h : ReadmissionSound s) (i : Slot) (f : FlowIdx) :
    ReadmissionSound (s.makeAdmitted i f) :=
  h.leave (makeAdmitted_list s i f) (by rw [makeAdmitted_flow, if_pos rfl]; rfl)
    fun g hg => by rw [makeAdmitted_flow, if_neg hg]

/-- A is a percentage of 100 at most (R181), so a ceiling lies within its capacity. -/
theorem SetupSound.ceiling_le {s : State} (h : SetupSound s) (x : Direction) : s.setup.ceiling x ≤ s.setup.capacity x := by
  obtain ⟨-, -, -, -, ⟨-, percent⟩, -⟩ := h
  have le (n : Nat) : n * s.setup.a / 100 ≤ n :=
    Nat.div_le_of_le_mul ((Nat.mul_le_mul_left n percent).trans_eq (Nat.mul_comm n 100))
  cases x with
  | up => exact le _
  | down => exact le _

section
variable {s : State} {i : Slot} {f : FlowIdx}

theorem Priced.makeAdmitted (h : Priced s) (hb : (s.flow f).bound = some i) (hs : (s.term i).state.active = true) :
    Priced (s.makeAdmitted i f) := by
  have run := makeAdmitted_run hb
  refine ⟨run.chainsSound h.chains, ?_, fun g ha => ?_, run.needs h.chains h.needs, run.loads h.loads⟩
  · rw [SetupSound, show (s.makeAdmitted i f).setup = s.setup from run.same .setup (by decide)]
    exact h.setup
  · simp only [(run.fields g).1, run.state]
    by_cases e : g = f
    · rw [e]; exact ⟨i, hb, serviced_of_active hs⟩
    · rw [makeAdmitted_flow, if_neg e] at ha
      exact h.served g ha

/-- A flow that passes its test leaves the loads within the capacity (R109, R114). -/
theorem Solvent.makeAdmitted (h : Solvent s) (hb : (s.flow f).bound = some i) (hs : (s.term i).state.active = true)
    (ha : s.admissible i f = true) : Solvent (s.makeAdmitted i f) where
  toPriced := h.toPriced.makeAdmitted hb hs
  fits x := by
    have run := makeAdmitted_run hb
    have need : ((s.makeAdmitted i f).term i).need x = s.needWith i x [f] := by
      rw [run.needs h.chains h.needs i x, run.needWith]
      rfl
    have balance := makeAdmitted_load_need s i f h.loads x
    rw [need] at balance
    rw [show (s.makeAdmitted i f).setup = s.setup from run.same .setup (by decide)]
    have fits := h.fits x
    by_cases hx : (s.flow f).dir = x
    · have ceiling := h.setup.ceiling_le x
      rw [State.admissible, hx, Bool.or_eq_true, decide_eq_true_iff, decide_eq_true_iff] at ha
      omega
    · have same : s.needWith i x [f] = s.needWith i x [] := by
        refine needWith_congr rfl rfl rfl rfl rfl fun g _ => ⟨?_, rfl⟩
        simp only [State.counts, List.mem_singleton, List.not_mem_nil, or_false]
        exact and_congr_right fun hd => or_iff_left fun e => hx (e ▸ hd)
      rw [same, ← h.needs i x] at balance
      omega

end

section
variable {p : Prop}

theorem scanWalk_booked (l : List FlowIdx) : ∀ (done : List FlowIdx) (s : State),
    Booked p s (State.scanWalk l done s).2 := by
  induction l with
  | nil => exact fun _ s => .refl s
  | cons f rest ih =>
    intro done s
    unfold State.scanWalk
    split_ifs
    · exact .refl s
    · split
      · exact ih done s
      · next i hb =>
        split_ifs with active admissible
        · have admitted : Booked p s (s.makeAdmitted i f) :=
            ⟨fun h => h.makeAdmitted i f, fun _ h => h.makeAdmitted hb active admissible⟩
          exact admitted.trans (ih _ _)
        · exact .refl s
        · exact ih done s

theorem scan_booked (s : State) : Booked p s s.scan := by
  have walked : Booked p s (State.scanWalk s.ledger.list [] s).2 := scanWalk_booked _ [] s
  exact (Booked.ite walked (walked.trans (raise_booked _ _))).trans (reportRamping_booked _)

/-! ### Windows and profiles (R17 to R20, R45 to R52) -/

variable (s : State) (i : Slot)

theorem setDwell_booked (n : Nat) : Booked p s (s.setDwell i n) := booked_modTerm s i

theorem enterFading_booked : Booked p s (s.enterFading i) := by
  simp only [State.enterFading]
  split
  case h_1 h | h_2 h => exact (booked_modTerm_serviced s i (by rw [h]; rfl)).trans (raise_booked _ _)
  all_goals exact .refl s

theorem exitFading_booked (h : (s.term i).state = .fading) : Booked p s (s.exitFading i) := by
  have back (st : TermState) (hs : st.serviced = true) (b : NoticeBody) : Booked p s ((s.modTerm i fun t =>
      { t with state := st, beforeFade := none, dwell := 0, window := t.window.restart }).raise b) :=
    (booked_modTerm_serviced s i (by rw [h]; rfl) hs).trans (raise_booked _ _)
  simp only [State.exitFading]
  split <;> exact back _ rfl _

theorem judgeFading_booked (h : (s.term i).state = .fading) (q : Nat) (m : Bool) : Booked p s (s.judgeFading i q m) :=
  .ite (exitFading_booked s i h) (setDwell_booked s i 0)

theorem judgeResume_booked (k : ProfIdx) (q : Nat) (m : Bool) : Booked p s (s.judgeResume i k q m) :=
  .ite (booked_modTerm s i) (.refl s)

theorem judgeStep_booked (k : ProfIdx) (q : Nat) (m g : Bool) : Booked p s (s.judgeStep i k q m g) := by
  refine .ite (.ite (enterFading_booked s i) (changeProfile_booked s i _)) ?_
  split
  · exact .ite (.ite (changeProfile_booked s i _) (setDwell_booked s i _)) (setDwell_booked s i 0)
  · exact setDwell_booked s i 0

theorem takeResult_booked (q : Nat) (m g : Bool) : Booked p s (s.takeResult i q m g) := by
  have judged (k : ProfIdx) : Booked p s ((s.judgeResume i k q m).judgeStep i k q m g) :=
    (judgeResume_booked s i k q m).trans (judgeStep_booked _ i k q m g)
  unfold State.takeResult
  split
  · exact .refl s
  · split
    case h_1 | h_2 => exact judged _
    case h_3 hs => exact judgeFading_booked s i hs q m
    all_goals exact .refl s

theorem completeWindow_booked : Booked p s (s.completeWindow i) := by
  have stored (r : Option WindowResult) : Booked p s (s.modTerm i fun t => { t with lastResult := r }) :=
    booked_modTerm s i
  exact ((stored _).trans (takeResult_booked _ i _ _ _)).trans
    (booked_modTerm _ i (g := fun t => { t with window := { t.window.restart with settling := false } }))

theorem completeIfFull_booked : Booked p s (s.completeIfFull i) := .ite (completeWindow_booked s i) (.refl s)

theorem takeSample_booked (n : Nat) (g : Bool) : Booked p s (s.takeSample i n g) :=
  (booked_modTerm s i).trans (completeIfFull_booked _ i)

theorem fadeReport_booked : Booked p s (s.fadeReport i) := by
  unfold State.fadeReport
  split
  · exact .refl s
  · exact .ite (enterFading_booked s i) (changeProfile_booked s i 0)

theorem takeMiss_booked : Booked p s (s.takeMiss i) := by
  let missed := s.modTerm i fun t =>
    { t with
      window := { t.window with misses := min (t.window.misses + 1) 255 }
      counters := t.counters.miss }
  have counted : Booked p s missed := booked_modTerm s i
  exact counted.trans (.ite (outage_booked _ i false) (.ite (fadeReport_booked _ i) (.refl _)))

theorem force_booked (k : ProfIdx) : Booked p s (s.force i k) :=
  .ite (booked_modTerm s i) (changeProfile_booked s i k)

theorem ceilingStep_booked : Booked p s (s.ceilingStep i) := by
  unfold State.ceilingStep
  split
  · exact .ite (changeProfile_booked s i _) (.refl s)
  · exact .refl s

end

end Sys2Proof.Machine

namespace Sys2Proof.Machine

/-! ### Terminals out of service, by the re-entry (R58, R65) -/

theorem out_of_state {s : State} {i : Slot} {st : TermState} (h : (s.term i).state = st)
    (hs : st.serviced = false := by exact rfl) : s.Out i := by
  rw [State.Out, h]
  exact hs

/-- A terminal a context is bound to is RANGING. -/
theorem ReentrySound.out_of_holder {s : State} (h : ReentrySound s) {c : CtxNo} {i : Slot} (hc : s.holder c = some i) :
    s.Out i := by
  obtain ⟨a, ha, ht⟩ := holder_iff.mp hc
  obtain ⟨-, -, ranging, -⟩ := h
  exact out_of_state ((ranging i).mpr ⟨c, a, ha, ht⟩)

/-- The head of the queue is QUEUED. -/
theorem ReentrySound.out_of_head {s : State} (h : ReentrySound s) {i : Slot} {rest : List Slot}
    (hq : s.reentry.queue = i :: rest) : s.Out i := by
  obtain ⟨-, queued, -⟩ := h
  exact out_of_state ((queued i).mp (by rw [hq]; exact List.mem_cons_self))

/-- A terminal stays out of service where its state stays. -/
theorem State.Out.modTerm {s : State} {i : Slot} (h : s.Out i) {g : Terminal → Terminal}
    (hg : (g (s.term i)).state = (s.term i).state := by exact rfl) : (s.modTerm i g).Out i :=
  out_modTerm s i (hg ▸ h)

/-! ### The ends of attempts -/

section
variable (s : State)

theorem failedDown_booked (i : Slot) : Booked (s.Out i) s (s.failedDown i) := by
  have failed : Booked (s.Out i) s (s.modTerm i fun t => { t with
      failedAttempts := min (t.failedAttempts + 1) 255
      counters := { t.counters with failed := satAdd t.counters.failed 1 } }) := booked_modTerm s i
  exact failed.trans ((enterDown_booked _ i _ false).mono fun h => h.modTerm)

/-- Each outcome moves a terminal out of service, or has it enter service (R10, R15, R16). -/
theorem takeOutcome_booked (i : Slot) (o : AttemptOutcome) (e : Option ProfIdx) (b : Bool) :
    Booked (s.Out i) s (s.takeOutcome i o e b) := by
  let u := s.modTerm i fun t => { t with lastOutcome := some o }
  have recorded : Booked (s.Out i) s u := booked_modTerm s i
  have out : s.Out i → u.Out i := fun h => h.modTerm
  cases o with
  | admitted => exact recorded.trans (enterService_booked _ i _)
  | parked => exact recorded.trans ((booked_modTerm_out u i (g := fun t => { t with state := .parked })).mono out)
  | sectorLost => exact recorded.trans ((enterDown_booked _ i _ b).mono out)
  | noResponse | corrupt | weak | proveFailed | identityMismatch | adjustLimit =>
    exact recorded.trans ((failedDown_booked _ i).mono out)

variable (c : CtxNo) (a : Attempt)

theorem endAttempt_booked (o : AttemptOutcome) (b : Bool) : Booked (s.Out a.terminal) s (s.endAttempt c a o b) := by
  have taken : Booked (s.Out a.terminal) s ((s.setCtx c none).takeOutcome a.terminal o a.entryProfile b) :=
    (setCtx_booked s c none).trans (takeOutcome_booked (s.setCtx c none) a.terminal o a.entryProfile b)
  exact .ite (taken.trans (raise_booked _ _)) taken

theorem failContext_booked (o : AttemptOutcome) (g : Stage) : Booked (s.Out a.terminal) s (s.failContext c a o g) :=
  .ite (setCtx_booked s c _) (endAttempt_booked s c a o false)

theorem failProving_booked : Booked (s.Out a.terminal) s (s.failProving c a) :=
  failContext_booked s c { a with entryProfile := some 0 } _ _

theorem adjust_booked (t p : Int) : Booked (s.Out a.terminal) s (s.adjust c a t p) :=
  .ite ((s.send_same _).booked.trans (setCtx_booked _ c _)) (endAttempt_booked s c a _ false)

theorem acceptRanging_booked {p : Prop} (r : RangingReport) : Booked p s (s.acceptRanging c a r) := by
  rw [acceptRanging_eq]
  exact (learnIdentity_booked s _ _).trans (setCtx_booked _ c _)

theorem judgeRanging_booked (r : RangingReport) : Booked (s.Out a.terminal) s (s.judgeRanging c a r) :=
  .ite (endAttempt_booked s c a _ _) <| .ite (failContext_booked s c a _ _) <| .ite (endAttempt_booked s c a _ _) <|
    .ite (failContext_booked s c a _ _) <| .ite (adjust_booked s c a _ _) (acceptRanging_booked s c a r)

theorem judgeRangingMiss_booked : Booked (s.Out a.terminal) s (s.judgeRangingMiss c a) :=
  .ite (endAttempt_booked s c a _ _) (failContext_booked s c a _ _)

theorem judgeProving_booked (n : Nat) (g : Bool) : Booked (s.Out a.terminal) s (s.judgeProving c a n g) := by
  let u := s.modTerm a.terminal fun t => { t with counters := t.counters.burst g }
  have counted : Booked (s.Out a.terminal) s u := booked_modTerm s a.terminal
  have judged : Booked (u.Out a.terminal) u (s.judgeProving c a n g) :=
    .ite (endAttempt_booked u c a _ _) (.ite (endAttempt_booked u c a _ _) (failProving_booked u c a))
  exact counted.trans (judged.mono fun h => h.modTerm)

theorem judgeProvingMiss_booked : Booked (s.Out a.terminal) s (s.judgeProvingMiss c a) := by
  let u := s.modTerm a.terminal fun t => { t with counters := t.counters.miss }
  have counted : Booked (s.Out a.terminal) s u := booked_modTerm s a.terminal
  have judged : Booked (u.Out a.terminal) u (s.judgeProvingMiss c a) :=
    .ite (endAttempt_booked u c a _ _) (failProving_booked u c a)
  exact counted.trans (judged.mono fun h => h.modTerm)

end

/-! ### What is booked where the re-entry is sound -/

/-- A change booked where the re-entry is sound, which keeps it sound. -/
structure Carried (s t : State) : Prop where
  booked : Booked (ReentrySound s) s t
  sound : ReentrySound s → ReentrySound t

section
variable {s t u : State}

theorem Kept.carried (h : Kept s t) (k : Booked (ReentrySound s) s t) : Carried s t := ⟨k, h.sound⟩

theorem Carried.refl (s : State) : Carried s s := ⟨.refl s, id⟩

theorem Carried.trans (h : Carried s t) (k : Carried t u) : Carried s u :=
  ⟨h.booked.trans (k.booked.mono h.sound), fun x => k.sound (h.sound x)⟩

theorem Carried.foldl {α : Type} {g : State → α → State} (h : ∀ s a, Carried s (g s a)) (l : List α) :
    ∀ s, Carried s (l.foldl g s) := by
  induction l with
  | nil => exact Carried.refl
  | cons a rest ih => exact fun s => (h s a).trans (ih _)

theorem Carried.ite {c : Prop} [Decidable c] (h : Carried s t) (k : Carried s u) : Carried s (if c then t else u) := by
  split
  · exact h
  · exact k

/-- What is booked with a context's terminal out of service is so where the re-entry is sound. -/
theorem Booked.held {i : Slot} (h : Booked (s.Out i) s t) {c : CtxNo} (hc : s.holder c = some i) :
    Booked (ReentrySound s) s t := h.mono fun k => k.out_of_holder hc

end

/-! ### Timers, the pacer and grants -/

section
variable {p : Prop} (s : State)

theorem timeout_booked (c : CtxNo) : Booked (ReentrySound s) s (s.timeout c) := by
  unfold State.timeout
  split
  · exact .refl s
  · next a ha =>
    have held := holder_eq ha
    refine .ite ?_ (.refl s)
    split
    · exact .ite ((endAttempt_booked s c a _ _).held held) ((failContext_booked s c a _ _).held held)
    · exact .ite ((endAttempt_booked s c a _ _).held held) ((failProving_booked s c a).held held)
    · exact .refl s
    · exact .refl s

theorem timeout_carried (c : CtxNo) : Carried s (s.timeout c) := (timeout_kept s c).carried (timeout_booked s c)

theorem tickContext_carried (n : FrameNo) (c : CtxNo) : Carried s (State.tickContext n s c) := by
  unfold State.tickContext
  split
  · exact .refl s
  · next a ha =>
    refine .ite ?_ (.refl s)
    split
    · exact .refl s
    · exact ((setCtx_routine s (holder_eq ha)).kept.carried (setCtx_booked s c _)).trans (timeout_carried _ c)

theorem bindTo_booked (i : Slot) (c : CtxNo) : Booked (s.Out i) s (s.bindTo i c) :=
  (s.bindTo_same i c).booked_of_terms fun out j => by
    rw [bindTo_term]
    split
    · next e => subst e; exact account_of_out out rfl rfl ⟨rfl, rfl⟩
    · rfl

theorem bindLoop_carried (n : Nat) : ∀ s : State, Carried s (State.bindLoop n s) := by
  induction n with
  | zero => exact .refl
  | succ n ih =>
    intro s
    unfold State.bindLoop
    split
    · next i rest c hq hc =>
      have free : s.ctx c = none := Option.isNone_iff_eq_none.mp (List.find?_some (p := fun c => (s.ctx c).isNone) hc)
      have bound : Carried s (s.bindTo i c) :=
        (bindTo_kept s hq free).carried ((bindTo_booked s i c).mono fun k => k.out_of_head hq)
      exact .ite (bound.trans (ih _)) (.refl s)
    · exact .refl s

theorem pace_booked : Booked (ReentrySound s) s s.pace := by
  unfold State.pace
  split
  · exact (State.setCredit_same s _).booked.trans ((bindLoop_carried 4 _).booked.mono id)
  · exact .refl s

theorem reecFrame_booked (n : FrameNo) : Booked (ReentrySound s) s (s.reecFrame n) := by
  have ticked := Carried.foldl (fun s c => tickContext_carried s n c) allContexts s
  exact ticked.booked.trans ((pace_booked _).mono ticked.sound)

theorem takeGrant_booked (g : Grant) : Booked p s (s.takeGrant g) := by
  unfold State.takeGrant
  split
  · exact .refl s
  · exact .ite (setCtx_booked s _ _) (.refl s)

theorem takeGrants_booked : Booked p s s.takeGrants :=
  (withReentry_same s _).booked.trans (.foldl takeGrant_booked _ _)

theorem buildGrants_booked (n : FrameNo) : Booked p s (s.buildGrants n) :=
  (s.send_same _).booked.trans (withReentry_same _ _).booked

/-! ### The sector's loss and the walk of DOWN terminals -/

theorem unqueueDown_booked {i : Slot} (h : (s.term i).state = .queued) (n : Nat) (b : Bool) :
    Booked p s ((s.unqueue i).enterDown i n b) :=
  (unqueue_booked s i).trans ((enterDown_booked _ i n b).of (out_of_state h))

theorem loseAttempt_booked {i : Slot} (h : (s.term i).state = .ranging) (b : Bool) :
    Booked p s (s.loseAttempt i b) := by
  unfold State.loseAttempt
  split
  · next c a hc =>
    obtain ⟨-, ht⟩ := contextOf_holds hc
    exact (endAttempt_booked s c a _ b).of (out_of_state (ht.symm ▸ h))
  · exact (takeOutcome_booked s i _ _ b).of (out_of_state h)

theorem loseTerminal_booked (i : Slot) : Booked p s (s.loseTerminal i) := by
  unfold State.loseTerminal
  split
  case h_1 | h_2 | h_3 => exact outage_booked s i false
  case h_4 h => exact unqueueDown_booked s h _ false
  case h_5 h => exact loseAttempt_booked s h false
  all_goals exact .refl s

theorem restartTerminal_booked (i : Slot) : Booked p s (s.restartTerminal i) := by
  unfold State.restartTerminal
  split
  case h_1 | h_2 | h_3 => exact outage_booked s i true
  case h_4 h => exact unqueueDown_booked s h _ true
  case h_5 h => exact loseAttempt_booked s h true
  case h_6 h => exact (enterDown_booked s i _ true).of (out_of_state h)
  all_goals exact .refl s

theorem takeSectorState_booked (u : Bool) : Booked p s (s.takeSectorState u) := by
  have set (v : Bool) : Booked p s (s.setSectorUp v) := (s.setSectorUp_same v).booked
  exact .ite (.refl s) <| .ite ((set true).trans (raise_booked _ _)) <|
    ((((set false).trans (count_booked _ _)).trans (raise_booked _ _)).trans (.foldl loseTerminal_booked _ _)).trans
      (State.clearReentry_same _).booked

theorem expireTimer_booked (i : Slot) : Booked p s (s.expireTimer i) := by
  unfold State.expireTimer
  split
  · next h => exact (makeQueued_booked s i).of (out_of_state h.1)
  · exact .refl s

theorem walkDown_booked : Booked p s s.walkDown :=
  .foldl (fun s i => (booked_modTerm s i).trans (expireTimer_booked _ i)) _ s

/-! ### Records -/

theorem takeFrameStart_booked (n : FrameNo) : Booked p s (s.takeFrameStart n) :=
  (s.takeFrameStart_same n).booked

theorem takeBurst_booked (r : BurstReport) : Booked p s (s.takeBurst r) := by
  refine .ite ((takeSample_booked s _ _ _).trans (State.takePayload_same _ r).booked) ?_
  split
  · next c a h =>
    refine Booked.trans ?_ (State.dropPayload_same _ _).booked
    unfold State.provingContext at h
    split at h
    · next hc =>
      split at h <;> cases h
      next k =>
      obtain ⟨-, ht⟩ := contextOf_holds hc
      exact (judgeProving_booked s c a _ _).of (out_of_state (ht.symm ▸ k.1))
    · cases h
  · exact count_booked s _

theorem takeMissReport_booked (r : MissReport) : Booked (ReentrySound s) s (s.takeMissReport r) := by
  refine .ite (takeMiss_booked s _) ?_
  split
  · next h => exact (judgeProvingMiss_booked s _ _).held (provingContext_holder s h)
  · exact count_booked s _

theorem takeRanging_booked (r : RangingReport) : Booked (ReentrySound s) s (s.takeRanging r) := by
  unfold State.takeRanging
  split
  · next h => exact (judgeRanging_booked s _ _ r).held (invitedContext_holder s h)
  · exact count_booked s _

theorem takeRangingMiss_booked (i : Slot) : Booked (ReentrySound s) s (s.takeRangingMiss i) := by
  unfold State.takeRangingMiss
  split
  · next h => exact (judgeRangingMiss_booked s _ _).held (invitedContext_holder s h)
  · exact count_booked s _

theorem takeRecord_booked (r : LinkRecord) : Booked (ReentrySound s) s (s.takeRecord r) :=
  .ite (.ite (takeFrameStart_booked s _) <| .ite (takeBurst_booked s _) <| .ite (takeMissReport_booked s _) <|
    .ite (takeRanging_booked s _) <| .ite (takeRangingMiss_booked s _) (takeSectorState_booked s _)) (count_booked s _)

end

end Sys2Proof.Machine

namespace Sys2Proof.Machine

/-! ### One flow linked elsewhere (R88, R91) -/

/-- A sum of charges does not count a flow that is charged nothing. -/
theorem sumCB_without (s : State) {x : Direction} {f : FlowIdx} (hf : (s.flow f).charge x = 0) (l : List FlowIdx) :
    s.sumCB x [] l = s.sumCB x [] (l.filter fun g => decide (g ≠ f)) := by
  rw [sumCB_eq_charges, sumCB_eq_charges, sum_map_filter]
  refine congrArg List.sum (List.map_congr_left fun g _ => ?_)
  by_cases e : g = f
  · rw [e, hf]; simp
  · rw [if_pos e]

/-- Between two states one flow, ADMITTED in neither, has been unlinked and linked elsewhere or left unbound; the chains
are the same but for it. -/
structure Relinked (s t : State) (f : FlowIdx) : Prop where
  same : SameBut [.terms, .flows] s t
  term : ∀ j, (t.term j).standing = (s.term j).standing ∧ ∀ x, (t.term j).need x = (s.term j).need x
  other : ∀ g, g ≠ f → (t.flow g).state = (s.flow g).state ∧ (t.flow g).bound = (s.flow g).bound ∧
    ∀ x, (t.flow g).charge x = (s.flow g).charge x
  state : (t.flow f).state = (s.flow f).state
  unserved : (s.flow f).state ≠ .admitted
  chain : ChainsSound s → ∀ j, (t.chain j).filter (fun g => decide (g ≠ f)) = (s.chain j).filter fun g => decide (g ≠ f)
  chains : ChainsSound s → ChainsSound t

section
variable {s t : State} {f : FlowIdx}

theorem Relinked.needWith (h : Relinked s t f) (k : ChainsSound s) (j : Slot) (x : Direction) :
    t.needWith j x [] = s.needWith j x [] := by
  have sum : t.sumCB x [] (t.chain j) = s.sumCB x [] (s.chain j) := by
    rw [sumCB_without t (Flow.charge_of_ne (by rw [h.state]; exact h.unserved) x), h.chain k,
      sumCB_without s (Flow.charge_of_ne h.unserved x) (s.chain j), sumCB_eq_charges, sumCB_eq_charges]
    refine congrArg List.sum (List.map_congr_left fun g hg => ?_)
    obtain ⟨-, -, charge⟩ := h.other g (of_decide_eq_true (List.mem_filter.mp hg).2)
    exact charge x
  have setup : t.setup.m = s.setup.m := congrArg Setup.m (h.same .setup (by decide))
  have profiles : t.profiles = s.profiles := h.same .profiles (by decide)
  exact le_antisymm (needWith_le_of_sums (fun _ => (h.term j).1) setup profiles sum.le)
    (needWith_le_of_sums (fun _ => (h.term j).1.symm) setup.symm profiles.symm sum.ge)

theorem Relinked.booked {p : Prop} (h : Relinked s t f) : Booked p s t where
  list k := k.congr (congrArg Ledger.list (h.same .ledger (by decide))) fun g => by
    by_cases e : g = f
    · rw [e, h.state]
    · rw [(h.other g e).1]
  ledger _ k := by
    have setup : t.setup = s.setup := h.same .setup (by decide)
    have load (x : Direction) : t.load x = s.load x := load_of_ledger (h.same .ledger (by decide)) x
    refine ⟨⟨h.chains k.chains, ?_, k.served.congr (fun g ha => ?_) fun g i _ _ hs => ?_, fun j x => ?_,
      k.loads.congr load fun j x => (h.term j).2 x⟩, fun x => ?_⟩
    · rw [SetupSound, setup]; exact k.setup
    · have e : g ≠ f := fun e => h.unserved (h.state ▸ e ▸ ha)
      obtain ⟨state, bound, -⟩ := h.other g e
      exact ⟨state ▸ ha, bound⟩
    · rw [serviced_of_standing (h.term i).1]; exact hs
    · rw [(h.term j).2, h.needWith k.chains]; exact k.needs j x
    · rw [load, setup]; exact k.fits x

/-- Two records that differ in their chain heads alone have one standing and hold the same needs. -/
theorem standing_of_head {t u : Terminal} {o : Option FlowIdx} (h : u = { t with chainHead := o }) :
    u.standing = t.standing ∧ ∀ x, u.need x = t.need x := by
  rw [h]
  exact ⟨rfl, fun x => by cases x <;> rfl⟩

/-- Two records that differ in their links alone are charged alike. -/
theorem charges_of_next {r q : Flow} {o : Option FlowIdx} (h : q = { r with chainNext := o }) :
    q.state = r.state ∧ q.bound = r.bound ∧ ∀ x, q.charge x = r.charge x := by
  rw [h]
  exact ⟨rfl, rfl, fun _ => rfl⟩

/-- A flow unlinked and unbound (R91). -/
theorem unbound_relinked {i : Slot} (hb : (s.flow f).bound = some i) (hd : (s.flow f).state ≠ .admitted) :
    Relinked s (s.unbound i f) f := by
  have e : s.unbound i f = (s.unchain f).modFlow f fun r => { r with bound := none } := by
    rw [State.unbound, State.unchain, hb]
  have chain (j : Slot) : (s.unbound i f).chain j = (s.unchain f).chain j := by
    rw [unbound_chain, State.unchain, hb]
  refine ⟨unbound_same s i f, fun j => standing_of_head (unbound_term s i f j),
    fun g hg => charges_of_next (unbound_flow_other s i f hg), by rw [unbound_flow_same], hd, fun k j => ?_, fun k => ?_⟩
  · rw [chain, unchain_chain s f k, List.filter_filter]
    exact List.filter_congr fun g _ => by simp
  · rw [e]
    exact unchain_chainsSound k f fun _ => ⟨rfl, rfl⟩

theorem unbind_booked {p : Prop} (hd : (s.flow f).state ≠ .admitted) : Booked p s (s.unbind f) := by
  cases hb : (s.flow f).bound with
  | none => rw [State.unbind, hb]; exact .refl s
  | some i =>
    rw [unbind_eq hb]
    exact (unbound_relinked hb hd).booked.trans (reportRamping_booked _)

/-- The terminal that a SET_FLOW binds anew has room in its chain (R87). -/
def State.hasRoomFor (s : State) (w : FlowWrite) : Prop :=
  ∀ i, w.terminal = some i → (s.flow w.flow).bound ≠ some i → (s.chain i).length < 16

/-- A flow bound and linked by a SET_FLOW (R88). -/
theorem bindFlow_relinked {w : FlowWrite} (hd : (s.flow w.flow).state ≠ .admitted) (hroom : s.hasRoomFor w) :
    Relinked s (s.bindFlow w) w.flow := by
  have bound := bindFlow_bound s w
  exact ⟨bound.same, fun j => standing_of_head (bound.term j), fun g hg => charges_of_next (bound.other g hg),
    by rw [bound.flow], hd, fun k j => (bindFlow_chains k hroom j).1, fun k => bindFlow_chainsSound k hroom⟩

end

/-! ### The fields of a SET_FLOW (R89, R121) -/

section
variable {p : Prop} (s : State) (w : FlowWrite)

/-- Fields written over those of a flow that is not ADMITTED, or keeps its direction and its CB. -/
theorem writeFlow_booked (h : (s.flow w.flow).state = .admitted →
    w.dir = (s.flow w.flow).dir ∧ w.cb = (s.flow w.flow).cb) : Booked p s (s.writeFlow w) := by
  refine booked_modFlow s w.flow ?_
  simp only [Flow.account, FlowAccount.mk.injEq, true_and]
  funext x
  unfold Flow.charge
  by_cases ha : (s.flow w.flow).state = .admitted
  · rw [(h ha).1, (h ha).2]
  · simp [ha]

/-- An ADMITTED flow whose CB changes is withdrawn to WAITING (R89, R121). -/
theorem withdrawWritten_booked (ha : (s.flow w.flow).state = .admitted) :
    Booked p s (((s.writeFlow w).withdraw w.flow .new).repriceFlow w.flow) := by
  let b := (s.writeFlow w).withdraw w.flow .new
  have admitted : ((s.writeFlow w).flow w.flow).state = .admitted := by
    rw [State.writeFlow, State.modFlow_flow, if_pos rfl]
    exact ha
  refine ⟨fun h => ?_, fun _ h => ?_⟩
  · have written : ReadmissionSound (s.writeFlow w) := h.congr rfl fun g => by
      rw [State.writeFlow, State.modFlow_flow]
      split
      · next e => rw [e]
      · rfl
    refine (written.withdraw admitted .new).congr (repriceFlow_list _ _) fun g => ?_
    rw [repriceFlow_flow]
  · have same : SameBut [.flows, .ledger] s b := (s.modFlow_same _ _).then (State.withdraw_same _ _ _) rfl rfl
    have links : SameLinks s b := ((writeFlow_quiet s w).trans (withdraw_quiet _ _ _)).links
    refine h.lessFlow same links (fun g hg => ?_) ha ?_
    · rw [withdraw_flow, if_neg hg, State.writeFlow, State.modFlow_flow, if_neg hg]
    · rw [withdraw_flow, if_pos rfl]; nofun

/-- The fields of a SET_FLOW written, and the flow withdrawn where it is ADMITTED and its CB changes. -/
theorem rate_booked {c : Bool} (h : (s.flow w.flow).state = .admitted →
    w.dir = (s.flow w.flow).dir ∧ (c = false → w.cb = (s.flow w.flow).cb)) : Booked p s (s.rate w c) := by
  have state : ((s.writeFlow w).flow w.flow).state = (s.flow w.flow).state := by
    rw [State.writeFlow, State.modFlow_flow, if_pos rfl]
  unfold State.rate State.withdrawForRate
  by_cases ha : (s.flow w.flow).state = .admitted
  · rw [if_pos (state.trans ha)]
    split
    · exact (withdrawWritten_booked s w ha).trans (noteFlowWaiting_booked _ _)
    · next hc => exact writeFlow_booked s w fun k => ⟨(h k).1, (h k).2 (Bool.eq_false_iff.mpr hc)⟩
  · rw [if_neg (mt state.symm.trans ha), ite_self]
    exact writeFlow_booked s w fun k => absurd k ha

/-- An enabled flow that a SET_FLOW neither rebinds nor reclasses keeps its links. -/
theorem bindFlow_eq_self (hr : w.rebinds (s.flow w.flow) = false) (hc : w.cls = (s.flow w.flow).cls) :
    s.bindFlow w = s := by
  have bound : s.boundTo w = (s.flow w.flow).bound := by
    unfold State.boundTo
    cases ht : w.terminal with
    | none => rfl
    | some i => simpa [FlowWrite.rebinds, ht] using hr
  rw [bindFlow_eq, if_pos ⟨bound, hc.symm⟩]

/-- A SET_FLOW that its checks let pass: of an enabled flow it changes neither terminal, direction nor class (R87). -/
theorem setFlow_booked (hroom : s.hasRoomFor w) (h : (s.flow w.flow).state ≠ .disabled →
    w.rebinds (s.flow w.flow) = false ∧ w.dir = (s.flow w.flow).dir ∧ w.cls = (s.flow w.flow).cls) :
    Booked p s (s.setFlow w) := by
  have fields : Booked p s (s.setFields w) := by
    unfold State.setFields
    by_cases hd : (s.flow w.flow).state = .disabled
    · have out : (s.flow w.flow).state ≠ .admitted := by rw [hd]; nofun
      have relinked := bindFlow_relinked out hroom
      exact relinked.booked.trans (rate_booked _ w fun k => absurd (relinked.state ▸ k) out)
    · obtain ⟨hr, hdir, hcls⟩ := h hd
      rw [bindFlow_eq_self s w hr hcls]
      exact rate_booked s w fun _ => ⟨hdir, fun hc => not_not.mp (of_decide_eq_false hc)⟩
  have quiet : Booked p s (s.setFlowQuiet w) := .ite (fields.trans (trimTail_booked _ _ _)) fields
  rw [setFlow_eq]
  exact .ite (quiet.trans (reportRamping_booked _)) quiet

end

end Sys2Proof.Machine

namespace Sys2Proof.Machine

/-! ### Every serviced terminal repriced (R122) -/

/-- Between two states the terminals of a list have been repriced one after another. -/
structure RepriceRun (s t : State) (l : List Slot) : Prop where
  same : SameBut [.terms, .ledger] s t
  fields : ∀ j, (t.term j).state = (s.term j).state ∧ (t.term j).current = (s.term j).current ∧
    (t.term j).chainHead = (s.term j).chainHead
  repriced : ∀ j ∈ l, t.holdsNeeds j
  other : ∀ j, j ∉ l → ∀ x, (t.term j).need x = (s.term j).need x
  loads : LoadsSound s → LoadsSound t

section
variable {s t u : State} {l : List Slot} {i : Slot}

theorem RepriceRun.needWith (h : RepriceRun s t l) (j : Slot) (x : Direction) : t.needWith j x [] = s.needWith j x [] := by
  have flow (f : FlowIdx) : t.flow f = s.flow f := flow_of_flows (h.same .flows (by decide)) f
  obtain ⟨state, current, head⟩ := h.fields j
  have chain : t.chain j = s.chain j := chain_congr head fun f => by rw [flow]
  have standing : (t.term j).standing = (s.term j).standing := by
    rw [Terminal.standing, Terminal.standing, state, current]
  exact needWith_eq_of_charges standing chain (congrArg Setup.m (h.same .setup (by decide)))
    (h.same .profiles (by decide)) fun f _ => by rw [flow]

theorem RepriceRun.reprice (h : RepriceRun s t l) (i : Slot) : RepriceRun s (t.reprice i) (i :: l) where
  same := h.same.then (t.reprice_same i) rfl rfl
  fields j := by
    rw [reprice_term]
    split
    · next e => rw [e]; exact h.fields i
    · exact h.fields j
  repriced j hj x := by
    by_cases e : j = i
    · rw [e]; exact reprice_need t i x
    · rw [reprice_needWith, reprice_term, if_neg e]
      exact h.repriced j ((List.mem_cons.mp hj).resolve_left e) x
  other j hj x := by
    obtain ⟨hi, hl⟩ := not_or.mp (mt List.mem_cons.mpr hj)
    rw [reprice_term, if_neg hi, h.other j hl]
  loads _ := reprice_loadsSound t i

theorem repriceRun_foldl (s : State) (l : List Slot) : ∃ m, RepriceRun s (l.foldl State.reprice s) m ∧ ∀ j ∈ l, j ∈ m := by
  have run (l : List Slot) : ∀ (t : State) (m : List Slot), RepriceRun s t m →
      ∃ n, RepriceRun s (l.foldl State.reprice t) n ∧ (∀ j ∈ m, j ∈ n) ∧ ∀ j ∈ l, j ∈ n := by
    induction l with
    | nil => exact fun t m h => ⟨m, h, fun _ hj => hj, nofun⟩
    | cons i rest ih =>
      intro t m h
      obtain ⟨n, hn, hm, hl⟩ := ih _ _ (h.reprice i)
      refine ⟨n, hn, fun j hj => hm j (List.mem_cons_of_mem i hj), fun j hj => ?_⟩
      rcases List.mem_cons.mp hj with rfl | hj
      · exact hm _ List.mem_cons_self
      · exact hl j hj
  have start : RepriceRun s s [] := ⟨.refl _ s, fun _ => ⟨rfl, rfl, rfl⟩, nofun, fun _ _ _ => rfl, id⟩
  obtain ⟨m, hm, -, hl⟩ := run l s [] start
  exact ⟨m, hm, hl⟩

theorem mem_servicedSlots (s : State) (i : Slot) : i ∈ s.servicedSlots ↔ (s.term i).state.serviced = true :=
  Table.mem_keys _ _ _ rfl

/-! ### The setup record written (R122, R181) -/

/-- The books with another setup record, its serviced terminals repriced; an idle terminal's needs are 0 whatever M is. -/
theorem Priced.repriceAll (h : Priced s) {c : Setup} (hc : SetupSound { s with setup := c }) :
    Priced ({ s with setup := c } : State).repriceAll := by
  let v : State := { s with setup := c }
  obtain ⟨m, run, all⟩ := repriceRun_foldl v v.servicedSlots
  have flow (f : FlowIdx) : v.repriceAll.flow f = s.flow f := flow_of_flows (run.same .flows (by decide)) f
  have state (i : Slot) : (v.repriceAll.term i).state = (s.term i).state := (run.fields i).1
  refine ⟨h.chains.congr (fun f => by rw [flow]; exact ⟨rfl, rfl, rfl⟩) fun i => (run.fields i).2.2, ?_,
    h.served.congr (fun f ha => by rw [flow] at ha ⊢; exact ⟨ha, rfl⟩) fun f i _ _ hs => by rw [state]; exact hs,
    fun i x => ?_, run.loads h.loads⟩
  · rw [SetupSound, show v.repriceAll.setup = c from run.same .setup (by decide)]
    exact hc
  · by_cases hi : i ∈ m
    · exact run.repriced i hi x
    · have out : (s.term i).state.serviced = false :=
        Bool.eq_false_iff.mpr fun k => hi (all i ((mem_servicedSlots v i).mpr k))
      rw [needWith_unserviced (by rw [state]; exact out)]
      exact (run.other i hi x).trans ((h.needs i x).trans (needWith_unserviced out _ _))

/-- The books with another setup record of the same M. -/
theorem Priced.withSetup (h : Priced s) {c : Setup} (hc : SetupSound { s with setup := c }) (hm : c.m = s.setup.m) :
    Priced ({ s with setup := c } : State) where
  chains := h.chains.congr (fun _ => ⟨rfl, rfl, rfl⟩) fun _ => rfl
  setup := hc
  served := h.served
  needs i x := (h.needs i x).trans
    (needWith_eq_of_charges (s := s) (t := { s with setup := c }) rfl (chain_congr rfl fun _ => rfl) hm rfl fun _ _ => rfl).symm
  loads := h.loads

/-- A SET_SECTOR's effect after the windows: needs priced again where M changes, and flows shed where a capacity may
have fallen (R122). -/
def State.repriceFor (s : State) (c : Setup) : State :=
  let t : State := { s with setup := c }
  let t := if c.m ≠ s.setup.m then t.repriceAll else t
  if c.u ≠ s.setup.u ∨ c.rs ≠ s.setup.rs ∨ c.m ≠ s.setup.m ∨ c.d ≠ s.setup.d then t.shedToFit else t

theorem writeSetup_eq (s : State) (c : Setup) :
    s.writeSetup c = (if c.w ≠ s.setup.w then s.restartWindows else s).repriceFor c := by
  unfold State.writeSetup State.repriceFor
  by_cases h : c.w ≠ s.setup.w
  · simp only [if_pos h]; rfl
  · simp only [if_neg h]

theorem ReadmissionSound.repriceFor (h : ReadmissionSound s) (c : Setup) : ReadmissionSound (s.repriceFor c) := by
  have written : ReadmissionSound { s with setup := c } := h.congr rfl fun _ => rfl
  have priced : ReadmissionSound
      (if c.m ≠ s.setup.m then ({ s with setup := c } : State).repriceAll else { s with setup := c }) := by
    split
    · exact List.foldlRecOn _ _ written fun _ k i _ => k.reprice i
    · exact written
  unfold State.repriceFor
  dsimp only
  split
  · exact priced.shedToFit
  · exact priced

theorem Solvent.repriceFor (h : Solvent s) {c : Setup} (hc : SetupSound { s with setup := c }) :
    Solvent (s.repriceFor c) := by
  unfold State.repriceFor
  dsimp only
  split
  · split
    · exact (h.toPriced.repriceAll hc).shedToFit
    · next hm => exact (h.toPriced.withSetup hc (not_not.mp hm)).shedToFit
  · next kept =>
    obtain ⟨hu, hrs, hm, hd⟩ : c.u = s.setup.u ∧ c.rs = s.setup.rs ∧ c.m = s.setup.m ∧ c.d = s.setup.d := by
      simpa only [not_or, not_not] using kept
    rw [if_neg (not_not.mpr hm)]
    refine ⟨h.toPriced.withSetup hc hm, fun x => (h.fits x).trans_eq ?_⟩
    cases x with
    | up => simp only [Setup.capacity, Setup.usableUp, hu, hrs]
    | down => exact hd.symm

theorem writeSetup_booked {p : Prop} {c : Setup} (hc : SetupSound s → SetupSound { s with setup := c }) :
    Booked p s (s.writeSetup c) := by
  rw [writeSetup_eq]
  have windows : Booked p s (if c.w ≠ s.setup.w then s.restartWindows else s) :=
    .ite (restartWindows_booked s) (.refl s)
  refine ⟨fun h => (windows.list h).repriceFor c, fun hp h => (windows.ledger hp h).repriceFor ?_⟩
  exact hc h.setup

/-! ### The profile table (R41, R42) -/

/-- An entry that no terminal is priced at is written: the needs stay. -/
theorem setProfile_booked {p : Prop} {k : ProfIdx} (hk : s.profileInUse k = false) (e : Profile) :
    Booked p s (s.setProfile k e) where
  list h := h.congr rfl fun _ => rfl
  ledger _ h := by
    have pricing (i : Slot) : (s.setProfile k e).pricing i = s.pricing i := by
      show (match (s.term i).current with
        | some q => (s.setProfile k e).profile q
        | none => Profile.reset) = s.pricing i
      unfold State.pricing
      cases hc : (s.term i).current with
      | none => rfl
      | some q =>
        have unused : q ≠ k := by
          rintro rfl
          rw [(profileInUse_iff s q).mpr (.inl ⟨i, hc⟩)] at hk
          cases hk
        exact (State.setProfile_profile s k q e).trans (if_neg unused)
    have needs (i : Slot) (x : Direction) : (s.setProfile k e).needWith i x [] = s.needWith i x [] := by
      have chain : (s.setProfile k e).chain i = s.chain i := chain_congr rfl fun _ => rfl
      simp only [State.needWith, chain, pricing]
      rfl
    exact ⟨⟨h.chains.congr (fun _ => ⟨rfl, rfl, rfl⟩) fun _ => rfl, h.setup, h.served,
      fun i x => (h.needs i x).trans (needs i x).symm, h.loads⟩, h.fits⟩

/-! ### RESTART_SECTOR (R123) -/

theorem lost_out (s : State) (i : Slot) : (s.lost i).state.serviced = false := by
  unfold State.lost
  split
  case h_5 => split <;> rfl
  case h_1 h | h_2 h => rw [h]; rfl
  all_goals rfl

/-- A restart leaves no terminal in service (R22). -/
theorem foldl_restartTerminal_out (s : State) (j : Slot) : (s.restartSlots.foldl State.restartTerminal s).Out j := by
  have placed (i : Slot) : i ∈ s.restartSlots ↔ (s.term i).state ≠ .absent ∧ (s.term i).state ≠ .parked := by
    rw [restartSlots_eq]; simp
  have all := foldl_lost (σ := State.restartTerminal)
    (ok := fun s i => (s.term i).state ≠ .absent ∧ (s.term i).state ≠ .parked)
    (fun s i h => (restartTerminal_spec s i h).1) (fun s i j hj h k => by rw [h.other j hj]; exact k)
    s.restartSlots s (Table.keys_nodup _ _) fun i hi => (placed i).mp hi
  rw [State.Out, all.term]
  split
  · exact lost_out s j
  · next hj =>
    rw [placed, not_and_or, not_not, not_not] at hj
    rcases hj with e | e <;> rw [e] <;> rfl

theorem Flow.restarted_waiting (r : Flow) : r.restarted.state.isWaiting = true ↔ r.state ≠ .disabled := by
  by_cases h : r.state = .disabled <;> simp [Flow.restarted, h, FlowState.isWaiting]

theorem Flow.restarted_ne_admitted (r : Flow) : r.restarted.state ≠ .admitted := by
  by_cases h : r.state = .disabled <;> simp [Flow.restarted, h]

/-- The list rebuilt is that of the WAITING flows, whatever it was before (R123). -/
theorem rebuilt_readmissionSound (s : State) : ReadmissionSound s.rebuilt := by
  let v := s.clearReentry.clearWindows
  have list : s.rebuilt.ledger.list = v.enabledInOrder := rfl
  have nodup : v.enabledInOrder.Nodup := (enabledInOrder_pairwise v).imp fun h e => by
    subst e
    rcases h with h | ⟨-, h⟩ <;> exact lt_irrefl _ h
  rw [ReadmissionSound, list]
  refine ⟨nodup, fun f => ?_⟩
  rw [mem_enabledInOrder, rebuilt_flow, Flow.restarted_waiting]
  rfl

theorem rebuilt_links (s : State) : SameLinks s s.rebuilt :=
  (((clearReentry_quiet s).trans (clearWindows_quiet _)).trans ((rebuildLedger_quiet _).trans (flushAll_quiet _))).links

/-- With no terminal in service the ledger rebuilt is sound: its needs and loads are 0 (R123). -/
theorem Solvent.rebuilt (h : Solvent s) (out : ∀ i, s.Out i) : Solvent s.rebuilt := by
  have setup : s.rebuilt.setup = s.setup := rebuilt_same s .setup (by decide)
  have need (i : Slot) (x : Direction) : (s.rebuilt.term i).need x = 0 := by
    rw [rebuilt_term]
    cases x <;> rfl
  have load (x : Direction) : s.rebuilt.load x = 0 := by cases x <;> rfl
  refine ⟨⟨(rebuilt_links s).chainsSound h.chains, ?_, fun f ha => ?_, fun i x => ?_, ?_⟩, fun x => ?_⟩
  · rw [SetupSound, setup]; exact h.setup
  · rw [rebuilt_flow] at ha
    exact absurd ha (Flow.restarted_ne_admitted _)
  · rw [need, needWith_unserviced]
    rw [rebuilt_term]
    exact out i
  · rw [loadsSound_iff]
    intro x
    simp only [load, need, List.map_const', List.sum_replicate, smul_zero]
  · rw [load]
    exact Nat.zero_le _

theorem restart_booked {p : Prop} (s : State) : Booked p s s.restart := by
  let v := s.raise .restart
  let u := v.restartSlots.foldl State.restartTerminal v
  have placed : Booked p s u := (raise_booked s _).trans (.foldl (fun s i => restartTerminal_booked s i) _ v)
  exact placed.trans ⟨fun _ => rebuilt_readmissionSound u, fun _ h => h.rebuilt (foldl_restartTerminal_out v)⟩

/-! ### Reset and clears -/

theorem deviceReset_booked {p : Prop} (s : State) (straps : Byte) :
    Booked p s { State.resetWith straps with pending := s.pending } where
  list _ := ⟨.nil, fun _ => ⟨nofun, nofun⟩⟩
  ledger _ _ := by
    have reset := (solvent_iff _).mpr
      ⟨resetWith_chainsSound straps, resetWith_setupSound straps, resetWith_ledgerSound straps⟩
    have same : SameBut [.pending] (State.resetWith straps) { State.resetWith straps with pending := s.pending } := by
      intro q hq
      cases q <;> first | rfl | exact absurd (by decide) hq
    exact same.sameBooks.solvent reset

theorem clearAllCounters_booked {p : Prop} (s : State) : Booked p s s.clearAllCounters := by
  have same := s.clearAllCounters_same
  have books : SameBooks s s.clearAllCounters :=
    ⟨same .setup (by decide), same .profiles (by decide), same .ledger (by decide),
      fun f => by rw [State.clearAllCounters_flow]; rfl, fun i => by rw [State.clearAllCounters_term]; rfl⟩
  exact books.booked

end

end Sys2Proof.Machine

namespace Sys2Proof.Machine

/-! ### Terminal commands -/

section
variable {p : Prop} (s : State) (i : Slot)

theorem requeue_booked : Booked p s (s.requeue i) :=
  .ite ((unqueue_booked s i).trans (State.placeReentry_same _ i).booked) (.refl s)

theorem ceilingEntry_booked : Booked p s (s.ceilingEntry i) := by
  unfold State.ceilingEntry
  split
  · split
    · exact .ite (setCtx_booked s _ _) (.refl s)
    · exact .refl s
  · exact .refl s

theorem parkRanging_booked (h : (s.term i).state = .ranging) : Booked p s (s.parkRanging i) := by
  unfold State.parkRanging
  split
  · next c a hc =>
    obtain ⟨-, ht⟩ := contextOf_holds hc
    exact .ite (setCtx_booked s _ _) ((endAttempt_booked s c a _ _).of (out_of_state (ht.symm ▸ h)))
  · exact .refl s

theorem park_booked : Booked p s (s.park i) := by
  unfold State.park
  split
  case h_3 h => exact (booked_modTerm_out s i).of (out_of_state h)
  case h_4 h => exact (unqueue_booked s i).trans ((booked_modTerm_out _ i).of (out_of_state h))
  case h_5 h => exact parkRanging_booked s i h
  case h_6 | h_7 | h_8 => exact leaveService_booked s i _ _ _ rfl
  all_goals exact .refl s

theorem releaseTerminal_booked (h : (s.term i).state = .parked) : Booked p s (s.releaseTerminal i) :=
  .ite ((makeQueued_booked s i).of (out_of_state h)) ((enterDown_booked s i 0 false).of (out_of_state h))

/-- A slot given up holds no needs and no chain (R11). -/
theorem deprovision_booked (h : (s.term i).state = .parked) (hc : (s.term i).chainHead = none) :
    Booked p s (s.modTerm i fun _ => Terminal.reset) where
  list k := k.congr rfl fun _ => rfl
  ledger _ k := by
    have out : s.Out i := out_of_state h
    have none (x : Direction) : (s.term i).need x = 0 := (k.needs i x).trans (needWith_unserviced out x [])
    exact (sameBooks_modTerm s i (account_of_out out rfl hc.symm ⟨(none .up).symm, (none .down).symm⟩)).solvent k

end

/-! ### The shape of a command -/

section
variable {p : Prop} {s : State} {src : Mac}

/-- What a write command's checks let pass is booked from the state with its source the controller (R178). -/
theorem Booked.runWrite {code : Byte} {len : Nat} {body : List Byte} {check : State → Verdict}
    (h : ∀ st effect result, check s = .take st effect result →
      Booked p (s.controlledBy src) (effect (s.controlledBy src))) :
    Booked p s (s.runWrite src code len body check) := by
  by_cases hl : body.length = len
  · cases hc : check s with
    | refuse st => rw [State.runWrite_refuse hl hc]; exact complete_booked s _ _ _
    | take st effect result =>
      rw [State.runWrite_take hl hc]
      exact ((controlledBy_booked s src).trans (h _ _ _ hc)).trans (complete_booked _ _ _ _)
  · rw [State.runWrite, if_pos hl]
    exact complete_booked s _ _ _

theorem Booked.runRead (code : Byte) (len : Nat) (body : List Byte) (read : State → Status × List Byte) :
    Booked p s (s.runRead src code len body read) := by
  unfold State.runRead
  split <;> exact complete_booked s _ _ _

end

/-! ### What each command's checks let pass -/

section
variable {p : Prop} {s : State} {src : Mac} {st : Status} {effect : State → State} {result : List Byte}

theorem checkProvision_booked {b : TerminalBody} (h : checkProvision b s = .take st effect result) :
    Booked p (s.controlledBy src) (effect (s.controlledBy src)) := by
  unfold checkProvision at h
  split at h
  · cases h
  · next absent =>
    split at h
    · cases h
    · split at h <;> cases h
      exact (booked_modTerm_out _ b.slot).of (out_of_state (not_not.mp absent))

theorem checkSetTerminal_booked {b : TerminalBody} (h : checkSetTerminal b s = .take st effect result) :
    Booked p (s.controlledBy src) (effect (s.controlledBy src)) := by
  unfold checkSetTerminal at h
  split at h
  · cases h
  · split at h
    · cases h
    · split at h <;> cases h
      exact (((booked_modTerm _ b.slot).trans (requeue_booked _ _)).trans (ceilingStep_booked _ _)).trans
        (ceilingEntry_booked _ _)

theorem checkPark_booked {i : Slot} (h : checkPark i s = .take st effect result) :
    Booked p (s.controlledBy src) (effect (s.controlledBy src)) := by
  unfold checkPark at h
  split at h <;> cases h
  exact park_booked _ i

theorem checkRelease_booked {i : Slot} (h : checkRelease i s = .take st effect result) :
    Booked p (s.controlledBy src) (effect (s.controlledBy src)) := by
  unfold checkRelease at h
  split at h
  case h_2 parked =>
    cases h
    exact releaseTerminal_booked _ i parked
  all_goals cases h

theorem checkDeprovision_booked {i : Slot} (h : checkDeprovision i s = .take st effect result) :
    Booked p (s.controlledBy src) (effect (s.controlledBy src)) := by
  unfold checkDeprovision at h
  split at h
  · cases h
  · split at h <;> cases h
    next parked =>
    obtain ⟨state, head⟩ := parked
    exact deprovision_booked _ i state head

theorem checkForce_booked {i : Slot} {n : Nat} (h : checkForce i n s = .take st effect result) :
    Booked p (s.controlledBy src) (effect (s.controlledBy src)) := by
  unfold checkForce at h
  split at h
  · cases h
  · split at h
    · cases h
    · split_ifs at h
      cases h
      exact force_booked _ i _

theorem checkWriteProfile_booked {b : ProfileBody} (h : checkWriteProfile b s = .take st effect result) :
    Booked p (s.controlledBy src) (effect (s.controlledBy src)) := by
  unfold checkWriteProfile at h
  split at h
  · cases h
  · split_ifs at h with used _
    cases h
    exact setProfile_booked (s := s.controlledBy src) (Bool.eq_false_iff.mpr used) _

theorem checkInvalidate_booked {n : Nat} (h : checkInvalidate n s = .take st effect result) :
    Booked p (s.controlledBy src) (effect (s.controlledBy src)) := by
  unfold checkInvalidate at h
  split at h
  · cases h
  · split_ifs at h with _ used
    cases h
    exact setProfile_booked (s := s.controlledBy src) (Bool.eq_false_iff.mpr used) _

/-- The checks of SET_FLOW leave room for a new binding, and let an enabled flow keep its links and its direction (R87). -/
theorem checkSetFlow_booked {b : FlowBody} (h : checkSetFlow b s = .take st effect result) :
    Booked p (s.controlledBy src) (effect (s.controlledBy src)) := by
  unfold checkSetFlow at h
  split at h
  · cases h
  · next w _ =>
    simp only at h
    split_ifs at h with _ busy full
    cases h
    refine setFlow_booked (s.controlledBy src) w (fun i ht hb => ?_) fun enabled => ?_
    · rw [State.controlledBy_chain]
      by_contra long
      refine full ⟨?_, ?_⟩
      · simpa [FlowWrite.rebinds, ht] using Ne.symm hb
      · rw [ht]; exact congrArg some (decide_eq_true (not_lt.mp long))
    · have free : ¬ (w.rebinds (s.flow w.flow) = true ∨ w.dir ≠ (s.flow w.flow).dir ∨ w.cls ≠ (s.flow w.flow).cls) :=
        fun k => busy ⟨enabled, k⟩
      simpa only [State.controlledBy_flow, not_or, Bool.not_eq_true, ne_eq, not_not] using free

theorem checkUnbind_booked {n : Nat} (h : checkUnbind n s = .take st effect result) :
    Booked p (s.controlledBy src) (effect (s.controlledBy src)) := by
  unfold checkUnbind at h
  split at h
  · cases h
  · next f _ =>
    split at h <;> cases h
    next disabled =>
    refine unbind_booked (s := s.controlledBy src) ?_
    rw [State.controlledBy_flow, not_not.mp disabled]
    nofun

theorem checkEnable_booked {n : Nat} (h : checkEnable n s = .take st effect result) :
    Booked p (s.controlledBy src) (effect (s.controlledBy src)) := by
  unfold checkEnable at h
  split at h
  · cases h
  · split at h <;> cases h
    exact enable_booked _ _

theorem checkDisable_booked {n : Nat} (h : checkDisable n s = .take st effect result) :
    Booked p (s.controlledBy src) (effect (s.controlledBy src)) := by
  unfold checkDisable at h
  split at h <;> cases h
  exact disable_booked _ _

theorem checkMapTags_booked {b : TagsBody} (h : checkMapTags b s = .take st effect result) :
    Booked p (s.controlledBy src) (effect (s.controlledBy src)) := by
  unfold checkMapTags at h
  split at h
  · cases h
  · split at h
    · cases h
    · cases h
      exact (State.writeTags_same _ _ _).booked

theorem checkSetSector_booked {body : List Byte} (h : checkSetSector (readSetupBody body) s = .take st effect result) :
    Booked p (s.controlledBy src) (effect (s.controlledBy src)) := by
  unfold checkSetSector at h
  split_ifs at h with _ large _
  cases h
  exact writeSetup_booked (apply_setupSound (s.controlledBy src) (fun _ => readSetupBody_mo) (Bool.eq_false_iff.mpr large))

theorem checkClearCounters_booked {scope : Byte} {i : Slot} {n : Nat}
    (h : checkClearCounters scope i n s = .take st effect result) :
    Booked p (s.controlledBy src) (effect (s.controlledBy src)) := by
  unfold checkClearCounters at h
  split_ifs at h
  · cases h
    exact booked_modTerm _ i
  · split at h <;> cases h
    exact booked_modFlow _ _
  · cases h
    exact clearAllCounters_booked _

end

/-! ### Every command and every step -/

/-- What every command and event keeps of the books, where the re-entry is sound. -/
theorem exec_booked (s : State) {c : Instr} {t : State} (h : exec c s = .next t) : Booked (ReentrySound s) s t := by
  cases c with
  | frameStart r | burstReport r | missReport r | rangingReport r | rangingMiss r | sectorState r =>
    cases h
    exact takeRecord_booked s r
  | trunkPacketArrival k =>
    cases h
    exact takePacket_booked s k
  | deviceReset straps =>
    cases h
    exact deviceReset_booked s straps
  | qmonFrameEvent =>
    simp only [exec, execQmonFrameEvent] at h
    split at h <;> cases h
    · exact .refl s
    · exact (withResultStamp_same s _ _).booked
  | tmgrFrameEvent =>
    simp only [exec, execTmgrFrameEvent] at h
    split at h <;> cases h
    · exact .refl s
    · exact (withLink_same s _).booked.trans (walkDown_booked _)
  | downTimerExpiry i =>
    cases h
    exact expireTimer_booked s i
  | recFrameEvent =>
    simp only [exec, execRecFrameEvent] at h
    split at h
    · cases h
      exact .refl s
    · cases h
      exact ((withLink_same s _).booked.trans (takeGrants_booked _)).trans
        ((reecFrame_booked _ _).mono ((withLink_routine s _).trans (takeGrants_routine _)).kept.sound)
  | responseTimeout k =>
    cases h
    exact timeout_booked s k
  | readmissionScan =>
    simp only [exec, execReadmissionScan] at h
    split at h <;> cases h
    · exact .refl s
    · exact (withLink_same s _).booked.trans (scan_booked _)
  | pbrFrameEvent =>
    simp only [exec, execPbrFrameEvent] at h
    split at h <;> cases h
    · exact .refl s
    · exact (withLink_same s _).booked.trans (releaseFrame_booked _ _)
  | staleDiscard f =>
    cases h
    exact staleOnce_booked s f
  | gbldFrameEvent =>
    simp only [exec, execGbldFrameEvent] at h
    split at h <;> cases h
    · exact .refl s
    · exact (withLink_same s _).booked.trans (buildGrants_booked _ _)
  | grantTake =>
    simp only [exec, execGrantTake] at h
    split at h <;> cases h
    · exact .refl s
    · exact (withReentry_same s _).booked.trans (takeGrant_booked _ _)
  | windowComplete i =>
    cases h
    exact .ite (completeIfFull_booked s i) (.refl s)
  | requestTake =>
    cases h
    exact s.takeRequest_same.booked
  | transmitComplete =>
    cases h
    exact s.finishSending_same.booked
  | noticeSend =>
    cases h
    exact s.sendNotice_same.booked
  | unknownCommand src code body =>
    cases h
    exact complete_booked s _ _ _
  | provisionTerminal src body => cases h; exact .runWrite fun _ _ _ => checkProvision_booked
  | setTerminal src body => cases h; exact .runWrite fun _ _ _ => checkSetTerminal_booked
  | parkTerminal src body => cases h; exact .runWrite fun _ _ _ => checkPark_booked
  | releaseTerminal src body => cases h; exact .runWrite fun _ _ _ => checkRelease_booked
  | deprovisionTerminal src body => cases h; exact .runWrite fun _ _ _ => checkDeprovision_booked
  | forceProfile src body => cases h; exact .runWrite fun _ _ _ => checkForce_booked
  | writeProfile src body => cases h; exact .runWrite fun _ _ _ => checkWriteProfile_booked
  | invalidateProfile src body => cases h; exact .runWrite fun _ _ _ => checkInvalidate_booked
  | setFlow src body => cases h; exact .runWrite fun _ _ _ => checkSetFlow_booked
  | unbindFlow src body => cases h; exact .runWrite fun _ _ _ => checkUnbind_booked
  | enableFlow src body => cases h; exact .runWrite fun _ _ _ => checkEnable_booked
  | disableFlow src body => cases h; exact .runWrite fun _ _ _ => checkDisable_booked
  | mapTags src body => cases h; exact .runWrite fun _ _ _ => checkMapTags_booked
  | setSector src body => cases h; exact .runWrite fun _ _ _ => checkSetSector_booked
  | restartSector src body =>
    cases h
    exact .runWrite fun _ _ _ e => by cases e; exact restart_booked _
  | readTerminal src body | readFlow src body | readProfile src body | readSector src body | readTags src body
  | readReentryQueue src body | readReadmissionList src body | readContexts src body | readLedger src body =>
    cases h
    exact .runRead _ _ _ _
  | clearCounters src body => cases h; exact .runWrite fun _ _ _ => checkClearCounters_booked
  | clearFlags src body =>
    cases h
    exact .runWrite fun _ _ _ e => by cases e; exact clearFlags_booked _

/-- The commands waiting are read by no account. -/
theorem withPending_same (s : State) (l : List Instr) : SameBut [.pending] s { s with pending := l } := by
  intro q hq
  cases q <;> first | rfl | exact absurd (by decide) hq

/-- Settles O10: each command keeps the Readmission List that of the WAITING flows, and with the re-entry sound keeps the
books sound and the loads within the capacity; so does each step, which takes one command or none. -/
theorem readmissionStaysSound : Obligations.ReadmissionStaysSound := by
  intro s t h
  refine ⟨step_induction (fun _ _ k => k) (fun _ s _ e => (exec_booked s e).list) h, fun reentry chains setup ledger => ?_⟩
  have kept : ReentrySound t ∧ Solvent t := by
    refine step_induction (P := fun u => ReentrySound u ∧ Solvent u) (fun u l ⟨sound, solvent⟩ => ⟨sound, ?_⟩)
      (fun _ u _ e ⟨sound, solvent⟩ => ⟨(exec_kept u e).sound sound, (exec_booked u e).ledger sound solvent⟩) h
      ⟨reentry, (solvent_iff s).mpr ⟨chains, setup, ledger⟩⟩
    exact (withPending_same u l).sameBooks.solvent solvent
  obtain ⟨-, solvent⟩ := kept
  obtain ⟨-, -, ledger⟩ := (solvent_iff t).mp solvent
  exact ledger

end Sys2Proof.Machine

namespace Sys2Proof.Machine

/-! ### A marker that counts an entry (R141) -/

/-- The marker after one counted entry, released or discarded: absent where it is counted to its end. -/
def Marker.counted (m : Marker) (released : Bool) : Option Marker :=
  if m.remaining - 1 = 0 then none
  else some {
    remaining := m.remaining - 1
    released := if released then m.released + 1 else m.released
    discarded := if released then m.discarded else m.discarded + 1 }

/-- The Management Agent's state after a flow's marker has counted one entry. -/
def State.countedMgmt (s : State) (f : FlowIdx) (released : Bool) : Management :=
  match (s.flow f).marker with
  | none => s.mgmt
  | some m =>
    if m.remaining - 1 = 0 then
      s.notified (.drained f (s.flow f).bound (if released then m.released + 1 else m.released)
        (if released then m.discarded else m.discarded + 1))
    else s.mgmt

section
variable (s : State) (f : FlowIdx) (b : Bool)

theorem countMarker_flow (g : FlowIdx) : (s.countMarker f b).flow g =
    if g = f then { s.flow f with marker := (s.flow f).marker.bind fun m => m.counted b } else s.flow g := by
  unfold State.countMarker
  split
  · next none =>
    split
    · next e => rw [e, none, Option.bind_none, ← none]
    · rfl
  · next m some =>
    simp only [some, Option.bind_some, Marker.counted]
    split
    · rw [State.raise_flow, State.modFlow_flow]
    · rw [State.modFlow_flow]

theorem countMarker_buffer : (s.countMarker f b).buffer = s.buffer := s.countMarker_same f b .buffer (by decide)

theorem countMarker_mgmt : (s.countMarker f b).mgmt = s.countedMgmt f b := by
  unfold State.countMarker State.countedMgmt
  cases (s.flow f).marker with
  | none => rfl
  | some m => simp only; split <;> rfl

end

/-! ### The head of a queue released or discarded (R130) -/

section
variable {s : State} {f : FlowIdx} {e : QEntry} {rest : List QEntry}

theorem releaseHead_flow (h : (s.flow f).queue = e :: rest) (g : FlowIdx) : (s.releaseHead f).flow g =
    if g = f then { s.flow f with
      queue := rest, marker := (s.flow f).marker.bind fun m => m.counted true
      counters := { (s.flow f).counters with released := satAdd (s.flow f).counters.released 1 } }
    else s.flow g := by
  unfold State.releaseHead
  rw [h]
  simp only [countMarker_flow, State.freeUp_flow, State.modFlow_flow, if_true]
  split <;> rfl

theorem releaseHead_mgmt (h : (s.flow f).queue = e :: rest) : (s.releaseHead f).mgmt = s.countedMgmt f true := by
  unfold State.releaseHead
  rw [h]
  simp only [countMarker_mgmt, State.countedMgmt, State.freeUp_flow, State.modFlow_flow_same]
  rfl

theorem releaseHead_buffer (h : (s.flow f).queue = e :: rest) :
    (s.releaseHead f).buffer = { s.buffer with freeCells := s.buffer.freeCells + e.cells } := by
  unfold State.releaseHead
  rw [h]
  simp only [countMarker_buffer]
  rfl

theorem discardStale_flow (h : (s.flow f).queue = e :: rest) (g : FlowIdx) : (s.discardStale f).flow g =
    if g = f then { s.flow f with
      queue := rest, marker := (s.flow f).marker.bind fun m => m.counted false
      counters := { (s.flow f).counters with stale := satAdd (s.flow f).counters.stale 1 } }
    else s.flow g := by
  unfold State.discardStale
  rw [h]
  simp only [countMarker_flow, State.freeUp_flow, State.modFlow_flow, if_true]
  split <;> rfl

theorem discardStale_mgmt (h : (s.flow f).queue = e :: rest) : (s.discardStale f).mgmt = s.countedMgmt f false := by
  unfold State.discardStale
  rw [h]
  simp only [countMarker_mgmt, State.countedMgmt, State.freeUp_flow, State.modFlow_flow_same]
  rfl

theorem discardStale_buffer (h : (s.flow f).queue = e :: rest) :
    (s.discardStale f).buffer = { s.buffer with freeCells := s.buffer.freeCells + e.cells } := by
  unfold State.discardStale
  rw [h]
  simp only [countMarker_buffer]
  rfl

end

/-! ### An enqueue (R126 to R129) -/

/-- Settles O33: the queue limit is tested first and the free cells second. -/
theorem enqueueTestsLimitThenCells : Obligations.EnqueueTestsLimitThenCells := by
  intro s f p
  have cells : cellsOf p.length = (p.length + 255) / 256 := rfl
  have held : (s.flow f).cellsHeld = ((s.flow f).queue.map fun e => (e.bytes.length + 255) / 256).sum := rfl
  simp only [← cells, ← held]
  refine ⟨fun full => ?_, fun fits scarce => ?_, fun fits room => ?_, ?_⟩
  · have taken : s.enqueue f p = s.modFlow f fun r =>
        { r with counters := { r.counters with full := satAdd r.counters.full 1 } } := if_pos full
    rw [taken]
    exact ⟨Table.get_put_same .., s.modFlow_same f _⟩
  · have taken : s.enqueue f p = (s.modFlow f fun r =>
        { r with counters := { r.counters with noBuf := satAdd r.counters.noBuf 1 } }).count fun k =>
          { k with noBuffer := satAdd k.noBuffer 1 } := (if_neg (not_lt.mpr fits)).trans (if_pos scarce)
    rw [taken]
    exact ⟨Table.get_put_same .., rfl, (s.modFlow_same f _).then (State.count_same _ _) rfl rfl⟩
  · let v := s.modFlow f fun r => { r with
      queue := r.queue ++ [⟨p, s.buffer.stamp⟩]
      counters := { r.counters with enqueued := satAdd r.counters.enqueued 1 } }
    have taken : s.enqueue f p = { v with
        buffer := { s.buffer with freeCells := s.buffer.freeCells - cellsOf p.length } } :=
      (if_neg (not_lt.mpr fits)).trans (if_neg (not_lt.mpr room))
    rw [taken]
    exact ⟨Table.get_put_same .., rfl, by
      intro q hq
      cases q <;> first | rfl | exact absurd (by decide) hq⟩
  · intro g hg
    unfold State.enqueue
    simp only
    split_ifs <;> exact Table.get_put_other _ _ _ _ hg

/-! ### One stale discard (R132, R142) -/

section
variable {s : State} {f : FlowIdx} {n : FrameNo} {e : QEntry} {rest : List QEntry}

theorem isStale_iff (e : QEntry) (n : FrameNo) (age : Nat) :
    e.isStale n age = true ↔ ∃ a, e.arrival = some a ∧ age < (n - a).toNat := by
  unfold QEntry.isStale
  cases e.arrival with
  | none => exact ⟨nofun, fun ⟨_, k, _⟩ => nomatch k⟩
  | some a =>
    simp only [Option.some.injEq, exists_eq_left']
    exact decide_eq_true_iff

theorem headStale_cons (h : (s.flow f).queue = e :: rest) :
    (s.flow f).headStale n = e.isStale n (s.flow f).holdAge := by rw [Flow.headStale, h]

theorem staleOnce_taken (hn : s.buffer.stamp = some n) (hd : (s.flow f).dir = .down)
    (hs : (s.flow f).headStale n = true) :
    s.staleOnce f = (s.discardStale f).raise
      (.stale f ((s.discardStale f).flow f).bound ((s.discardStale f).flow f).state 1) := by
  unfold State.staleOnce
  rw [hn]
  exact if_pos ⟨hd, hs⟩

/-- A single stale discard changes nothing where the head is not stale (R132). -/
theorem staleOnce_idle (h : ∀ n, s.buffer.stamp = some n → (s.flow f).dir = .down → (s.flow f).headStale n = false) :
    s.staleOnce f = s := by
  unfold State.staleOnce
  split
  · next n hn =>
    refine if_neg fun ⟨hd, hs⟩ => ?_
    exact nomatch hs.symm.trans (h n hn hd)
  · rfl

end

/-- Settles O39: the head is discarded where it is stale, and counted by a marker that is present. -/
theorem staleHeadIsDiscarded : Obligations.StaleHeadIsDiscarded := by
  refine ⟨fun s f n a e rest hn hd hq ha hage => ?_, fun s f idle => ?_⟩
  · have stale : (s.flow f).headStale n = true := by
      rw [headStale_cons hq]
      exact (isStale_iff e n _).mpr ⟨a, ha, hage⟩
    have flow := discardStale_flow hq f
    rw [if_pos rfl] at flow
    have same := s.discardStale_same f
    have summary : (s.staleOnce f).mgmt =
        (s.countedMgmt f false).take s.setup.enable s.link.frame (.stale f (s.flow f).bound (s.flow f).state 1) := by
      rw [staleOnce_taken hn hd stale, raise_mgmt, discardStale_mgmt hq, flow,
        show (s.discardStale f).setup = s.setup from same .setup (by decide),
        show (s.discardStale f).link = s.link from same .link (by decide)]
    have exec : exec (.staleDiscard f) s = .next (s.staleOnce f) := rfl
    refine ⟨_, (s.flow f).marker.bind fun m => m.counted false, exec, ?_, fun g hg => ?_, ?_, fun none => ?_,
      fun k some long => ?_, fun k some last => ?_, s.staleOnce_same f⟩
    · rw [staleOnce_taken hn hd stale, State.raise_flow, flow]
      rfl
    · rw [staleOnce_taken hn hd stale, State.raise_flow, discardStale_flow hq, if_neg hg]
    · rw [staleOnce_taken hn hd stale, State.raise_buffer, discardStale_buffer hq]
      rfl
    · rw [summary, State.countedMgmt, none]
      exact ⟨Option.bind_none _, rfl⟩
    · have going : ¬ k.remaining - 1 = 0 := by omega
      rw [summary, State.countedMgmt, some, Option.bind_some, Marker.counted]
      simp only [if_neg going]
      exact ⟨rfl, rfl⟩
    · have ended : k.remaining - 1 = 0 := by omega
      rw [summary, State.countedMgmt, some, Option.bind_some, Marker.counted]
      simp only [if_pos ended, true_and]
      rfl
  · refine congrArg Host.Outcome.next (staleOnce_idle fun n hn hd => ?_)
    rcases idle with none | up | empty | ⟨m, e, rest, hm, hq, fresh⟩
    · exact nomatch none.symm.trans hn
    · exact nomatch up.symm.trans hd
    · rw [Flow.headStale, empty]
    · rw [headStale_cons hq]
      refine Bool.eq_false_iff.mpr fun k => ?_
      obtain ⟨a, ha, hage⟩ := (isStale_iff e n _).mp k
      rw [Option.some.inj (hn.symm.trans hm)] at hage
      exact absurd hage (not_lt.mpr (fresh a ha))

end Sys2Proof.Machine

namespace Sys2Proof.Machine

/-! ### Cells that are free or held (R126) -/

/-- Between two states the free cells and the cells held by the flow queues sum to the same. -/
def Conserves (s t : State) : Prop :=
  t.buffer.freeCells + t.flows.total Flow.cellsHeld = s.buffer.freeCells + s.flows.total Flow.cellsHeld

section
variable {s t u : State} {ps : List Part}

theorem Conserves.refl (s : State) : Conserves s s := rfl

theorem Conserves.trans (h : Conserves s t) (k : Conserves t u) : Conserves s u := Eq.trans k h

theorem Conserves.foldl {α : Type} {g : State → α → State} (h : ∀ s a, Conserves s (g s a)) (l : List α) :
    ∀ s, Conserves s (l.foldl g s) := by
  induction l with
  | nil => exact .refl
  | cons a rest ih => exact fun s => (h s a).trans (ih _)

theorem Conserves.ite {c : Prop} [Decidable c] (h : Conserves s t) (k : Conserves s u) :
    Conserves s (if c then t else u) := by
  split
  · exact h
  · exact k

theorem Conserves.balanced (h : Conserves s t) (k : CellsBalanced s) : CellsBalanced t := Eq.trans h k

/-- A change of neither the flows nor the buffer moves no cell. -/
theorem SameBut.conserves (h : SameBut ps s t) (hf : Part.flows ∉ ps := by decide)
    (hb : Part.buffer ∉ ps := by decide) :
    Conserves s t := by
  rw [Conserves, show t.flows = s.flows from h .flows hf, show t.buffer = s.buffer from h .buffer hb]

/-- A change that leaves the cells that every flow holds, and the free cells, moves no cell. -/
theorem conserves_of_held (hh : ∀ f, (t.flow f).cellsHeld = (s.flow f).cellsHeld)
    (hb : t.buffer.freeCells = s.buffer.freeCells) : Conserves s t := by
  rw [Conserves, total_cells_eq_sum, total_cells_eq_sum, hb]
  simp only [hh]

end

section
variable (s : State)

/-- A change of one flow that frees as many cells as its queue holds fewer. -/
theorem conserves_freed (f : FlowIdx) {g : Flow → Flow} {n : Nat}
    (h : (g (s.flow f)).cellsHeld + n = (s.flow f).cellsHeld) : Conserves s ((s.modFlow f g).freeUp n) := by
  have put := s.flows.total_put Flow.cellsHeld rfl f (g (s.flow f))
  have old : Flow.cellsHeld (s.flows.get f) = (s.flow f).cellsHeld := rfl
  show s.buffer.freeCells + n + (s.flows.put f (g (s.flow f))).total Flow.cellsHeld = _
  omega

theorem conserves_modFlow (f : FlowIdx) {g : Flow → Flow} (h : ∀ r, (g r).queue = r.queue := by exact fun _ => rfl) :
    Conserves s (s.modFlow f g) := conserves_freed s f (n := 0) (congrArg cellsIn (h _))

theorem raise_conserves (b : NoticeBody) : Conserves s (s.raise b) := (s.raise_same b).conserves

theorem modTerm_conserves (i : Slot) (g : Terminal → Terminal) : Conserves s (s.modTerm i g) :=
  (s.modTerm_same i g).conserves

/-! ### Queues -/

theorem countMarker_conserves (f : FlowIdx) (b : Bool) : Conserves s (s.countMarker f b) := by
  refine conserves_of_held (fun g => ?_) (congrArg Buffer.freeCells (countMarker_buffer s f b))
  rw [countMarker_flow]
  split
  · next e => rw [e]; rfl
  · rfl

theorem cellsIn_cons (e : QEntry) (l : List QEntry) : cellsIn (e :: l) = e.cells + cellsIn l := rfl

/-- The head of a queue taken out frees its cells, whatever else is written of its flow (R130). -/
theorem dequeue_conserves {f : FlowIdx} {e : QEntry} {rest : List QEntry} (hq : (s.flow f).queue = e :: rest)
    {g : Flow → Flow} (hg : (g (s.flow f)).queue = rest) : Conserves s ((s.modFlow f g).freeUp e.cells) :=
  conserves_freed s f <| by rw [cellsHeld_eq, cellsHeld_eq, hg, hq, cellsIn_cons, Nat.add_comm]

theorem releaseHead_conserves (f : FlowIdx) : Conserves s (s.releaseHead f) := by
  unfold State.releaseHead
  split
  · exact .refl s
  · next hq => exact (dequeue_conserves s hq (by rfl)).trans (countMarker_conserves _ f true)

theorem discardStale_conserves (f : FlowIdx) : Conserves s (s.discardStale f) := by
  unfold State.discardStale
  split
  · exact .refl s
  · next hq => exact (dequeue_conserves s hq (by rfl)).trans (countMarker_conserves _ f false)

theorem discardTail_conserves (f : FlowIdx) : Conserves s (s.discardTail f) := by
  unfold State.discardTail
  split
  · exact .refl s
  · next e he =>
    have freed : Conserves s ((s.modFlow f fun r => { r with
        queue := r.queue.dropLast
        counters := { r.counters with full := satAdd r.counters.full 1 } }).freeUp e.cells) := by
      refine conserves_freed s f ?_
      rw [cellsHeld_eq, cellsHeld_eq]
      conv_rhs => rw [← List.dropLast_append_getLast? e he, cellsIn_append]
      rfl
    simp only
    split
    · exact freed
    · exact .ite (freed.trans (countMarker_conserves _ f false)) freed

theorem trimTail_conserves (f : FlowIdx) (n : Nat) : ∀ s : State, Conserves s (State.trimTail f n s) := by
  induction n with
  | zero => exact .refl
  | succ n ih => exact fun s => .ite (.refl s) ((discardTail_conserves s f).trans (ih _))

/-- A queue emptied frees the cells it held (R143). -/
theorem flushQueue_conserves (f : FlowIdx) : Conserves s (s.flushQueue f) := conserves_freed s f (Nat.zero_add _)

/-- An enqueue takes the cells of its packet from those free, where there are as many (R129). -/
theorem enqueue_conserves (f : FlowIdx) (p : Packet) : Conserves s (s.enqueue f p) := by
  unfold State.enqueue
  simp only
  split_ifs with full scarce
  · exact conserves_modFlow s f
  · exact (conserves_modFlow s f).trans (State.count_same _ _).conserves
  · let x : Flow := { s.flow f with
      queue := (s.flow f).queue ++ [⟨p, s.buffer.stamp⟩]
      counters := { (s.flow f).counters with enqueued := satAdd (s.flow f).counters.enqueued 1 } }
    have put := s.flows.total_put Flow.cellsHeld rfl f x
    have old : Flow.cellsHeld (s.flows.get f) = (s.flow f).cellsHeld := rfl
    have joined : x.cellsHeld = (s.flow f).cellsHeld + cellsOf p.length := cellsIn_append _ _
    show s.buffer.freeCells - cellsOf p.length + (s.flows.put f x).total Flow.cellsHeld = _
    omega

theorem setMarker_conserves (f : FlowIdx) : Conserves s (s.setMarker f) := .ite (conserves_modFlow s f) (.refl s)

/-! ### Ledger -/

theorem reprice_conserves (i : Slot) : Conserves s (s.reprice i) := (s.reprice_same i).conserves

theorem withdraw_conserves (f : FlowIdx) (c : Cause) : Conserves s (s.withdraw f c) :=
  ((conserves_modFlow s f).trans (State.placeReadmission_same _ f).conserves).trans (conserves_modFlow _ f)

theorem shedFlow_conserves (x : Direction) (f : FlowIdx) : Conserves s (s.shedFlow x f) :=
  (((withdraw_conserves s f .shed).trans (State.repriceFlow_same _ f).conserves).trans (raise_conserves _ _)).trans
    (State.noteFlowWaiting_same _ f).conserves

theorem shedLoop_conserves (x : Direction) (n : Nat) : ∀ s : State, Conserves s (State.shedLoop x n s) := by
  induction n with
  | zero => exact .refl
  | succ n ih =>
    intro s
    refine .ite (.refl s) ?_
    split
    · exact .refl s
    · exact (shedFlow_conserves s x _).trans (ih _)

theorem shedToFit_conserves : Conserves s s.shedToFit :=
  (shedLoop_conserves .up _ s).trans (shedLoop_conserves .down _ _)

theorem makeAdmitted_conserves (i : Slot) (f : FlowIdx) : Conserves s (s.makeAdmitted i f) :=
  (((conserves_modFlow s f).trans (State.unlist_same _ f).conserves).trans (reprice_conserves _ i)).trans
    (setMarker_conserves _ f)

theorem scanWalk_conserves (l : List FlowIdx) : ∀ (done : List FlowIdx) (s : State),
    Conserves s (State.scanWalk l done s).2 := by
  induction l with
  | nil => exact fun _ s => .refl s
  | cons f rest ih =>
    intro done s
    unfold State.scanWalk
    split_ifs
    · exact .refl s
    · split
      · exact ih done s
      · split_ifs
        · exact (makeAdmitted_conserves s _ f).trans (ih _ _)
        · exact .refl s
        · exact ih done s

theorem scan_conserves : Conserves s s.scan := by
  have walked := scanWalk_conserves s.ledger.list [] s
  exact (Conserves.ite walked (walked.trans (raise_conserves _ _))).trans (State.reportRamping_same _).conserves

/-! ### Service -/

/-- A departure from service frees the cells of the queues it discards (R143). -/
theorem leaveService_conserves (i : Slot) (d : TermState) (c : Cause) (b : Bool) :
    Conserves s (s.leaveService i d c b) := by
  have withdrawn (u : State) (l : List FlowIdx) : Conserves u (u.withdrawAll c l) :=
    congrArg₂ (· + ·) (congrArg Buffer.freeCells (u.withdrawAll_same c l .buffer (by decide))) (withdrawAll_cells u c l)
  have left := (modTerm_conserves s i fun t => { t with
    state := d, current := none, beforeFade := none, dwell := 0, window := Window.cleared }).trans
    (withdrawn _ (s.chain i))
  exact (Conserves.ite (left.trans (discardShedQueues_cells _ _)) left).trans (reprice_conserves _ i)

theorem outage_conserves (i : Slot) (b : Bool) : Conserves s (s.outage i b) :=
  ((leaveService_conserves s i _ _ _).trans (modTerm_conserves _ i _)).trans (State.enterDown_same _ i _ b).conserves

theorem enterService_conserves (i : Slot) (p : ProfIdx) : Conserves s (s.enterService i p) := by
  have priced := (((modTerm_conserves s i fun t => { t with
    state := .ramping, current := some p, failedAttempts := 0, dwell := 0, window := Window.opening }).trans
      (raise_conserves _ (.ramping i))).trans (reprice_conserves _ i)).trans (shedToFit_conserves _)
  exact .ite priced (priced.trans (State.toInService_same _ i).conserves)

theorem changeProfile_conserves (i : Slot) (p : ProfIdx) : Conserves s (s.changeProfile i p) :=
  ((modTerm_conserves s i _).trans (reprice_conserves _ i)).trans (shedToFit_conserves _)

theorem judgeStep_conserves (i : Slot) (p : ProfIdx) (q : Nat) (m t : Bool) : Conserves s (s.judgeStep i p q m t) := by
  refine .ite (.ite (s.enterFading_same i).conserves (changeProfile_conserves s i _)) ?_
  split
  · exact .ite (.ite (changeProfile_conserves s i _) (modTerm_conserves s i _)) (modTerm_conserves s i _)
  · exact modTerm_conserves s i _

theorem takeResult_conserves (i : Slot) (q : Nat) (m t : Bool) : Conserves s (s.takeResult i q m t) := by
  unfold State.takeResult
  split
  · exact .refl s
  · split
    case h_1 | h_2 => exact (Conserves.ite (modTerm_conserves s i _) (.refl s)).trans (judgeStep_conserves _ i _ q m t)
    case h_3 => exact .ite (s.exitFading_same i).conserves (modTerm_conserves s i _)
    all_goals exact .refl s

theorem fadeReport_conserves (i : Slot) : Conserves s (s.fadeReport i) := by
  unfold State.fadeReport
  split
  · exact .refl s
  · exact .ite (s.enterFading_same i).conserves (changeProfile_conserves s i 0)

theorem completeIfFull_conserves (i : Slot) : Conserves s (s.completeIfFull i) :=
  .ite (((modTerm_conserves s i _).trans (takeResult_conserves _ i _ _ _)).trans (modTerm_conserves _ i _)) (.refl s)

theorem takeSample_conserves (i : Slot) (n : Nat) (g : Bool) : Conserves s (s.takeSample i n g) :=
  (modTerm_conserves s i _).trans (completeIfFull_conserves _ i)

theorem takeMiss_conserves (i : Slot) : Conserves s (s.takeMiss i) := by
  have counted := modTerm_conserves s i fun t => { t with
    window := { t.window with misses := min (t.window.misses + 1) 255 }, counters := t.counters.miss }
  exact .ite (counted.trans (outage_conserves _ i false)) (.ite (counted.trans (fadeReport_conserves _ i)) counted)

end

end Sys2Proof.Machine

namespace Sys2Proof.Machine

section
variable (s : State)

/-! ### Attempts -/

theorem takeOutcome_conserves (i : Slot) (o : AttemptOutcome) (e : Option ProfIdx) (b : Bool) :
    Conserves s (s.takeOutcome i o e b) := by
  have told : Conserves s (s.modTerm i fun t => { t with lastOutcome := some o }) := modTerm_conserves s i _
  cases o with
  | admitted => exact told.trans (enterService_conserves _ i _)
  | parked => exact told.trans (modTerm_conserves _ i _)
  | sectorLost => exact told.trans (State.enterDown_same _ i _ b).conserves
  | noResponse | corrupt | weak | proveFailed | identityMismatch | adjustLimit =>
    exact told.trans ((modTerm_conserves _ i _).trans (State.enterDown_same _ i _ false).conserves)

section
variable (c : CtxNo) (a : Attempt)

theorem endAttempt_conserves (o : AttemptOutcome) (b : Bool) : Conserves s (s.endAttempt c a o b) := by
  have ended := (s.setCtx_same c none).conserves.trans (takeOutcome_conserves _ a.terminal o a.entryProfile b)
  exact .ite (ended.trans (raise_conserves _ _)) ended

theorem failContext_conserves (o : AttemptOutcome) (g : Stage) : Conserves s (s.failContext c a o g) :=
  .ite (s.setCtx_same c _).conserves (endAttempt_conserves s c a o false)

theorem failProving_conserves : Conserves s (s.failProving c a) := failContext_conserves s c _ _ _

theorem adjust_conserves (t p : Int) : Conserves s (s.adjust c a t p) :=
  .ite ((s.send_same _).conserves.trans (State.setCtx_same _ c _).conserves) (endAttempt_conserves s c a _ false)

theorem judgeRanging_conserves (r : RangingReport) : Conserves s (s.judgeRanging c a r) :=
  .ite (endAttempt_conserves s c a _ _) <| .ite (failContext_conserves s c a _ _) <|
  .ite (endAttempt_conserves s c a _ _) <|
    .ite (failContext_conserves s c a _ _) <| .ite (adjust_conserves s c a _ _) (s.acceptRanging_same c a r).conserves

theorem judgeRangingMiss_conserves : Conserves s (s.judgeRangingMiss c a) :=
  .ite (endAttempt_conserves s c a _ _) (failContext_conserves s c a _ _)

theorem judgeProving_conserves (n : Nat) (g : Bool) : Conserves s (s.judgeProving c a n g) :=
  (modTerm_conserves s a.terminal _).trans <| .ite (endAttempt_conserves _ c a _ _) <|
    .ite (endAttempt_conserves _ c a _ _) (failProving_conserves _ c a)

theorem judgeProvingMiss_conserves : Conserves s (s.judgeProvingMiss c a) :=
  (modTerm_conserves s a.terminal _).trans <| .ite (endAttempt_conserves _ c a _ _) (failProving_conserves _ c a)

end

theorem timeout_conserves (c : CtxNo) : Conserves s (s.timeout c) := by
  unfold State.timeout
  split
  · exact .refl s
  · refine .ite ?_ (.refl s)
    split
    · exact .ite (endAttempt_conserves s c _ _ _) (failContext_conserves s c _ _ _)
    · exact .ite (endAttempt_conserves s c _ _ _) (failProving_conserves s c _)
    · exact .refl s
    · exact .refl s

theorem tickContext_conserves (n : FrameNo) (c : CtxNo) : Conserves s (State.tickContext n s c) := by
  unfold State.tickContext
  split
  · exact .refl s
  · refine .ite ?_ (.refl s)
    split
    · exact .refl s
    · exact (s.setCtx_same c _).conserves.trans (timeout_conserves _ c)

theorem reecFrame_conserves (n : FrameNo) : Conserves s (s.reecFrame n) :=
  (Conserves.foldl (fun s c => tickContext_conserves s n c) _ s).trans (State.pace_same _).conserves

theorem loseAttempt_conserves (i : Slot) (b : Bool) : Conserves s (s.loseAttempt i b) := by
  unfold State.loseAttempt
  split
  · exact endAttempt_conserves s _ _ _ b
  · exact takeOutcome_conserves s i _ _ b

/-! ### Release -/

/-- An entry as the frame event numbered `n` leaves it: the first one stamps the entries without an arrival frame number,
and any later one leaves them (R128). -/
def State.stampAt (s : State) (n : FrameNo) (e : QEntry) : QEntry :=
  if s.buffer.stamp = none then { e with arrival := some (e.arrival.getD n) } else e

theorem setStamp_flow (n : FrameNo) (f : FlowIdx) : (s.setStamp n).flow f =
    { s.flow f with queue := (s.flow f).queue.map (s.stampAt n) } := by
  unfold State.setStamp State.stampAt
  simp only [Option.isNone_iff_eq_none]
  split
  · exact Table.get_map s.flows _ f rfl
  · exact congrArg (fun l => { s.flow f with queue := l }) (List.map_id _).symm

theorem setStamp_buffer (n : FrameNo) : (s.setStamp n).buffer = { s.buffer with stamp := some n } := by
  unfold State.setStamp
  simp only
  split <;> rfl

theorem setStamp_conserves (n : FrameNo) : Conserves s (s.setStamp n) := by
  refine conserves_of_held (fun f => ?_) (by rw [setStamp_buffer])
  have cells (e : QEntry) : (s.stampAt n e).cells = e.cells := by
    unfold State.stampAt
    split <;> rfl
  rw [setStamp_flow, cellsHeld_eq, cellsHeld_eq]
  simp only [cellsIn, List.map_map, Function.comp_def, cells]

theorem sweepHeads_conserves (n : FrameNo) (f : FlowIdx) (k : Nat) :
    ∀ s : State, Conserves s (State.sweepHeads n f k s) := by
  induction k with
  | zero => exact .refl
  | succ k ih => exact fun s => .ite ((discardStale_conserves s f).trans (ih _)) (.refl s)

theorem summarize_conserves (f : FlowIdx) (k : Nat) : Conserves s (s.summarize f k) := (s.summarize_same f k).conserves

theorem sweep_conserves (n : FrameNo) : Conserves s (s.sweep n) :=
  (Conserves.foldl (fun s f => sweepHeads_conserves n f _ s) _ s).trans
    (.foldl (fun s f => summarize_conserves s f _) _ _)

theorem stepCredit_flow (f : FlowIdx) : s.stepCredit.flow f = { s.flow f with
    credit := if s.eligible (s.flow f) then min ((s.flow f).credit + (s.flow f).cb) ((s.flow f).cb + Config.packetMax)
      else 0 } := Table.get_map s.flows _ f rfl

theorem stepCredit_conserves : Conserves s s.stepCredit :=
  conserves_of_held (fun f => by rw [stepCredit_flow]; rfl) rfl

theorem Pass.release_conserves (p : Pass) (i : Slot) (f : FlowIdx) (e : QEntry) (b : Bool) :
    Conserves p.state (p.release i f e b).state :=
  .ite ((releaseHead_conserves p.state f).trans (conserves_modFlow _ f)) (releaseHead_conserves p.state f)

theorem staleOnce_conserves (f : FlowIdx) : Conserves s (s.staleOnce f) := by
  unfold State.staleOnce
  split
  · exact .ite ((discardStale_conserves s f).trans (summarize_conserves _ f 1)) (.refl s)
  · exact .refl s

end

end Sys2Proof.Machine

namespace Sys2Proof.Machine

/-! ### One pass of releases (R135, R136)

The two passes differ in the test of a head packet and in the charge alone, so that one loop gives both. -/

/-- Whether a head packet of a flow may be released: in the committed pass its credit, and in the excess pass its PB
bounds the bytes; what is left of D bounds the cost in both (R135, R136). -/
def Pass.fits (p : Pass) (committed : Bool) (i : Slot) (f : FlowIdx) (e : QEntry) : Bool :=
  decide ((if committed then e.len ≤ (p.state.flow f).credit else p.bytesOf f + e.len ≤ (p.state.flow f).pb) ∧
    p.cost i e.len ≤ p.budget)

/-- The releases of one flow in a pass, at most as many as a number. -/
def releaseHeads (committed : Bool) (i : Slot) (f : FlowIdx) : Nat → Pass → Pass
  | 0, p => p
  | n + 1, p =>
    match (p.state.flow f).queue with
    | [] => p
    | e :: _ => if p.fits committed i f e then releaseHeads committed i f n (p.release i f e committed) else p

/-- The turn of one flow in a pass. -/
def Pass.turn (committed : Bool) (p : Pass) (f : FlowIdx) : Pass :=
  match (p.state.flow f).bound with
  | some i => releaseHeads committed i f (p.state.flow f).queue.length p
  | none => p

/-- The turns of some flows in a pass. -/
def Pass.run (committed : Bool) (l : List FlowIdx) (p : Pass) : Pass := l.foldl (Pass.turn committed) p

theorem releaseHeads_empty {committed : Bool} {i : Slot} {f : FlowIdx} {p : Pass} (h : (p.state.flow f).queue = [])
    (n : Nat) : releaseHeads committed i f n p = p := by
  cases n with
  | zero => rfl
  | succ n => rw [releaseHeads, h]

theorem releaseHeads_succ {committed : Bool} {i : Slot} {f : FlowIdx} {p : Pass} {e : QEntry} {rest : List QEntry}
    (h : (p.state.flow f).queue = e :: rest) (n : Nat) : releaseHeads committed i f (n + 1) p =
      if p.fits committed i f e then releaseHeads committed i f n (p.release i f e committed) else p := by
  rw [releaseHeads, h]

theorem releaseCommitted_eq (i : Slot) (f : FlowIdx) (n : Nat) :
    ∀ p, releaseCommitted i f n p = releaseHeads true i f n p := by
  induction n with
  | zero => exact fun _ => rfl
  | succ n ih =>
    intro p
    unfold releaseCommitted
    split
    · next h => exact (releaseHeads_empty h _).symm
    · next e rest h =>
      rw [releaseHeads_succ h, ih]
      simp only [Pass.fits, decide_eq_true_eq, if_true]

theorem releaseExcess_eq (i : Slot) (f : FlowIdx) (n : Nat) :
    ∀ p, releaseExcess i f n p = releaseHeads false i f n p := by
  induction n with
  | zero => exact fun _ => rfl
  | succ n ih =>
    intro p
    unfold releaseExcess
    split
    · next h => exact (releaseHeads_empty h _).symm
    · next e rest h =>
      rw [releaseHeads_succ h, ih]
      simp only [Pass.fits, decide_eq_true_eq, Bool.false_eq_true, if_false]

/-- The two passes on one budget of D symbols (R134 to R136). -/
theorem passes_eq (s : State) : s.passes =
    (Pass.run true s.releaseOrder ⟨s, s.setup.d, []⟩).run false s.releaseOrder := by
  have run {one : Slot → FlowIdx → Nat → Pass → Pass} {committed : Bool}
      (h : ∀ i f n p, one i f n p = releaseHeads committed i f n p) (l : List FlowIdx) (p : Pass) :
      runPass one l p = p.run committed l := by
    refine congrArg (fun g => List.foldl g p l) (funext₂ fun q f => ?_)
    unfold Pass.turn
    cases (q.state.flow f).bound with
    | none => rfl
    | some i => exact h i f _ q
  rw [State.passes, run releaseCommitted_eq, run releaseExcess_eq]

/-! ### One release -/

section
variable {p : Pass} {i : Slot} {f : FlowIdx} {e : QEntry} {rest : List QEntry} {committed : Bool}

theorem Pass.release_flow (h : (p.state.flow f).queue = e :: rest) (g : FlowIdx) :
    (p.release i f e committed).state.flow g = if g = f then { p.state.flow f with
      queue := rest, marker := (p.state.flow f).marker.bind fun m => m.counted true
      credit := if committed then (p.state.flow f).credit - e.len else (p.state.flow f).credit
      counters := { (p.state.flow f).counters with released := satAdd (p.state.flow f).counters.released 1 } }
    else p.state.flow g := by
  unfold Pass.release
  cases committed with
  | false => exact releaseHead_flow h g
  | true =>
    simp only [if_true, State.modFlow_flow, releaseHead_flow h]
    split <;> rfl

theorem Pass.release_mgmt (h : (p.state.flow f).queue = e :: rest) :
    (p.release i f e committed).state.mgmt = p.state.countedMgmt f true := by
  unfold Pass.release
  cases committed <;> exact releaseHead_mgmt h

theorem Pass.release_stamp (h : (p.state.flow f).queue = e :: rest) :
    (p.release i f e committed).state.buffer.stamp = p.state.buffer.stamp := by
  have stamp : (p.state.releaseHead f).buffer.stamp = p.state.buffer.stamp := by rw [releaseHead_buffer h]
  unfold Pass.release
  cases committed <;> exact stamp

theorem Pass.release_released : (p.release i f e committed).released =
    p.released ++ [⟨i, f, e.bytes, p.cost i e.len⟩] :=
  rfl

end

/-! ### The turn of a flow -/

/-- A property of the progress of a pass is kept where every release that the pass makes keeps it. -/
def Pass.Keeps (committed : Bool) (I : Pass → Prop) : Prop :=
  ∀ (p : Pass) (i : Slot) (f : FlowIdx) (e : QEntry) (rest : List QEntry), (p.state.flow f).bound = some i →
    (p.state.flow f).queue = e :: rest → p.fits committed i f e = true → I p → I (p.release i f e committed)

/-- Between two states of a pass one flow has had its turn: its packets released, and the test its head fails. -/
structure Pass.Turned (committed : Bool) (f : FlowIdx) (p q : Pass) (new : List Released) : Prop where
  released : q.released = p.released ++ new
  mine : ∀ r ∈ new, r.flow = f ∧ (p.state.flow f).bound = some r.terminal
  other : ∀ g, g ≠ f → q.state.flow g = p.state.flow g
  bound : ∀ g, (q.state.flow g).bound = (p.state.flow g).bound
  stops : ∀ i e, (p.state.flow f).bound = some i → (q.state.flow f).queue.head? = some e →
    q.fits committed i f e = false

section
variable {committed : Bool} {I : Pass → Prop} {f : FlowIdx} {p q : Pass}

/-- A turn without a release. -/
theorem Pass.Turned.idle (h : ∀ i e, (p.state.flow f).bound = some i → (p.state.flow f).queue.head? = some e →
    p.fits committed i f e = false) : Pass.Turned committed f p p [] :=
  ⟨(List.append_nil _).symm, nofun, fun _ _ => rfl, fun _ => rfl, h⟩

theorem Pass.Turned.cons {i : Slot} {e : QEntry} {rest : List QEntry} {new : List Released}
    (hb : (p.state.flow f).bound = some i) (hq : (p.state.flow f).queue = e :: rest)
    (h : Pass.Turned committed f (p.release i f e committed) q new) :
    Pass.Turned committed f p q (⟨i, f, e.bytes, p.cost i e.len⟩ :: new) := by
  have bound (g : FlowIdx) : ((p.release i f e committed).state.flow g).bound = (p.state.flow g).bound := by
    rw [Pass.release_flow hq]
    split
    · next k => rw [k]
    · rfl
  refine ⟨?_, fun r hr => ?_, fun g hg => ?_, fun g => (h.bound g).trans (bound g),
    fun j x hj => h.stops j x ((bound f).trans hj)⟩
  · rw [h.released, Pass.release_released, List.append_assoc]
    rfl
  · rcases List.mem_cons.mp hr with rfl | hr
    · exact ⟨rfl, hb⟩
    · obtain ⟨flow, terminal⟩ := h.mine r hr
      exact ⟨flow, (bound f).symm.trans terminal⟩
  · rw [h.other g hg, Pass.release_flow hq, if_neg hg]

theorem releaseHeads_turned (keeps : Pass.Keeps committed I) {i : Slot} (n : Nat) : ∀ p : Pass,
    (p.state.flow f).bound = some i → (p.state.flow f).queue.length ≤ n → I p →
    I (releaseHeads committed i f n p) ∧ ∃ new, Pass.Turned committed f p (releaseHeads committed i f n p) new := by
  induction n with
  | zero =>
    intro p hb hn kept
    have empty := List.length_eq_zero_iff.mp (Nat.le_zero.mp hn)
    exact ⟨kept, [], .idle fun j e _ he => by rw [empty] at he; cases he⟩
  | succ n ih =>
    intro p hb hn kept
    cases hq : (p.state.flow f).queue with
    | nil =>
      rw [releaseHeads_empty hq]
      exact ⟨kept, [], .idle fun j e _ he => by rw [hq] at he; cases he⟩
    | cons e rest =>
      rw [releaseHeads_succ hq]
      split
      · next fits =>
        have flow := Pass.release_flow (i := i) (committed := committed) hq f
        rw [if_pos rfl] at flow
        have short : rest.length ≤ n := by rw [hq] at hn; exact Nat.le_of_succ_le_succ hn
        obtain ⟨kept, new, turned⟩ := ih (p.release i f e committed) (by rw [flow]; exact hb) (by rw [flow]; exact short)
          (keeps p i f e rest hb hq fits kept)
        exact ⟨kept, _, turned.cons hb hq⟩
      · next stop =>
        refine ⟨kept, [], .idle fun j x hj hx => ?_⟩
        rw [hq, List.head?_cons] at hx
        rw [Option.some.inj (hj.symm.trans hb), ← Option.some.inj hx]
        exact Bool.eq_false_iff.mpr stop

theorem turn_turned (keeps : Pass.Keeps committed I) (p : Pass) (kept : I p) :
    I (p.turn committed f) ∧ ∃ new, Pass.Turned committed f p (p.turn committed f) new := by
  unfold Pass.turn
  split
  · next hb => exact releaseHeads_turned keeps _ p hb le_rfl kept
  · next hb => exact ⟨kept, [], .idle fun i _ hi => nomatch hb.symm.trans hi⟩

end

/-! ### The turns of a pass in their order -/

/-- Between two states of a pass the flows of a list have had their turns in its order: what is released follows that
order, and at the end of its own turn, with what was released up to it, the head of each flow failed the test. -/
structure Pass.Ran (committed : Bool) (upTo : FlowIdx → FlowIdx → Bool) (I : Pass → Prop)
    (l : List FlowIdx) (p q : Pass)
    (new : List Released) : Prop where
  released : q.released = p.released ++ new
  mine : ∀ r ∈ new, r.flow ∈ l ∧ (p.state.flow r.flow).bound = some r.terminal
  other : ∀ g, g ∉ l → q.state.flow g = p.state.flow g
  bound : ∀ g, (q.state.flow g).bound = (p.state.flow g).bound
  sorted : new.Pairwise fun a b => upTo a.flow b.flow = true
  kept : I q
  stops : ∀ f ∈ l, ∀ i, (p.state.flow f).bound = some i → ∃ m : Pass, I m ∧
    m.released = p.released ++ new.filter (fun r => upTo r.flow f) ∧ m.state.flow f = q.state.flow f ∧
    ∀ e, (q.state.flow f).queue.head? = some e → m.fits committed i f e = false

theorem run_ran {committed : Bool} {upTo : FlowIdx → FlowIdx → Bool} {I : Pass → Prop} (keeps : Pass.Keeps committed I)
    (refl : ∀ f, upTo f f = true) (l : List FlowIdx) : ∀ p : Pass,
    l.Pairwise (fun f g => upTo f g = true ∧ upTo g f = false) → I p →
    ∃ new, Pass.Ran committed upTo I l p (p.run committed l) new := by
  induction l with
  | nil =>
    exact fun p _ kept => ⟨[], (List.append_nil _).symm, nofun, fun _ _ => rfl, fun _ => rfl, .nil, kept, nofun⟩
  | cons f rest ih =>
    intro p sorted kept
    obtain ⟨first, sorted⟩ := List.pairwise_cons.mp sorted
    obtain ⟨kept, new, turned⟩ := turn_turned (f := f) keeps p kept
    obtain ⟨later, ran⟩ := ih (p.turn committed f) sorted kept
    have absent : f ∉ rest := fun h => nomatch (refl f).symm.trans (first f h).2
    refine ⟨new ++ later, ?_, fun r hr => ?_, fun g hg => ?_, fun g => (ran.bound g).trans (turned.bound g), ?_, ran.kept,
      fun g hg i hi => ?_⟩
    · exact ran.released.trans (by rw [turned.released, List.append_assoc])
    · rcases List.mem_append.mp hr with hr | hr
      · obtain ⟨flow, terminal⟩ := turned.mine r hr
        rw [flow]
        exact ⟨List.mem_cons_self, terminal⟩
      · obtain ⟨mem, terminal⟩ := ran.mine r hr
        exact ⟨List.mem_cons_of_mem _ mem, (turned.bound _).symm.trans terminal⟩
    · rw [List.mem_cons, not_or] at hg
      exact (ran.other g hg.2).trans (turned.other g hg.1)
    · refine List.pairwise_append.mpr ⟨?_, ran.sorted, fun a ha b hb => ?_⟩
      · exact List.pairwise_of_forall_mem_list fun a ha b hb => by
          rw [(turned.mine a ha).1, (turned.mine b hb).1]; exact refl f
      · rw [(turned.mine a ha).1]
        exact (first _ (ran.mine b hb).1).1
    · rcases List.mem_cons.mp hg with rfl | hg
      · have flow : (p.turn committed g).state.flow g = (Pass.run committed rest (p.turn committed g)).state.flow g :=
          (ran.other g absent).symm
        have mine : new.filter (fun r => upTo r.flow g) = new :=
          List.filter_eq_self.mpr fun r hr => by rw [(turned.mine r hr).1]; exact refl g
        have none : later.filter (fun r => upTo r.flow g) = [] :=
          List.filter_eq_nil_iff.mpr fun r hr => by rw [(first _ (ran.mine r hr).1).2]; nofun
        refine ⟨p.turn committed g, kept, ?_, flow, fun e he => turned.stops i e hi (flow ▸ he)⟩
        rw [turned.released, List.filter_append, mine, none, List.append_nil]
      · obtain ⟨m, kept, released, flow, stops⟩ := ran.stops g hg i ((turned.bound g).trans hi)
        have mine : new.filter (fun r => upTo r.flow g) = new :=
          List.filter_eq_self.mpr fun r hr => by rw [(turned.mine r hr).1]; exact (first g hg).1
        refine ⟨m, kept, ?_, flow, stops⟩
        rw [released, turned.released, List.filter_append, mine, List.append_assoc]

/-! ### Cells released -/

theorem Pass.turn_keeps {committed : Bool} {I : Pass → Prop} (keeps : Pass.Keeps committed I) (l : List FlowIdx) :
    ∀ p : Pass, I p → I (p.run committed l) := by
  induction l with
  | nil => exact fun _ => id
  | cons f rest ih => exact fun p kept => ih _ (turn_turned keeps p kept).1

theorem passes_conserves (s : State) : Conserves s s.passes.state := by
  have keeps (committed : Bool) : Pass.Keeps committed fun p => Conserves s p.state :=
    fun p i f e _ _ _ _ h => h.trans (p.release_conserves i f e committed)
  rw [passes_eq]
  exact Pass.turn_keeps (keeps false) _ _ (Pass.turn_keeps (keeps true) _ _ (.refl s))

theorem releaseFrame_conserves (s : State) (n : FrameNo) : Conserves s (s.releaseFrame n) :=
  ((((setStamp_conserves s n).trans (sweep_conserves _ n)).trans (stepCredit_conserves _)).trans
    (passes_conserves _)).trans
    (State.sendBursts_same _ n _).conserves

end Sys2Proof.Machine

namespace Sys2Proof.Machine

/-! ### Records and packets -/

section
variable (s : State)

theorem loseTerminal_conserves (i : Slot) : Conserves s (s.loseTerminal i) := by
  unfold State.loseTerminal
  split
  case h_1 | h_2 | h_3 => exact outage_conserves s i false
  case h_4 => exact (s.unqueue_same i).conserves.trans (State.enterDown_same _ i _ false).conserves
  case h_5 => exact loseAttempt_conserves s i false
  all_goals exact .refl s

theorem loseSector_conserves : Conserves s s.loseSector :=
  ((((s.setSectorUp_same false).conserves.trans (State.count_same _ _).conserves).trans (raise_conserves _ _)).trans
    (.foldl loseTerminal_conserves _ _)).trans (State.clearReentry_same _).conserves

theorem takeSectorState_conserves (u : Bool) : Conserves s (s.takeSectorState u) :=
  .ite (.refl s) (.ite ((s.setSectorUp_same true).conserves.trans (raise_conserves _ _)) (loseSector_conserves s))

theorem takeBurst_conserves (r : BurstReport) : Conserves s (s.takeBurst r) := by
  refine .ite ((takeSample_conserves s _ _ _).trans (State.takePayload_same _ r).conserves) ?_
  split
  · exact (judgeProving_conserves s _ _ _ _).trans (State.count_same _ _).conserves
  · exact (s.count_same _).conserves

theorem takeMissReport_conserves (r : MissReport) : Conserves s (s.takeMissReport r) := by
  refine .ite (takeMiss_conserves s _) ?_
  split
  · exact judgeProvingMiss_conserves s _ _
  · exact (s.count_same _).conserves

theorem takeRanging_conserves (r : RangingReport) : Conserves s (s.takeRanging r) := by
  unfold State.takeRanging
  split
  · exact judgeRanging_conserves s _ _ r
  · exact (s.count_same _).conserves

theorem takeRangingMiss_conserves (i : Slot) : Conserves s (s.takeRangingMiss i) := by
  unfold State.takeRangingMiss
  split
  · exact judgeRangingMiss_conserves s _ _
  · exact (s.count_same _).conserves

theorem takeRecord_conserves (r : LinkRecord) : Conserves s (s.takeRecord r) :=
  .ite (.ite (s.takeFrameStart_same _).conserves <| .ite (takeBurst_conserves s _) <|
  .ite (takeMissReport_conserves s _) <|
    .ite (takeRanging_conserves s _) <| .ite (takeRangingMiss_conserves s _) (takeSectorState_conserves s _))
    (s.count_same _).conserves

/-- A packet discarded or handed for enqueue (R97). -/
theorem classify_conserves (p : Packet) : Conserves s (s.classify p) := by
  unfold State.classify
  split
  · exact (s.count_same _).conserves
  · split
    · exact (s.count_same _).conserves
    · exact conserves_modFlow s _
    · exact enqueue_conserves s _ p
    · exact enqueue_conserves s _ p
    · exact conserves_modFlow s _

theorem takePacket_conserves (p : Packet) : Conserves s (s.takePacket p) :=
  .ite (s.count_same _).conserves (.ite (s.enqueueRequest_same p).conserves (classify_conserves s p))

/-! ### Command effects -/

theorem park_conserves (i : Slot) : Conserves s (s.park i) := by
  unfold State.park
  split
  case h_3 => exact modTerm_conserves s i _
  case h_4 => exact (s.unqueue_same i).conserves.trans (modTerm_conserves _ i _)
  case h_5 =>
    unfold State.parkRanging
    split
    · exact .ite (s.setCtx_same _ _).conserves (endAttempt_conserves s _ _ _ _)
    · exact .refl s
  case h_6 | h_7 | h_8 => exact leaveService_conserves s i _ _ _
  all_goals exact .refl s

theorem ceilingStep_conserves (i : Slot) : Conserves s (s.ceilingStep i) := by
  unfold State.ceilingStep
  split
  · exact .ite (changeProfile_conserves s i _) (.refl s)
  · exact .refl s

theorem force_conserves (i : Slot) (p : ProfIdx) : Conserves s (s.force i p) :=
  .ite (modTerm_conserves s i _) (changeProfile_conserves s i p)

/-- Links between flows are in no queue (R86). -/
theorem relink_conserves (l : List FlowIdx) : ∀ s : State, Conserves s (s.relink l) := by
  induction l with
  | nil => exact .refl
  | cons f rest ih => exact fun s => (conserves_modFlow s f).trans (ih _)

theorem setChain_conserves (i : Slot) (l : List FlowIdx) : Conserves s (s.setChain i l) :=
  (modTerm_conserves s i _).trans (relink_conserves l _)

theorem unlinkFlow_conserves (i : Slot) (f : FlowIdx) : Conserves s (s.unlinkFlow i f) :=
  (setChain_conserves s i _).trans (conserves_modFlow _ f)

theorem bindFlow_conserves (w : FlowWrite) : Conserves s (s.bindFlow w) := by
  have unchained : Conserves s (s.unchain w.flow) := by
    unfold State.unchain
    split
    · exact unlinkFlow_conserves s _ _
    · exact .refl s
  have rebound : Conserves s (s.rebound w) := unchained.trans (conserves_modFlow _ _)
  rw [bindFlow_eq]
  refine .ite (.refl s) ?_
  split
  · exact rebound.trans (setChain_conserves _ _ _)
  · exact rebound

theorem withdrawForRate_conserves (f : FlowIdx) : Conserves s (s.withdrawForRate f) :=
  .ite (((withdraw_conserves s f .new).trans (State.repriceFlow_same _ f).conserves).trans
    (State.noteFlowWaiting_same _ f).conserves) (.refl s)

/-- A lowered queue limit frees the cells of the packets it discards (R90). -/
theorem setFlow_conserves (w : FlowWrite) : Conserves s (s.setFlow w) := by
  have write (u : State) : Conserves u (u.writeFlow w) := conserves_modFlow u _
  have rated (u : State) (c : Prop) [Decidable c] :
      Conserves u (if c then (u.writeFlow w).withdrawForRate w.flow else u.writeFlow w) :=
    .ite ((write u).trans (withdrawForRate_conserves _ _)) (write u)
  exact (((bindFlow_conserves s w).trans (rated _ _)).trans (.ite (trimTail_conserves _ _ _) (.refl _))).trans
    (.ite (State.reportRamping_same _).conserves (.refl _))

theorem unbind_conserves (f : FlowIdx) : Conserves s (s.unbind f) := by
  unfold State.unbind
  split
  · exact .refl s
  · exact ((unlinkFlow_conserves s _ f).trans (conserves_modFlow _ f)).trans (State.reportRamping_same _).conserves

theorem enable_conserves (f : FlowIdx) : Conserves s (s.enable f) :=
  .ite ((((conserves_modFlow s f).trans (State.placeReadmission_same _ f).conserves).trans
    (State.noteFlowWaiting_same _ f).conserves).trans (State.reportRamping_same _).conserves) (.refl s)

/-- A flow that is disabled has its queue flushed (R93, R143). -/
theorem disable_conserves (f : FlowIdx) : Conserves s (s.disable f) := by
  have disabled : Conserves s (s.makeDisabled f) := (conserves_modFlow s f).trans (conserves_modFlow _ f)
  unfold State.disable
  split
  · exact .refl s
  · exact ((disabled.trans (State.repriceFlow_same _ f).conserves).trans (flushQueue_conserves _ f)).trans
      (State.reportRamping_same _).conserves
  · exact ((disabled.trans (State.unlist_same _ f).conserves).trans (flushQueue_conserves _ f)).trans
      (State.reportRamping_same _).conserves

theorem writeSetup_conserves (c : Setup) : Conserves s (s.writeSetup c) := by
  have written : Conserves s { s with setup := c } := rfl
  exact written.trans <| (Conserves.ite (State.restartWindows_same _).conserves (.refl _)).trans <|
    (Conserves.ite (State.repriceAll_same _).conserves (.refl _)).trans (.ite (shedToFit_conserves _) (.refl _))

/-- After a restart every cell is free and no queue holds one (R146). -/
theorem restart_balanced : CellsBalanced s.restart :=
  congrArg (32768 + ·) (Table.total_map_zero _ Flow.cellsHeld rfl _ fun _ _ => rfl)

theorem clearAllCounters_conserves : Conserves s s.clearAllCounters :=
  conserves_of_held (fun f => by rw [State.clearAllCounters_flow]; rfl) rfl

end

/-! ### The shape of a command -/

section
variable {s : State} {src : Mac}

/-- A write command keeps the cells balanced where its effect does (R178). -/
theorem CellsBalanced.runWrite (k : CellsBalanced s) {code : Byte} {len : Nat} {body : List Byte}
    {check : State → Verdict} (h : ∀ st effect result, check s = .take st effect result →
      CellsBalanced (s.controlledBy src) → CellsBalanced (effect (s.controlledBy src))) : CellsBalanced (s.runWrite src code len body check) := by
  have completed (u : State) (r : CmdResult) : Conserves u (u.complete src body r) :=
    (u.complete_same src body r).conserves
  by_cases hl : body.length = len
  · cases hc : check s with
    | refuse st => rw [State.runWrite_refuse hl hc]; exact (completed s _).balanced k
    | take st effect result =>
      rw [State.runWrite_take hl hc]
      exact (completed _ _).balanced (h _ _ _ hc ((s.controlledBy_same src).conserves.balanced k))
  · rw [State.runWrite, if_pos hl]
    exact (completed s _).balanced k

theorem Conserves.runRead (code : Byte) (len : Nat) (body : List Byte) (read : State → Status × List Byte) :
    Conserves s (s.runRead src code len body read) := by
  unfold State.runRead
  split <;> exact (s.complete_same _ _ _).conserves

end

/-! ### What each command's checks let pass -/

section
variable {s v : State} {st : Status} {effect : State → State} {result : List Byte}

theorem checkProvision_conserves {b : TerminalBody} (h : checkProvision b s = .take st effect result) :
    Conserves v (effect v) := by
  unfold checkProvision at h
  split at h
  · cases h
  · split at h
    · cases h
    · split at h <;> cases h
      exact modTerm_conserves v _ _

theorem checkSetTerminal_conserves {b : TerminalBody} (h : checkSetTerminal b s = .take st effect result) :
    Conserves v (effect v) := by
  unfold checkSetTerminal at h
  split at h
  · cases h
  · split at h
    · cases h
    · split at h <;> cases h
      exact (modTerm_conserves v _ _).trans <| (State.requeue_same _ _).conserves.trans <|
        (ceilingStep_conserves _ _).trans (State.ceilingEntry_same _ _).conserves

theorem checkPark_conserves {i : Slot} (h : checkPark i s = .take st effect result) : Conserves v (effect v) := by
  unfold checkPark at h
  split at h <;> cases h
  exact park_conserves v i

theorem checkRelease_conserves {i : Slot} (h : checkRelease i s = .take st effect result) : Conserves v (effect v) := by
  unfold checkRelease at h
  split at h <;> cases h
  exact (v.releaseTerminal_same i).conserves

theorem checkDeprovision_conserves {i : Slot} (h : checkDeprovision i s = .take st effect result) :
    Conserves v (effect v) := by
  unfold checkDeprovision at h
  split at h
  · cases h
  · split at h <;> cases h
    exact modTerm_conserves v i _

theorem checkForce_conserves {i : Slot} {n : Nat} (h : checkForce i n s = .take st effect result) :
    Conserves v (effect v) := by
  unfold checkForce at h
  split at h
  · cases h
  · split at h
    · cases h
    · split_ifs at h
      cases h
      exact force_conserves v i _

theorem checkWriteProfile_conserves {b : ProfileBody} (h : checkWriteProfile b s = .take st effect result) :
    Conserves v (effect v) := by
  unfold checkWriteProfile at h
  split at h
  · cases h
  · split_ifs at h
    cases h
    exact (v.setProfile_same _ _).conserves

theorem checkInvalidate_conserves {n : Nat} (h : checkInvalidate n s = .take st effect result) :
    Conserves v (effect v) := by
  unfold checkInvalidate at h
  split at h
  · cases h
  · split_ifs at h
    cases h
    exact (v.setProfile_same _ _).conserves

theorem checkSetFlow_conserves {b : FlowBody} (h : checkSetFlow b s = .take st effect result) :
    Conserves v (effect v) := by
  unfold checkSetFlow at h
  split at h
  · cases h
  · simp only at h
    split_ifs at h
    cases h
    exact setFlow_conserves v _

theorem checkUnbind_conserves {n : Nat} (h : checkUnbind n s = .take st effect result) : Conserves v (effect v) := by
  unfold checkUnbind at h
  split at h
  · cases h
  · split at h <;> cases h
    exact unbind_conserves v _

theorem checkEnable_conserves {n : Nat} (h : checkEnable n s = .take st effect result) : Conserves v (effect v) := by
  unfold checkEnable at h
  split at h
  · cases h
  · split at h <;> cases h
    exact enable_conserves v _

theorem checkDisable_conserves {n : Nat} (h : checkDisable n s = .take st effect result) : Conserves v (effect v) := by
  unfold checkDisable at h
  split at h <;> cases h
  exact disable_conserves v _

theorem checkMapTags_conserves {b : TagsBody} (h : checkMapTags b s = .take st effect result) :
    Conserves v (effect v) := by
  unfold checkMapTags at h
  split at h
  · cases h
  · split at h <;> cases h
    exact (v.writeTags_same _ _).conserves

theorem checkSetSector_conserves {b : SetupBody} (h : checkSetSector b s = .take st effect result) :
    Conserves v (effect v) := by
  unfold checkSetSector at h
  split_ifs at h
  cases h
  exact writeSetup_conserves v _

theorem checkClearCounters_conserves {scope : Byte} {i : Slot} {n : Nat}
    (h : checkClearCounters scope i n s = .take st effect result) : Conserves v (effect v) := by
  unfold checkClearCounters at h
  split_ifs at h
  · cases h
    exact modTerm_conserves v i _
  · split at h <;> cases h
    exact conserves_modFlow v _
  · cases h
    exact clearAllCounters_conserves v

end

/-! ### Every command and every step -/

/-- Every command and event keeps the cells balanced: all but a restart and a device reset, which free every cell, move as
many cells as the entries they place or remove occupy. -/
theorem exec_cellsBalanced {s : State} {c : Instr} {t : State} (h : exec c s = .next t) (k : CellsBalanced s) :
    CellsBalanced t := by
  cases c with
  | frameStart r | burstReport r | missReport r | rangingReport r | rangingMiss r | sectorState r =>
    cases h
    exact (takeRecord_conserves s r).balanced k
  | trunkPacketArrival p =>
    cases h
    exact (takePacket_conserves s p).balanced k
  | deviceReset straps =>
    cases h
    exact rfl
  | qmonFrameEvent =>
    simp only [exec, execQmonFrameEvent] at h
    split at h <;> cases h <;> exact k
  | tmgrFrameEvent =>
    simp only [exec, execTmgrFrameEvent] at h
    split at h <;> cases h
    · exact k
    · exact (State.walkDown_same _).conserves.balanced k
  | downTimerExpiry i =>
    cases h
    exact (s.expireTimer_same i).conserves.balanced k
  | recFrameEvent =>
    simp only [exec, execRecFrameEvent] at h
    split at h <;> cases h
    · exact k
    · exact (reecFrame_conserves _ _).balanced ((State.takeGrants_same _).conserves.balanced k)
  | responseTimeout c =>
    cases h
    exact (timeout_conserves s c).balanced k
  | readmissionScan =>
    simp only [exec, execReadmissionScan] at h
    split at h <;> cases h
    · exact k
    · exact (scan_conserves _).balanced k
  | pbrFrameEvent =>
    simp only [exec, execPbrFrameEvent] at h
    split at h <;> cases h
    · exact k
    · exact (releaseFrame_conserves _ _).balanced k
  | staleDiscard f =>
    cases h
    exact (staleOnce_conserves s f).balanced k
  | gbldFrameEvent =>
    simp only [exec, execGbldFrameEvent] at h
    split at h <;> cases h
    · exact k
    · exact (State.buildGrants_same _ _).conserves.balanced k
  | grantTake =>
    simp only [exec, execGrantTake] at h
    split at h <;> cases h
    · exact k
    · exact (State.takeGrant_same _ _).conserves.balanced k
  | windowComplete i =>
    cases h
    exact (Conserves.ite (completeIfFull_conserves s i) (.refl s)).balanced k
  | requestTake =>
    cases h
    exact s.takeRequest_same.conserves.balanced k
  | transmitComplete =>
    cases h
    exact s.finishSending_same.conserves.balanced k
  | noticeSend =>
    cases h
    exact s.sendNotice_same.conserves.balanced k
  | unknownCommand src code body =>
    cases h
    exact (s.complete_same _ _ _).conserves.balanced k
  | provisionTerminal src body => cases h; exact k.runWrite fun _ _ _ e => (checkProvision_conserves e).balanced
  | setTerminal src body => cases h; exact k.runWrite fun _ _ _ e => (checkSetTerminal_conserves e).balanced
  | parkTerminal src body => cases h; exact k.runWrite fun _ _ _ e => (checkPark_conserves e).balanced
  | releaseTerminal src body => cases h; exact k.runWrite fun _ _ _ e => (checkRelease_conserves e).balanced
  | deprovisionTerminal src body => cases h; exact k.runWrite fun _ _ _ e => (checkDeprovision_conserves e).balanced
  | forceProfile src body => cases h; exact k.runWrite fun _ _ _ e => (checkForce_conserves e).balanced
  | writeProfile src body => cases h; exact k.runWrite fun _ _ _ e => (checkWriteProfile_conserves e).balanced
  | invalidateProfile src body => cases h; exact k.runWrite fun _ _ _ e => (checkInvalidate_conserves e).balanced
  | setFlow src body => cases h; exact k.runWrite fun _ _ _ e => (checkSetFlow_conserves e).balanced
  | unbindFlow src body => cases h; exact k.runWrite fun _ _ _ e => (checkUnbind_conserves e).balanced
  | enableFlow src body => cases h; exact k.runWrite fun _ _ _ e => (checkEnable_conserves e).balanced
  | disableFlow src body => cases h; exact k.runWrite fun _ _ _ e => (checkDisable_conserves e).balanced
  | mapTags src body => cases h; exact k.runWrite fun _ _ _ e => (checkMapTags_conserves e).balanced
  | setSector src body => cases h; exact k.runWrite fun _ _ _ e => (checkSetSector_conserves e).balanced
  | restartSector src body =>
    cases h
    exact k.runWrite fun _ _ _ e _ => by cases e; exact restart_balanced _
  | readTerminal src body | readFlow src body | readProfile src body | readSector src body | readTags src body
  | readReentryQueue src body | readReadmissionList src body | readContexts src body | readLedger src body =>
    cases h
    exact (Conserves.runRead _ _ _ _).balanced k
  | clearCounters src body => cases h; exact k.runWrite fun _ _ _ e => (checkClearCounters_conserves e).balanced
  | clearFlags src body =>
    cases h
    exact k.runWrite fun _ _ _ e => by cases e; exact (State.clearFlags_same _).conserves.balanced

/-- Settles O8: each command keeps the cells balanced, and so does each step, which takes one command or none. -/
theorem cellsStayBalanced : Obligations.CellsStayBalanced := fun _ _ k h =>
  step_induction (fun _ _ => id) (fun _ _ _ => exec_cellsBalanced) h k

end Sys2Proof.Machine

namespace Sys2Proof.Machine

/-! ### A flow some of whose packets have been discarded and released -/

/-- A counter raised by a number of entries, saturating once where there are any (R186). -/
def raisedBy (c d : Nat) : Nat := if d = 0 then c else min (c + d) 4294967295

theorem satAdd_raisedBy (c d : Nat) : satAdd (raisedBy c d) 1 = raisedBy c (d + 1) := by
  have top : Config.counterMax = 4294967295 := rfl
  unfold satAdd raisedBy
  rw [top, if_neg (Nat.succ_ne_zero d)]
  split
  · next zero => rw [zero]
  · omega

/-- A marker after it has counted entries discarded, and then entries released (R141). -/
def Marker.worked (m : Marker) (discards sent : Nat) : Option Marker :=
  if max 1 m.remaining ≤ discards + sent then none
  else some {
    remaining := m.remaining - (discards + sent), released := m.released + sent
    discarded := m.discarded + discards }

theorem Marker.worked_zero (m : Marker) : m.worked 0 0 = some m := if_neg (by omega)

theorem Marker.worked_discard (m : Marker) (k : Nat) :
    ((m.worked k 0).bind fun x => x.counted false) = m.worked (k + 1) 0 := by
  unfold Marker.worked Marker.counted
  by_cases ended : max 1 m.remaining ≤ k + 0
  · rw [if_pos ended, if_pos (by omega)]
    rfl
  · rw [if_neg ended, Option.bind_some]
    dsimp only
    by_cases last : max 1 m.remaining ≤ k + 1 + 0
    · rw [if_pos last, if_pos (by omega)]
    · rw [if_neg last, if_neg (by omega)]
      simp only [Bool.false_eq_true, if_false, Option.some.injEq, Marker.mk.injEq, Nat.add_zero, true_and]
      omega

theorem Marker.worked_release (m : Marker) (k j : Nat) :
    ((m.worked k j).bind fun x => x.counted true) = m.worked k (j + 1) := by
  unfold Marker.worked Marker.counted
  by_cases ended : max 1 m.remaining ≤ k + j
  · rw [if_pos ended, if_pos (by omega)]
    rfl
  · rw [if_neg ended, Option.bind_some]
    dsimp only
    by_cases last : max 1 m.remaining ≤ k + (j + 1)
    · rw [if_pos last, if_pos (by omega)]
    · rw [if_neg last, if_neg (by omega)]
      simp only [if_true, Option.some.injEq, Marker.mk.injEq, and_true]
      omega

/-- A flow after packets have been discarded from its head, and then released (R130). -/
def Flow.worked (x : Flow) (discards sent : Nat) : Flow := { x with
  queue := x.queue.drop (discards + sent)
  marker := x.marker.bind fun m => m.worked discards sent
  counters := { x.counters with
    stale := raisedBy x.counters.stale discards, released := raisedBy x.counters.released sent } }

theorem Flow.worked_zero (x : Flow) : x.worked 0 0 = x := by
  unfold Flow.worked
  simp only [Marker.worked_zero, Option.bind_fun_some, raisedBy, if_true, Nat.add_zero, List.drop_zero]

theorem drop_succ_of_drop {α : Type} {l rest : List α} {n : Nat} {e : α} (h : l.drop n = e :: rest) :
    l.drop (n + 1) = rest := by rw [← List.tail_drop, h, List.tail_cons]

/-- One discard more. -/
theorem Flow.worked_discard (x : Flow) {k : Nat} {e : QEntry} {rest : List QEntry}
    (h : (x.worked k 0).queue = e :: rest) : { x.worked k 0 with
      queue := rest, marker := (x.worked k 0).marker.bind fun m => m.counted false
      counters := { (x.worked k 0).counters with stale := satAdd (x.worked k 0).counters.stale 1 } } =
      x.worked (k + 1) 0 := by
  unfold Flow.worked at h ⊢
  simp only [satAdd_raisedBy, Option.bind_assoc, Marker.worked_discard]
  rw [← drop_succ_of_drop h]

/-- One release more. -/
theorem Flow.worked_release (x : Flow) {k j : Nat} {e : QEntry} {rest : List QEntry}
    (h : (x.worked k j).queue = e :: rest) : { x.worked k j with
      queue := rest, marker := (x.worked k j).marker.bind fun m => m.counted true
      counters := { (x.worked k j).counters with
        released := satAdd (x.worked k j).counters.released 1 } } = x.worked k (j + 1) := by
  unfold Flow.worked at h ⊢
  simp only [satAdd_raisedBy, Option.bind_assoc, Marker.worked_release]
  rw [← drop_succ_of_drop h]
  rfl

/-! ### The sweep (R132, R142) -/

/-- What the Management Agent has taken of a flow once its stale heads are discarded: DRAINED where the marker is counted to
its end (R141). -/
def State.sweptMgmt (s : State) (f : FlowIdx) (k : Nat) (m : Management) : Management :=
  match (s.flow f).marker with
  | some x =>
    if max 1 x.remaining ≤ k then
      m.take s.setup.enable s.link.frame (.drained f (s.flow f).bound x.released (x.discarded + max 1 x.remaining))
    else m
  | none => m

/-- What the Management Agent has taken of a flow at the end of the sweep: the STALE summary of its discards (R142). -/
def State.summedMgmt (s : State) (f : FlowIdx) (k : Nat) (m : Management) : Management :=
  if k = 0 then m else m.take s.setup.enable s.link.frame (.stale f (s.flow f).bound (s.flow f).state k)

theorem sweptMgmt_zero (s : State) (f : FlowIdx) (m : Management) : s.sweptMgmt f 0 m = m := by
  unfold State.sweptMgmt
  split
  · exact if_neg (by omega)
  · rfl

/-- Between two states packets have been discarded stale from the head of one flow. -/
structure Discarded (s t : State) (f : FlowIdx) (k : Nat) : Prop where
  flow : t.flow f = (s.flow f).worked k 0
  other : OtherFlows f s t
  mgmt : t.mgmt = s.sweptMgmt f k s.mgmt
  same : SameBut [.flows, .buffer, .mgmt] s t
  stamp : t.buffer.stamp = s.buffer.stamp

section
variable {s t : State} {f : FlowIdx} {k : Nat}

theorem Discarded.refl (s : State) (f : FlowIdx) : Discarded s s f 0 :=
  ⟨(Flow.worked_zero _).symm, fun _ _ => rfl, (sweptMgmt_zero s f _).symm, .refl _ s, rfl⟩

theorem Discarded.countedMgmt (h : Discarded s t f k) : t.countedMgmt f false = s.sweptMgmt f (k + 1) s.mgmt := by
  have setup : t.setup = s.setup := h.same .setup (by decide)
  have link : t.link = s.link := h.same .link (by decide)
  have marker : (t.flow f).marker = (s.flow f).marker.bind fun m => m.worked k 0 := by rw [h.flow]; rfl
  have bound : (t.flow f).bound = (s.flow f).bound := by rw [h.flow]; rfl
  have before := h.mgmt
  unfold State.sweptMgmt at before ⊢
  unfold State.countedMgmt State.notified
  rw [marker, bound, setup, link]
  cases hm : (s.flow f).marker with
  | none => rw [hm] at before; exact before
  | some m =>
    rw [hm] at before
    simp only [Option.bind_some, Marker.worked] at before ⊢
    by_cases ended : max 1 m.remaining ≤ k + 0
    · rw [if_pos ended, if_pos (by omega)]
      rw [if_pos (by omega)] at before
      exact before
    · rw [if_neg ended]
      rw [if_neg (by omega)] at before
      simp only
      by_cases last : max 1 m.remaining ≤ k + 1
      · rw [if_pos last, if_pos (by omega), before]
        simp only [Bool.false_eq_true, if_false]
        congr 2
        omega
      · rw [if_neg last, if_neg (by omega)]
        exact before

theorem Discarded.succ (h : Discarded s t f k) {e : QEntry} {rest : List QEntry} (hq : (t.flow f).queue = e :: rest) :
    Discarded s (t.discardStale f) f (k + 1) where
  flow := by
    rw [discardStale_flow hq, if_pos rfl]
    rw [h.flow] at hq ⊢
    exact (s.flow f).worked_discard hq
  other g hg := by rw [discardStale_flow hq, if_neg hg, h.other g hg]
  mgmt := (discardStale_mgmt hq).trans h.countedMgmt
  same := h.same.then (t.discardStale_same f) rfl rfl
  stamp := by rw [discardStale_buffer hq]; exact h.stamp

/-- The discards of one flow go on as long as its head is stale (R132). -/
theorem sweepHeads_discarded (n : FrameNo) (q : List QEntry) : ∀ (t : State) (k : Nat), Discarded s t f k →
    (t.flow f).queue = q → Discarded s (State.sweepHeads n f q.length t) f
      (k + (q.takeWhile fun e => e.isStale n (s.flow f).holdAge).length) := by
  induction q with
  | nil => exact fun _ _ h _ => h
  | cons e rest ih =>
    intro t k h hq
    have age : (t.flow f).holdAge = (s.flow f).holdAge := by rw [h.flow]; rfl
    rw [List.length_cons, State.sweepHeads, headStale_cons hq, age]
    split
    · next stale =>
      have next := h.succ hq
      have queue : ((t.discardStale f).flow f).queue = rest := by rw [discardStale_flow hq, if_pos rfl]
      rw [List.takeWhile_cons_of_pos (by exact stale), List.length_cons, Nat.add_comm _ 1, ← Nat.add_assoc]
      exact ih _ _ next queue
    · next fresh =>
      rw [List.takeWhile_cons_of_neg (by exact fresh)]
      exact h

/-- How many packets the sweep of a frame event discards from a flow: the stale ones at the head of a DOWN flow. -/
def State.staleHeads (s : State) (n : FrameNo) (f : FlowIdx) : Nat :=
  if (s.flow f).dir = .down then ((s.flow f).queue.takeWhile fun e => e.isStale n (s.flow f).holdAge).length else 0

theorem sweepFlow_discarded (n : FrameNo) (hd : (s.flow f).dir = .down) :
    Discarded s (State.sweepFlow n s f) f (s.staleHeads n f) := by
  rw [State.staleHeads, if_pos hd, ← Nat.zero_add (List.length _)]
  exact sweepHeads_discarded n _ s 0 (.refl s f) rfl

end

/-- Between two states the stale heads of some flows have been discarded, and the discards are not yet summed. -/
structure SweptAll (n : FrameNo) (s t : State) (l : List FlowIdx) : Prop where
  flow : ∀ f, t.flow f = if f ∈ l then (s.flow f).worked (s.staleHeads n f) 0 else s.flow f
  mgmt : t.mgmt = l.foldl (fun m f => s.sweptMgmt f (s.staleHeads n f) m) s.mgmt
  same : SameBut [.flows, .buffer, .mgmt] s t
  stamp : t.buffer.stamp = s.buffer.stamp

section
variable {n : FrameNo} {s t : State} {l : List FlowIdx} {f : FlowIdx}

theorem SweptAll.snoc (h : SweptAll n s t l) (hf : f ∉ l) (hd : (s.flow f).dir = .down) :
    SweptAll n s (State.sweepFlow n t f) (l ++ [f]) := by
  have flow : t.flow f = s.flow f := by rw [h.flow, if_neg hf]
  have setup : t.setup = s.setup := h.same .setup (by decide)
  have link : t.link = s.link := h.same .link (by decide)
  have heads : t.staleHeads n f = s.staleHeads n f := by simp only [State.staleHeads, flow]
  have swept := sweepFlow_discarded (s := t) (f := f) n (flow ▸ hd)
  rw [heads] at swept
  refine ⟨fun g => ?_, ?_, h.same.then swept.same rfl rfl, swept.stamp.trans h.stamp⟩
  · by_cases hg : g = f
    · rw [hg, swept.flow, flow, if_pos (by simp)]
    · rw [swept.other g hg, h.flow]
      simp only [List.mem_append, List.mem_singleton, hg, or_false]
  · rw [swept.mgmt, h.mgmt, List.foldl_append]
    simp only [State.sweptMgmt, flow, setup, link, List.foldl_cons, List.foldl_nil]

theorem foldl_sweepFlow (rest : List FlowIdx) : ∀ (l : List FlowIdx) (t : State), SweptAll n s t l →
    (l ++ rest).Nodup → (∀ f ∈ rest, (s.flow f).dir = .down) →
    SweptAll n s (rest.foldl (State.sweepFlow n) t) (l ++ rest) := by
  induction rest with
  | nil => exact fun l t h _ _ => (List.append_nil l).symm ▸ h
  | cons f rest ih =>
    intro l t h nodup down
    have hf : f ∉ l := fun k => (List.disjoint_of_nodup_append nodup) k List.mem_cons_self
    rw [List.append_cons] at nodup ⊢
    exact ih _ _ (h.snoc hf (down f List.mem_cons_self)) nodup fun g hg => down g (List.mem_cons_of_mem _ hg)

end

end Sys2Proof.Machine

namespace Sys2Proof.Machine

/-! ### The whole sweep -/

theorem foldl_filter_of_idle {α β : Type} {p : α → Bool} {g : β → α → β} (idle : ∀ m a, p a = false → g m a = m)
    (l : List α) : ∀ m, (l.filter p).foldl g m = l.foldl g m := by
  induction l with
  | nil => exact fun _ => rfl
  | cons a rest ih =>
    intro m
    cases hp : p a with
    | true => rw [List.filter_cons_of_pos hp]; exact ih _
    | false => rw [List.filter_cons_of_neg (by rw [hp]; nofun), List.foldl_cons, idle m a hp]; exact ih m

theorem takeWhile_stops {α : Type} {p : α → Bool} (l : List α) {e : α}
    (h : l[(l.takeWhile p).length]? = some e) : p e = false := by
  induction l with
  | nil => cases h
  | cons a rest ih =>
    cases hp : p a with
    | true => exact ih (by rw [List.takeWhile_cons_of_pos hp] at h; exact h)
    | false =>
      rw [List.takeWhile_cons_of_neg (by rw [hp]; nofun)] at h
      exact Option.some.inj h ▸ hp

section
variable {s : State} {n : FrameNo} {f : FlowIdx}

theorem staleHeads_le (s : State) (n : FrameNo) (f : FlowIdx) : s.staleHeads n f ≤ (s.flow f).queue.length := by
  unfold State.staleHeads
  split
  · exact (List.takeWhile_sublist _).length_le
  · exact Nat.zero_le _

theorem staleHeads_stale {e : QEntry} (h : e ∈ (s.flow f).queue.take (s.staleHeads n f)) :
    (s.flow f).dir = .down ∧ e.isStale n (s.flow f).holdAge = true := by
  unfold State.staleHeads at h
  split at h
  · next down =>
    rw [← List.prefix_iff_eq_take.mp (List.takeWhile_prefix _)] at h
    exact ⟨down, (List.mem_takeWhile_imp h :)⟩
  · cases h

theorem staleHeads_fresh {e : QEntry} (down : (s.flow f).dir = .down)
    (h : (s.flow f).queue[s.staleHeads n f]? = some e) : e.isStale n (s.flow f).holdAge = false := by
  rw [State.staleHeads, if_pos down] at h
  exact takeWhile_stops (p := fun e : QEntry => e.isStale n (s.flow f).holdAge) _ h

/-- The flows the sweep visits are the DOWN ones with packets (R132). -/
theorem sweepable_eq (s : State) : s.sweepable = (List.finRange 1024).filter fun f =>
    decide ((s.flow f).dir = .down) && !(s.flow f).queue.isEmpty := Table.keys_eq_filter _ _ fun _ => by rfl

theorem staleHeads_idle (h : (decide ((s.flow f).dir = .down) && !(s.flow f).queue.isEmpty) = false) :
    s.staleHeads n f = 0 := by
  unfold State.staleHeads
  split
  · next down =>
    rw [down, decide_eq_true rfl, Bool.true_and, Bool.not_eq_false', List.isEmpty_iff] at h
    rw [h]
    rfl
  · rfl

end

/-- Between two states every stale head has been discarded, and the discards summed. -/
structure Swept (n : FrameNo) (s t : State) : Prop where
  flow : ∀ f, t.flow f = (s.flow f).worked (s.staleHeads n f) 0
  mgmt : t.mgmt = (List.finRange 1024).foldl (fun m f => s.summedMgmt f (s.staleHeads n f) m)
    ((List.finRange 1024).foldl (fun m f => s.sweptMgmt f (s.staleHeads n f) m) s.mgmt)
  same : SameBut [.flows, .buffer, .mgmt] s t
  stamp : t.buffer.stamp = s.buffer.stamp

/-- The summaries of some flows, raised after their discards. -/
theorem foldl_summarize {s w : State} {k : FlowIdx → Nat} (flow : ∀ f, w.flow f = (s.flow f).worked (k f) 0)
    (within : ∀ f, k f ≤ (s.flow f).queue.length) (setup : w.setup = s.setup) (link : w.link = s.link)
    (l : List FlowIdx) :
    ∀ u : State, SameBut [.mgmt] w u →
      (l.foldl (fun u f => u.summarize f ((s.flow f).queue.length - (u.flow f).queue.length)) u).mgmt =
        l.foldl (fun m f => s.summedMgmt f (k f) m) u.mgmt := by
  induction l with
  | nil => exact fun _ _ => rfl
  | cons f rest ih =>
    intro u same
    have here : u.flow f = (s.flow f).worked (k f) 0 := (flow_of_flows (same .flows (by decide)) f).trans (flow f)
    have discards : (s.flow f).queue.length - (u.flow f).queue.length = k f := by
      have fits := within f
      rw [here, Flow.worked, List.length_drop]
      omega
    have told : (u.summarize f (k f)).mgmt = s.summedMgmt f (k f) u.mgmt := by
      unfold State.summarize State.summedMgmt
      split
      · rfl
      · rw [raise_mgmt, here, show u.setup = s.setup from (same .setup (by decide)).trans setup,
          show u.link = s.link from (same .link (by decide)).trans link]
        rfl
    rw [List.foldl_cons, List.foldl_cons, discards, ← told]
    exact ih _ (same.then (u.summarize_same f _) rfl rfl)

theorem sweep_swept (s : State) (n : FrameNo) : Swept n s (s.sweep n) := by
  let idle (f : FlowIdx) : Bool := decide ((s.flow f).dir = .down) && !(s.flow f).queue.isEmpty
  have nodup : s.sweepable.Nodup := Table.keys_nodup _ _
  have mem (f : FlowIdx) : f ∈ s.sweepable ↔ idle f = true := by rw [sweepable_eq]; simp [idle]
  have all : SweptAll n s (s.sweepable.foldl (State.sweepFlow n) s) s.sweepable :=
    foldl_sweepFlow s.sweepable [] s ⟨fun _ => rfl, rfl, .refl _ s, rfl⟩ nodup fun f hf =>
      of_decide_eq_true (Bool.and_eq_true_iff.mp ((mem f).mp hf)).1
  have flow (f : FlowIdx) : (s.sweepable.foldl (State.sweepFlow n) s).flow f =
      (s.flow f).worked (s.staleHeads n f) 0 := by
    rw [all.flow]
    split
    · rfl
    · next hf =>
      rw [staleHeads_idle (Bool.eq_false_iff.mpr fun k => hf ((mem f).mpr k))]
      exact (Flow.worked_zero _).symm
  have summed := State.summarize_same
  refine ⟨fun f => ?_, ?_, s.sweep_same n, ?_⟩
  · exact (flow_of_flows (SameBut.foldl (fun u f => summed u f _) _ _ .flows (by decide)) f).trans (flow f)
  · refine (foldl_summarize flow (staleHeads_le s n) (all.same .setup (by decide)) (all.same .link (by decide)) _ _
      (.refl _ _)).trans ?_
    rw [all.mgmt, sweepable_eq, foldl_filter_of_idle, foldl_filter_of_idle]
    · exact fun m f hf => by rw [staleHeads_idle hf, sweptMgmt_zero]
    · exact fun m f hf => by rw [staleHeads_idle hf]; rfl
  · exact (congrArg Buffer.stamp (SameBut.foldl (fun u f => summed u f _) _ _ .buffer (by decide))).trans all.stamp

end Sys2Proof.Machine

namespace Sys2Proof.Machine

/-! ### What is said of the packets released -/

/-- The packets of one flow among those released. -/
def sentOf (f : FlowIdx) (l : List Released) : List Released := l.filter fun r => r.flow = f

/-- The bytes of one flow among those released (R136). -/
def bytesSent (f : FlowIdx) (l : List Released) : Nat := ((sentOf f l).map fun r => r.bytes.length).sum

/-- The symbols charged for some packets (R134). -/
def chargedFor (l : List Released) : Nat := (l.map Released.cost).sum

/-- The cost of a packet for a terminal, some packets having been released (R134). -/
def releaseCost (s : State) (done : List Released) (i : Slot) (bytes : Nat) : Nat :=
  symbolCost bytes (s.pricing i).density + if done.any (fun r => r.terminal = i) then 0 else (s.pricing i).overhead

/-- What the Management Agent has taken of one release: DRAINED where it counts the marker to its end (R141). -/
def State.sentMgmt (s : State) (k : FlowIdx → Nat) (out : List Released) (m : Management) (j : Nat) : Management :=
  match out[j]? with
  | some r =>
    match (s.flow r.flow).marker with
    | some x =>
      if k r.flow + (sentOf r.flow (out.take (j + 1))).length = max 1 x.remaining then
        m.take s.setup.enable s.link.frame (.drained r.flow (s.flow r.flow).bound
          (x.released + (max 1 x.remaining - k r.flow)) (x.discarded + k r.flow))
      else m
    | none => m
  | none => m

/-- Whether a flow stands in the order of release at or before another (R135). -/
def State.upTo (s : State) (g f : FlowIdx) : Bool :=
  decide ((s.flow g).cls < (s.flow f).cls ∨ (s.flow g).cls = (s.flow f).cls ∧ g ≤ f)

theorem sentOf_append (f : FlowIdx) (l m : List Released) : sentOf f (l ++ m) = sentOf f l ++ sentOf f m :=
  List.filter_append ..

theorem sentOf_own (r : Released) : sentOf r.flow [r] = [r] := List.filter_cons_of_pos (decide_eq_true rfl)

theorem sentOf_other {f : FlowIdx} {r : Released} (h : f ≠ r.flow) : sentOf f [r] = [] :=
  List.filter_cons_of_neg (by rw [decide_eq_true_eq]; exact Ne.symm h)

theorem bytesSent_append (f : FlowIdx) (l m : List Released) : bytesSent f (l ++ m) =
    bytesSent f l + bytesSent f m := by
  rw [bytesSent, sentOf_append, List.map_append, List.sum_append]
  rfl

theorem bytesSent_own (r : Released) : bytesSent r.flow [r] = r.bytes.length := by
  rw [bytesSent, sentOf_own]
  rfl

theorem bytesSent_other {f : FlowIdx} {r : Released} (h : f ≠ r.flow) : bytesSent f [r] = 0 := by
  rw [bytesSent, sentOf_other h]
  rfl

theorem chargedFor_append (l m : List Released) : chargedFor (l ++ m) = chargedFor l + chargedFor m := by
  rw [chargedFor, List.map_append, List.sum_append]
  rfl

theorem sentMgmt_append (s : State) (k : FlowIdx → Nat) {l : List Released} (r : Released) (m : Management) {j : Nat}
    (h : j < l.length) : s.sentMgmt k (l ++ [r]) m j = s.sentMgmt k l m j := by
  rw [State.sentMgmt, List.getElem?_append_left h, List.take_append_of_le_length h]
  rfl

/-- The notices of one packet more are those of the packets before it, and its own. -/
theorem foldl_sentMgmt_snoc (s : State) (k : FlowIdx → Nat) (l : List Released) (r : Released) (m : Management) :
    (List.range (l ++ [r]).length).foldl (s.sentMgmt k (l ++ [r])) m =
      s.sentMgmt k (l ++ [r]) ((List.range l.length).foldl (s.sentMgmt k l) m) l.length := by
  rw [List.length_append, List.length_singleton, List.range_succ, List.foldl_append, List.foldl_cons, List.foldl_nil]
  exact congrArg (s.sentMgmt k (l ++ [r]) · l.length) <|
    List.foldl_ext _ _ m fun m j hj => sentMgmt_append s k r m (List.mem_range.mp hj)

theorem costs_snoc {s : State} {l : List Released} {r : Released}
    (old : ∀ (j : Nat) (x : Released), l[j]? = some x → x.cost = releaseCost s (l.take j) x.terminal x.bytes.length)
    (new : r.cost = releaseCost s l r.terminal r.bytes.length) (j : Nat) (x : Released) (hx : (l ++ [r])[j]? = some x) :
    x.cost = releaseCost s ((l ++ [r]).take j) x.terminal x.bytes.length := by
  rcases Nat.lt_or_ge j l.length with before | last
  · rw [List.getElem?_append_left before] at hx
    rw [List.take_append_of_le_length before.le]
    exact old j x hx
  · rw [List.getElem?_append_right last, List.getElem?_singleton] at hx
    split at hx
    · rw [← Option.some.inj hx, List.take_append_of_le_length (by omega), List.take_of_length_le last]
      exact new
    · cases hx

theorem pricing_congr {s t : State} (ht : t.terms = s.terms) (hp : t.profiles = s.profiles) (i : Slot) :
    t.pricing i = s.pricing i := by
  simp only [State.pricing, term_of_terms ht, profile_of_profiles hp]

/-! ### The flows of a pass (R135) -/

section
variable (s : State)

theorem upTo_refl (f : FlowIdx) : s.upTo f f = true := decide_eq_true (.inr ⟨rfl, le_rfl⟩)

theorem mem_releasable (c : Fin 8) (f : FlowIdx) :
    f ∈ s.flows.keys (fun _ r => decide (r.cls = c) && s.eligible r) ↔
      (s.flow f).cls = c ∧ s.eligible (s.flow f) = true := by
  rw [Table.mem_keys _ _ _ (by simp [State.eligible]), Bool.and_eq_true, decide_eq_true_eq]
  rfl

theorem mem_releaseOrder (f : FlowIdx) : f ∈ s.releaseOrder ↔ s.eligible (s.flow f) = true := by
  simp only [State.releaseOrder, List.mem_flatMap, List.mem_finRange, true_and, mem_releasable]
  exact ⟨fun ⟨_, _, h⟩ => h, fun h => ⟨_, rfl, h⟩⟩

theorem releaseOrder_pairwise : s.releaseOrder.Pairwise fun f g => s.upTo f g = true ∧ s.upTo g f = false := by
  simp only [State.upTo, decide_eq_true_eq, decide_eq_false_iff_not, not_or, not_and, not_lt, not_le]
  refine List.pairwise_flatMap.mpr ⟨fun c _ => ?_, (List.pairwise_lt_finRange 8).imp fun {c d} hcd f hf g hg => ?_⟩
  · refine List.Pairwise.imp_of_mem (fun {f g} hf hg hfg => ?_) (Table.keys_sorted _ _)
    rw [((mem_releasable s c f).mp hf).1, ((mem_releasable s c g).mp hg).1]
    exact ⟨.inr ⟨rfl, hfg.le⟩, le_rfl, fun _ => hfg⟩
  · rw [((mem_releasable s c f).mp hf).1, ((mem_releasable s d g).mp hg).1]
    exact ⟨.inl hcd, hcd.le, fun k => absurd k hcd.ne'⟩

end

/-! ### The progress of the passes -/

/-- What the passes have done so far: from the flows of `v`, some of whose heads were discarded, each flow has released the
packets said of it; from the state `b` the passes began in, the budget, the costs and the notices follow from what was
released. -/
structure Sends (v b : State) (k : FlowIdx → Nat) (p : Pass) : Prop where
  flow : ∀ f, ∃ c, p.state.flow f = { (v.flow f).worked (k f) (sentOf f p.released).length with credit := c }
  within : ∀ f, k f + (sentOf f p.released).length ≤ (v.flow f).queue.length
  bytes : ∀ f, (sentOf f p.released).map Released.bytes =
    (((v.flow f).queue.drop (k f)).take (sentOf f p.released).length).map QEntry.bytes
  budget : p.budget + chargedFor p.released = b.setup.d
  costs : ∀ (j : Nat) (r : Released), p.released[j]? = some r →
    r.cost = releaseCost b (p.released.take j) r.terminal r.bytes.length
  mgmt : p.state.mgmt = (List.range p.released.length).foldl (v.sentMgmt k p.released) b.mgmt
  same : SameBut [.flows, .buffer, .mgmt] b p.state
  stamp : p.state.buffer.stamp = b.buffer.stamp

section
variable {v b : State} {k : FlowIdx → Nat} {p : Pass}

theorem Sends.cost (h : Sends v b k p) (i : Slot) (bytes : Nat) :
    p.cost i bytes = releaseCost b p.released i bytes := by
  unfold Pass.cost releaseCost
  rw [pricing_congr (h.same .terms (by decide)) (h.same .profiles (by decide))]

theorem Sends.countedMgmt (h : Sends v b k p) (setup : b.setup = v.setup) (link : b.link = v.link) {r : Released} :
    p.state.countedMgmt r.flow true = v.sentMgmt k (p.released ++ [r]) p.state.mgmt p.released.length := by
  obtain ⟨c, flow⟩ := h.flow r.flow
  have marker : (p.state.flow r.flow).marker =
      (v.flow r.flow).marker.bind fun m => m.worked (k r.flow) (sentOf r.flow p.released).length := by rw [flow]; rfl
  have bound : (p.state.flow r.flow).bound = (v.flow r.flow).bound := by rw [flow]; rfl
  have counts : (sentOf r.flow ((p.released ++ [r]).take (p.released.length + 1))).length =
      (sentOf r.flow p.released).length + 1 := by
    rw [List.take_of_length_le (by simp), sentOf_append, sentOf_own, List.length_append, List.length_singleton]
  unfold State.countedMgmt State.sentMgmt State.notified
  rw [marker, bound, show p.state.setup = v.setup from (h.same .setup (by decide)).trans setup,
    show p.state.link = v.link from (h.same .link (by decide)).trans link, List.getElem?_concat_length]
  simp only [counts]
  cases (v.flow r.flow).marker with
  | none => rfl
  | some m =>
    simp only [Option.bind_some, Marker.worked]
    by_cases ended : max 1 m.remaining ≤ k r.flow + (sentOf r.flow p.released).length
    · rw [if_pos ended, if_neg (by omega)]
    · rw [if_neg ended]
      dsimp only
      by_cases last : k r.flow + ((sentOf r.flow p.released).length + 1) = max 1 m.remaining
      · rw [if_pos last, if_pos (by omega)]
        simp only [if_true]
        congr 2
        omega
      · rw [if_neg last, if_neg (by omega)]

/-- One release more (R135, R136). -/
theorem Sends.release (h : Sends v b k p) (setup : b.setup = v.setup) (link : b.link = v.link) {i : Slot} {f : FlowIdx}
    {e : QEntry} {rest : List QEntry} {committed : Bool} (hq : (p.state.flow f).queue = e :: rest)
    (room : p.cost i e.len ≤ p.budget) : Sends v b k (p.release i f e committed) := by
  let r : Released := ⟨i, f, e.bytes, p.cost i e.len⟩
  have released : (p.release i f e committed).released = p.released ++ [r] := rfl
  have own : sentOf f (p.released ++ [r]) = sentOf f p.released ++ [r] := by
    rw [sentOf_append]
    exact congrArg _ (sentOf_own r)
  have other {g : FlowIdx} (hg : g ≠ f) : sentOf g (p.released ++ [r]) = sentOf g p.released := by
    rw [sentOf_append, sentOf_other (r := r) hg, List.append_nil]
  obtain ⟨c, flow⟩ := h.flow f
  have queue : (v.flow f).queue.drop (k f + (sentOf f p.released).length) = e :: rest := by rw [flow] at hq; exact hq
  have head : ((v.flow f).queue.drop (k f))[(sentOf f p.released).length]? = some e := by
    rw [List.getElem?_drop, ← List.head?_drop, queue, List.head?_cons]
  refine ⟨fun g => ?_, fun g => ?_, fun g => ?_, ?_, costs_snoc h.costs (h.cost i _), ?_,
    h.same.then (p.release_same i f e committed) rfl rfl, (Pass.release_stamp hq).trans h.stamp⟩
  · rw [released]
    by_cases hg : g = f
    · rw [hg, own, Pass.release_flow hq, if_pos rfl, flow, List.length_append, List.length_singleton]
      exact ⟨if committed then c - e.len else c, congrArg
        (fun x : Flow => { x with credit := if committed then c - e.len else c }) ((v.flow f).worked_release queue)⟩
    · rw [other hg, Pass.release_flow hq, if_neg hg]
      exact h.flow g
  · rw [released]
    by_cases hg : g = f
    · have short := congrArg List.length queue
      rw [List.length_drop, List.length_cons] at short
      rw [hg, own, List.length_append, List.length_singleton]
      omega
    · rw [other hg]
      exact h.within g
  · rw [released]
    by_cases hg : g = f
    · rw [hg, own, List.length_append, List.length_singleton, List.take_add_one, head, List.map_append, List.map_append,
        h.bytes f]
      rfl
    · rw [other hg]
      exact h.bytes g
  · have before := h.budget
    rw [released, chargedFor_append]
    show p.budget - p.cost i e.len + (chargedFor p.released + p.cost i e.len) = _
    omega
  · rw [Pass.release_mgmt hq, released, foldl_sentMgmt_snoc, ← h.mgmt]
    exact h.countedMgmt setup link (r := r)

end

end Sys2Proof.Machine

namespace Sys2Proof.Machine

/-! ### The two passes (R134 to R136) -/

/-- The committed pass charges each release to its flow's credit (R135). -/
structure CommittedSoFar (v b : State) (k : FlowIdx → Nat) (p : Pass) : Prop where
  sends : Sends v b k p
  credit : ∀ f, (p.state.flow f).credit + bytesSent f p.released = (b.flow f).credit

/-- The excess pass begins where the committed pass ended, charges no credit, and keeps each flow's bytes within its PB
(R136). -/
structure ExcessSoFar (v b : State) (k : FlowIdx → Nat) (q p : Pass) : Prop where
  sends : Sends v b k p
  credit : ∀ f, (p.state.flow f).credit = (q.state.flow f).credit
  capped : ∃ exc, p.released = q.released ++ exc ∧ ∀ r ∈ exc, bytesSent r.flow p.released ≤ (v.flow r.flow).pb

section
variable {v b : State} {k : FlowIdx → Nat}

theorem Sends.pb {p : Pass} (h : Sends v b k p) (f : FlowIdx) : (p.state.flow f).pb = (v.flow f).pb := by
  obtain ⟨c, flow⟩ := h.flow f
  rw [flow]
  rfl

theorem committed_keeps (setup : b.setup = v.setup) (link : b.link = v.link) :
    Pass.Keeps true (CommittedSoFar v b k) := by
  intro p i f e rest _ hq fits h
  obtain ⟨covered, room⟩ := of_decide_eq_true fits
  rw [if_pos rfl] at covered
  refine ⟨h.sends.release setup link hq room, fun g => ?_⟩
  have before := h.credit g
  rw [Pass.release_released, bytesSent_append, Pass.release_flow hq]
  by_cases hg : g = f
  · rw [hg] at before ⊢
    rw [if_pos rfl, bytesSent_own ⟨i, f, e.bytes, p.cost i e.len⟩]
    show (p.state.flow f).credit - e.len + (_ + e.len) = _
    omega
  · rw [if_neg hg, bytesSent_other (r := ⟨i, f, e.bytes, p.cost i e.len⟩) hg]
    exact before

theorem excess_keeps (setup : b.setup = v.setup) (link : b.link = v.link) (q : Pass) :
    Pass.Keeps false (ExcessSoFar v b k q) := by
  intro p i f e rest _ hq fits h
  let r : Released := ⟨i, f, e.bytes, p.cost i e.len⟩
  obtain ⟨under, room⟩ := of_decide_eq_true fits
  obtain ⟨exc, released, capped⟩ := h.capped
  refine ⟨h.sends.release setup link hq room, fun g => ?_, exc ++ [r], ?_, fun x hx => ?_⟩
  · rw [Pass.release_flow hq]
    split
    · next hg => rw [hg]; exact h.credit f
    · exact h.credit g
  · rw [Pass.release_released, released, List.append_assoc]
  · rw [Pass.release_released, bytesSent_append]
    by_cases hf : x.flow = r.flow
    · rw [hf, bytesSent_own r]
      exact h.sends.pb f ▸ under
    · rw [bytesSent_other hf]
      rcases List.mem_append.mp hx with hx | hx
      · exact capped x hx
      · exact absurd (congrArg Released.flow (List.mem_singleton.mp hx)) hf

/-- What both passes leave: the packets of the committed pass, those of the excess pass, and where each flow stopped. -/
structure Passed (v b : State) (k : FlowIdx → Nat) (q : Pass) (com exc : List Released) : Prop where
  sends : Sends v b k q
  released : q.released = com ++ exc
  eligible : ∀ r ∈ com ++ exc, b.eligible (b.flow r.flow) = true ∧ (b.flow r.flow).bound = some r.terminal
  credit : ∀ f, (q.state.flow f).credit + bytesSent f com = (b.flow f).credit
  capped : ∀ r ∈ exc, bytesSent r.flow (com ++ exc) ≤ (v.flow r.flow).pb
  sortedCom : com.Pairwise fun x y => b.upTo x.flow y.flow = true
  sortedExc : exc.Pairwise fun x y => b.upTo x.flow y.flow = true
  stopsCom : ∀ f i e, b.eligible (b.flow f) = true → (b.flow f).bound = some i →
    (v.flow f).queue[k f + (sentOf f com).length]? = some e → (q.state.flow f).credit < e.len ∨
      b.setup.d < chargedFor (com.filter fun r => b.upTo r.flow f) +
        releaseCost b (com.filter fun r => b.upTo r.flow f) i e.len
  stopsExc : ∀ f i e, b.eligible (b.flow f) = true → (b.flow f).bound = some i →
    (q.state.flow f).queue.head? = some e → (v.flow f).pb < bytesSent f (com ++ exc) + e.len ∨
      b.setup.d < chargedFor com + chargedFor (exc.filter fun r => b.upTo r.flow f) +
        releaseCost b (com ++ exc.filter fun r => b.upTo r.flow f) i e.len

/-- A head that failed its test exceeds what bounds its bytes, or costs more than is left of D. -/
theorem Sends.stopped {p : Pass} (h : Sends v b k p) {committed : Bool} {i : Slot} {f : FlowIdx} {e : QEntry}
    (stop : p.fits committed i f e = false) :
    ¬ (if committed then e.len ≤ (p.state.flow f).credit else bytesSent f p.released + e.len ≤ (p.state.flow f).pb) ∨
      b.setup.d < chargedFor p.released + releaseCost b p.released i e.len := by
  have failed := of_decide_eq_false stop
  have budget := h.budget
  rw [h.cost] at failed
  rcases not_and_or.mp failed with bytes | cost
  · exact .inl bytes
  · exact .inr (by omega)

/-- Up to a flow's place in the order stand all the packets of that flow. -/
theorem sentOf_upTo (s : State) (f : FlowIdx) (l : List Released) :
    sentOf f (l.filter fun r => s.upTo r.flow f) = sentOf f l := by
  unfold sentOf
  rw [List.filter_filter]
  refine List.filter_congr fun r _ => ?_
  by_cases h : r.flow = f
  · rw [h, upTo_refl, Bool.and_true]
  · rw [decide_eq_false h, Bool.false_and]

theorem Sends.queue {p : Pass} (h : Sends v b k p) (f : FlowIdx) :
    (p.state.flow f).queue = (v.flow f).queue.drop (k f + (sentOf f p.released).length) := by
  obtain ⟨c, flow⟩ := h.flow f
  rw [flow]
  rfl

/-- The committed pass and then the excess pass: what was released up to the end of a flow's turn is what was released of
the flows up to it in the order. -/
theorem passes_passed (setup : b.setup = v.setup) (link : b.link = v.link) (start : Sends v b k ⟨b, b.setup.d, []⟩) :
    ∃ com exc, Passed v b k b.passes com exc := by
  have order := releaseOrder_pairwise b
  obtain ⟨com, first⟩ := run_ran (committed_keeps (v := v) (k := k) setup link) (upTo_refl b) _ ⟨b, b.setup.d, []⟩ order
    ⟨start, fun _ => rfl⟩
  rw [passes_eq]
  generalize Pass.run true b.releaseOrder ⟨b, b.setup.d, []⟩ = q at first
  have comReleased : q.released = com := first.released
  obtain ⟨exc, second⟩ := run_ran (excess_keeps (v := v) (k := k) setup link q) (upTo_refl b) _ q order
    ⟨first.kept.sends, fun _ => rfl, [], (List.append_nil _).symm, nofun⟩
  generalize Pass.run false b.releaseOrder q = t at second
  obtain ⟨sends, credit, exc', excReleased, capped⟩ := second.kept
  have released : t.released = com ++ exc := comReleased ▸ second.released
  have sameExc : exc' = exc := List.append_cancel_left (excReleased.symm.trans second.released)
  refine ⟨com, exc, sends, released, fun r hr => ?_, fun f => ?_, fun r hr => ?_, first.sorted, second.sorted,
    fun f i e eligible bound head => ?_, fun f i e eligible bound head => ?_⟩
  · rcases List.mem_append.mp hr with hr | hr
    · obtain ⟨mem, bound⟩ := first.mine r hr
      exact ⟨(mem_releaseOrder b _).mp mem, bound⟩
    · obtain ⟨mem, bound⟩ := second.mine r hr
      exact ⟨(mem_releaseOrder b _).mp mem, (first.bound _).symm.trans bound⟩
  · rw [credit, ← comReleased]
    exact first.kept.credit f
  · exact released ▸ capped r (sameExc ▸ hr)
  · obtain ⟨m, ⟨progress, -⟩, mReleased, flow, stops⟩ := first.stops f ((mem_releaseOrder b f).mpr eligible) i bound
    rw [List.nil_append] at mReleased
    have stop := progress.stopped (stops e (by
      rw [first.kept.sends.queue, comReleased, List.head?_drop]
      exact head))
    rw [if_pos rfl, flow, not_le, mReleased] at stop
    exact stop.imp_left fun short => (credit f).symm ▸ short
  · obtain ⟨m, ⟨progress, -, -⟩, mReleased, flow, stops⟩ := second.stops f ((mem_releaseOrder b f).mpr eligible) i
      ((first.bound f).trans bound)
    have stop := progress.stopped (stops e head)
    have bytes : bytesSent f (com ++ exc.filter fun r => b.upTo r.flow f) = bytesSent f (com ++ exc) := by
      rw [bytesSent_append, bytesSent_append, bytesSent, bytesSent, bytesSent, sentOf_upTo]
    rw [comReleased] at mReleased
    rw [mReleased, progress.pb, chargedFor_append, bytes] at stop
    exact stop.imp_left not_le.mp

end

end Sys2Proof.Machine

namespace Sys2Proof.Machine

/-! ### Bursts (R137) -/

theorem burstRecord_eq (i : Slot) (p : Option ProfIdx) (n : FrameNo) (l : List Released) : burstRecord i p n l =
    mkRecord 0x82#8 ([num8 i.val, num8 ((p.map Fin.val).getD 0)] ++ be16 n ++ num16 (chargedFor l) ++ num16 l.length ++
      payloadBytes (l.map Released.bytes)) := by
  unfold burstRecord payloadBytes
  rw [List.flatMap_map]
  rfl

/-- The burst of one terminal, of the packets of it among those released. -/
def State.burst (s : State) (n : FrameNo) (l : List Released) (i : Slot) : LinkRecord :=
  burstRecord i (s.term i).current n (l.filter fun r => r.terminal = i)

theorem burst_of_terms {s t : State} (h : t.terms = s.terms) (n : FrameNo) (l : List Released) (i : Slot) :
    t.burst n l i = s.burst n l i := by rw [State.burst, State.burst, term_of_terms h]

theorem foldl_sendBurst_link {s : State} (n : FrameNo) (l : List Released) (slots : List Slot) :
    ∀ u : State, u.terms = s.terms → (slots.foldl (fun u i => u.send (u.burst n l i)) u).link =
      { u.link with outgoing := u.link.outgoing ++ slots.map (s.burst n l) } := by
  induction slots with
  | nil => exact fun u _ => by rw [List.map_nil, List.append_nil]; rfl
  | cons i rest ih =>
    intro u hu
    rw [List.foldl_cons, ih (u.send (u.burst n l i)) hu, burst_of_terms hu, List.map_cons]
    simp only [State.send, List.append_assoc, List.singleton_append]

theorem sendBursts_link (s : State) (n : FrameNo) (l : List Released) : (s.sendBursts n l).link =
    { s.link with outgoing := s.link.outgoing ++ (burstSlots l).map (s.burst n l) } :=
  foldl_sendBurst_link n l (burstSlots l) s rfl

/-! ### The frame event of the PBR -/

/-- The state with the oldest frame event taken by the PBR, and its number made the arrival stamp (R128, R131). -/
def State.stampedFrame (s : State) (n : FrameNo) (rest : List FrameNo) : State :=
  State.setStamp { s with link := { s.link with announced := { s.link.announced with pbr := rest } } } n

/-- The state in which the passes of a frame event begin: swept, with the frame's credit (R132, R133). -/
def State.creditedFrame (s : State) (n : FrameNo) (rest : List FrameNo) : State :=
  ((s.stampedFrame n rest).sweep n).stepCredit

/-- How many packets a frame event discards from a flow. -/
abbrev State.frameStale (s : State) (n : FrameNo) (rest : List FrameNo) : FlowIdx → Nat :=
  (s.stampedFrame n rest).staleHeads n

/-- The packets of both passes of a frame event. -/
abbrev FramePassed (s : State) (n : FrameNo) (rest : List FrameNo) (com exc : List Released) : Prop :=
  Passed (s.stampedFrame n rest) (s.creditedFrame n rest) (s.frameStale n rest) (s.creditedFrame n rest).passes com exc

theorem exec_pbrFrameEvent {s : State} {n : FrameNo} {rest : List FrameNo} (h : s.link.announced.pbr = n :: rest) :
    exec .pbrFrameEvent s =
      .next ((s.creditedFrame n rest).passes.state.sendBursts n (s.creditedFrame n rest).passes.released) := by
  simp only [exec, execPbrFrameEvent]
  rw [h]
  rfl

section
variable (s : State) (n : FrameNo) (rest : List FrameNo)

theorem stampedFrame_flow (f : FlowIdx) : (s.stampedFrame n rest).flow f =
    { s.flow f with queue := (s.flow f).queue.map (s.stampAt n) } := setStamp_flow _ n f

theorem stampedFrame_same : SameBut [.link, .flows, .buffer] s (s.stampedFrame n rest) :=
  (withLink_same s _).then (State.setStamp_same _ n) rfl rfl

theorem stampedFrame_link : (s.stampedFrame n rest).link =
    { s.link with announced := { s.link.announced with pbr := rest } } :=
  State.setStamp_same _ n .link (by decide)

theorem creditedFrame_same : SameBut [.flows, .buffer, .mgmt] (s.stampedFrame n rest) (s.creditedFrame n rest) :=
  (State.sweep_same _ n).then (State.stepCredit_same _) rfl rfl

/-- The state the passes begin in prices and serves as the state before does. -/
theorem frame_same : SameBut [.link, .flows, .buffer, .mgmt] s (s.creditedFrame n rest) :=
  (stampedFrame_same s n rest).then (creditedFrame_same s n rest) rfl rfl

theorem creditedFrame_mgmt : (s.creditedFrame n rest).mgmt = ((s.stampedFrame n rest).sweep n).mgmt :=
  State.stepCredit_same _ .mgmt (by decide)

theorem creditedFrame_stamp : (s.creditedFrame n rest).buffer.stamp = some n := by
  have swept := (sweep_swept (s.stampedFrame n rest) n).stamp
  rw [State.creditedFrame, State.stepCredit_buffer, swept, State.stampedFrame, setStamp_buffer]

/-- A flow as the passes find it: its stale heads discarded, and the frame's credit granted where it is eligible (R133). -/
theorem creditedFrame_flow (f : FlowIdx) : ∃ c, (s.creditedFrame n rest).flow f =
      { ((s.stampedFrame n rest).flow f).worked ((s.stampedFrame n rest).staleHeads n f) 0 with credit := c } ∧
    c = if (s.creditedFrame n rest).eligible ((s.creditedFrame n rest).flow f) = true
      then min ((s.flow f).credit + (s.flow f).cb) ((s.flow f).cb + 9216) else 0 := by
  have swept := (sweep_swept (s.stampedFrame n rest) n).flow f
  refine ⟨_, (stepCredit_flow _ f).trans (by rw [swept]), ?_⟩
  rw [State.creditedFrame, stepCredit_flow, swept, stampedFrame_flow]
  rfl

/-- Which flows release is read from the state before the frame event (R135). -/
theorem creditedFrame_eligible (f : FlowIdx) (i : Slot) :
    (s.creditedFrame n rest).eligible ((s.creditedFrame n rest).flow f) = true ∧
        ((s.creditedFrame n rest).flow f).bound = some i ↔
      (s.flow f).dir = .down ∧ (s.flow f).state = .admitted ∧ (s.flow f).bound = some i ∧
        (s.term i).state.active = true := by
  obtain ⟨c, flow, -⟩ := creditedFrame_flow s n rest f
  have terms := frame_same s n rest .terms (by decide)
  have bound : ((s.creditedFrame n rest).flow f).bound = (s.flow f).bound := by rw [flow, stampedFrame_flow]; rfl
  have dir : ((s.creditedFrame n rest).flow f).dir = (s.flow f).dir := by rw [flow, stampedFrame_flow]; rfl
  have state : ((s.creditedFrame n rest).flow f).state = (s.flow f).state := by rw [flow, stampedFrame_flow]; rfl
  have admitted : (s.flow f).state.isAdmitted = true ↔ (s.flow f).state = .admitted := by
    cases (s.flow f).state <;> simp [FlowState.isAdmitted]
  unfold State.eligible
  rw [bound, dir, state]
  cases (s.flow f).bound with
  | none => simp
  | some j =>
    simp only [Bool.and_eq_true, decide_eq_true_eq, admitted, term_of_terms terms, Option.some.injEq, and_assoc]
    refine and_congr_right fun _ => and_congr_right fun _ => ?_
    rw [and_comm]
    exact and_congr_right fun e => by rw [e]

theorem creditedFrame_cost : releaseCost (s.creditedFrame n rest) = releaseCost s := by
  funext done i bytes
  have same := frame_same s n rest
  unfold releaseCost
  rw [pricing_congr (same .terms (by decide)) (same .profiles (by decide))]

theorem creditedFrame_upTo : (s.creditedFrame n rest).upTo = s.upTo := by
  have cls (f : FlowIdx) : ((s.creditedFrame n rest).flow f).cls = (s.flow f).cls := by
    obtain ⟨c, flow, -⟩ := creditedFrame_flow s n rest f
    rw [flow, stampedFrame_flow]
    rfl
  funext g f
  simp only [State.upTo, cls]

theorem frame_passed : ∃ com exc, FramePassed s n rest com exc := by
  have same := creditedFrame_same s n rest
  refine passes_passed (same .setup (by decide)) (same .link (by decide)) ⟨fun f => ?_, staleHeads_le _ n,
    fun _ => rfl, rfl, nofun, rfl, .refl _ _, rfl⟩
  obtain ⟨c, flow, -⟩ := creditedFrame_flow s n rest f
  exact ⟨c, flow⟩

theorem isStale_stampAt (e : QEntry) (age : Nat) : (s.stampAt n e).isStale n age = true ↔
    ∃ a, e.arrival = some a ∧ age < (n - a).toNat := by
  rw [isStale_iff]
  unfold State.stampAt
  split
  · cases e.arrival with
    | none =>
      have never : ¬ age < (n - n).toNat := by rw [BitVec.sub_self]; exact Nat.not_lt_zero age
      simp only [Option.getD_none, Option.some.injEq, exists_eq_left', never, reduceCtorEq, false_and, exists_false]
    | some a => rfl
  · rfl

end

end Sys2Proof.Machine

namespace Sys2Proof.Machine

/-! ### What the PBR's frame event leaves (R131 to R142) -/

/-- The state after the PBR has taken a frame event: the passes done and the bursts handed. -/
def State.frameDone (s : State) (n : FrameNo) (rest : List FrameNo) : State :=
  (s.creditedFrame n rest).passes.state.sendBursts n (s.creditedFrame n rest).passes.released

/-- Whether a flow releases packets for a terminal (R135). -/
def State.Releases (s : State) (f : FlowIdx) (i : Slot) : Prop :=
  (s.flow f).dir = .down ∧ (s.flow f).state = .admitted ∧ (s.flow f).bound = some i ∧ (s.term i).state.active = true

section
variable (s : State) (n : FrameNo) (rest : List FrameNo)

theorem frameDone_same : SameBut [.link] (s.creditedFrame n rest).passes.state (s.frameDone n rest) :=
  State.sendBursts_same _ n _

theorem frameDone_flows (f : FlowIdx) : (s.frameDone n rest).flow f = (s.creditedFrame n rest).passes.state.flow f :=
  flow_of_flows (frameDone_same s n rest .flows (by decide)) f

theorem frameDone_conserves : Conserves s (s.frameDone n rest) :=
  releaseFrame_conserves { s with link := { s.link with announced := { s.link.announced with pbr := rest } } } n

theorem stampedFrame_staleHeads_le (f : FlowIdx) : s.frameStale n rest f ≤ (s.flow f).queue.length := by
  have le := staleHeads_le (s.stampedFrame n rest) n f
  rwa [stampedFrame_flow, List.length_map] at le

theorem stampAt_bytes (e : QEntry) : (s.stampAt n e).bytes = e.bytes := by
  unfold State.stampAt
  split <;> rfl

theorem map_stampAt_bytes (l : List QEntry) : (l.map (s.stampAt n)).map QEntry.bytes = l.map QEntry.bytes := by
  rw [List.map_map]
  exact List.map_congr_left fun e _ => stampAt_bytes s n e

variable {s n rest}

theorem frameStale_stale {f : FlowIdx} {e : QEntry} (he : e ∈ (s.flow f).queue.take (s.frameStale n rest f)) :
    (s.flow f).dir = .down ∧ ∃ a, e.arrival = some a ∧ (s.flow f).holdAge < (n - a).toNat := by
  have stamped : s.stampAt n e ∈ ((s.stampedFrame n rest).flow f).queue.take (s.frameStale n rest f) := by
    rw [stampedFrame_flow, ← List.map_take]
    exact List.mem_map_of_mem he
  obtain ⟨down, stale⟩ := staleHeads_stale stamped
  rw [stampedFrame_flow] at down stale
  exact ⟨down, (isStale_stampAt s n e _).mp stale⟩

theorem frameStale_fresh {f : FlowIdx} {e : QEntry} {a : FrameNo} (down : (s.flow f).dir = .down)
    (he : (s.flow f).queue[s.frameStale n rest f]? = some e) (ha : e.arrival = some a) :
    (n - a).toNat ≤ (s.flow f).holdAge := by
  have dir : ((s.stampedFrame n rest).flow f).dir = .down := by rw [stampedFrame_flow]; exact down
  have stamped : ((s.stampedFrame n rest).flow f).queue[s.frameStale n rest f]? = some (s.stampAt n e) := by
    rw [stampedFrame_flow, List.getElem?_map, he]
    rfl
  have fresh := staleHeads_fresh dir stamped
  rw [stampedFrame_flow] at fresh
  by_contra older
  exact Bool.false_ne_true (fresh.symm.trans ((isStale_stampAt s n e _).mpr ⟨a, ha, not_le.mp older⟩))

end

section
variable {s : State} {n : FrameNo} {rest : List FrameNo} {com exc : List Released}

theorem FramePassed.flow (P : FramePassed s n rest com exc) (f : FlowIdx) : (s.frameDone n rest).flow f =
    { (s.flow f).worked (s.frameStale n rest f) (sentOf f (com ++ exc)).length with
      queue := ((s.flow f).queue.drop (s.frameStale n rest f + (sentOf f (com ++ exc)).length)).map (s.stampAt n)
      credit := ((s.frameDone n rest).flow f).credit } := by
  obtain ⟨c, flow⟩ := P.sends.flow f
  rw [frameDone_flows, flow, stampedFrame_flow, P.released, List.map_drop]
  rfl

theorem FramePassed.split (P : FramePassed s n rest com exc) (f : FlowIdx) : (s.flow f).queue.map QEntry.bytes =
    ((s.flow f).queue.take (s.frameStale n rest f)).map QEntry.bytes ++ (sentOf f (com ++ exc)).map Released.bytes ++
      ((s.frameDone n rest).flow f).queue.map QEntry.bytes := by
  have bytes := P.sends.bytes f
  rw [stampedFrame_flow, P.released, ← List.map_drop, ← List.map_take, map_stampAt_bytes] at bytes
  rw [P.flow f, bytes, map_stampAt_bytes, ← List.map_append, ← List.map_append, List.append_assoc, ← List.drop_drop,
    List.take_append_drop, List.take_append_drop]

theorem FramePassed.releases (P : FramePassed s n rest com exc) {r : Released} (hr : r ∈ com ++ exc) :
    s.Releases r.flow r.terminal := (creditedFrame_eligible s n rest _ _).mp (P.eligible r hr)

theorem FramePassed.committedStops (P : FramePassed s n rest com exc) {f : FlowIdx} {i : Slot} {e : QEntry}
    (releases : s.Releases f i) (he : (s.flow f).queue[s.frameStale n rest f + (sentOf f com).length]? = some e) :
    ((s.frameDone n rest).flow f).credit < e.bytes.length ∨ s.setup.d <
      chargedFor (com.filter fun r => s.upTo r.flow f) +
        releaseCost s (com.filter fun r => s.upTo r.flow f) i e.bytes.length := by
  obtain ⟨eligible, bound⟩ := (creditedFrame_eligible s n rest f i).mpr releases
  have stops := P.stopsCom f i (s.stampAt n e) eligible bound (by rw [stampedFrame_flow, List.getElem?_map, he]; rfl)
  rwa [creditedFrame_upTo, creditedFrame_cost, frame_same s n rest .setup (by decide), QEntry.len, stampAt_bytes,
    ← frameDone_flows] at stops

theorem FramePassed.excessStops (P : FramePassed s n rest com exc) {f : FlowIdx} {i : Slot} {e : QEntry}
    (releases : s.Releases f i) (he : ((s.frameDone n rest).flow f).queue.head? = some e) :
    (s.flow f).pb < bytesSent f (com ++ exc) + e.bytes.length ∨ s.setup.d <
      chargedFor com + chargedFor (exc.filter fun r => s.upTo r.flow f) +
        releaseCost s (com ++ exc.filter fun r => s.upTo r.flow f) i e.bytes.length := by
  obtain ⟨eligible, bound⟩ := (creditedFrame_eligible s n rest f i).mpr releases
  rw [frameDone_flows] at he
  have stops := P.stopsExc f i e eligible bound he
  rwa [creditedFrame_upTo, creditedFrame_cost, frame_same s n rest .setup (by decide), stampedFrame_flow] at stops

theorem FramePassed.withinPeak (P : FramePassed s n rest com exc) {r : Released} (hr : r ∈ exc) :
    bytesSent r.flow (com ++ exc) ≤ (s.flow r.flow).pb := by
  have capped := P.capped r hr
  rwa [stampedFrame_flow] at capped

/-- The packets of a pass stand in the order of release (R135). -/
theorem pairwise_upTo {l : List Released}
    (h : l.Pairwise fun x y => (s.creditedFrame n rest).upTo x.flow y.flow = true) :
    l.Pairwise fun x y => (s.flow x.flow).cls < (s.flow y.flow).cls ∨
      (s.flow x.flow).cls = (s.flow y.flow).cls ∧ x.flow ≤ y.flow := by
  rw [creditedFrame_upTo] at h
  exact h.imp of_decide_eq_true

theorem FramePassed.costs (P : FramePassed s n rest com exc) (j : Nat) (r : Released) (hr : (com ++ exc)[j]? = some r) :
    r.cost = releaseCost s ((com ++ exc).take j) r.terminal r.bytes.length := by
  have costs := P.sends.costs j r
  rw [P.released, creditedFrame_cost] at costs
  exact costs hr

theorem FramePassed.charged_le (P : FramePassed s n rest com exc) : chargedFor (com ++ exc) ≤ s.setup.d := by
  have budget := P.sends.budget
  rw [P.released, frame_same s n rest .setup (by decide)] at budget
  omega

/-- A flow that releases has the frame's credit, less what its committed bytes took (R133, R135). -/
theorem FramePassed.credit_releases (P : FramePassed s n rest com exc) {f : FlowIdx} {i : Slot} (h : s.Releases f i) :
    ((s.frameDone n rest).flow f).credit + bytesSent f com =
      min ((s.flow f).credit + (s.flow f).cb) ((s.flow f).cb + 9216) := by
  obtain ⟨c, flow, granted⟩ := creditedFrame_flow s n rest f
  rw [if_pos ((creditedFrame_eligible s n rest f i).mpr h).1] at granted
  rw [frameDone_flows, P.credit f, flow, ← granted]

theorem eligible_bound {x : Flow} (h : s.eligible x = true) : ∃ i, x.bound = some i := by
  unfold State.eligible at h
  cases bound : x.bound with
  | none => simp [bound] at h
  | some i => exact ⟨i, rfl⟩

theorem FramePassed.credit_idle (P : FramePassed s n rest com exc) {f : FlowIdx} (h : ∀ i, ¬ s.Releases f i) :
    ((s.frameDone n rest).flow f).credit = 0 := by
  obtain ⟨c, flow, granted⟩ := creditedFrame_flow s n rest f
  rw [if_neg fun eligible => by
    obtain ⟨i, bound⟩ := eligible_bound eligible
    exact h i ((creditedFrame_eligible s n rest f i).mp ⟨eligible, bound⟩)] at granted
  have none : ((s.frameDone n rest).flow f).credit + bytesSent f com = 0 := by
    rw [frameDone_flows, P.credit f, flow, ← granted]
  exact (Nat.add_eq_zero_iff.mp none).1

/-! ### The notices and the link -/

theorem sweptMgmt_stampedFrame (s : State) (n : FrameNo) (rest : List FrameNo) (f : FlowIdx) (k : Nat)
    (m : Management) :
    (s.stampedFrame n rest).sweptMgmt f k m = s.sweptMgmt f k m := by
  unfold State.sweptMgmt
  rw [stampedFrame_flow, stampedFrame_link, stampedFrame_same s n rest .setup (by decide)]

theorem summedMgmt_stampedFrame (s : State) (n : FrameNo) (rest : List FrameNo) (f : FlowIdx) (k : Nat)
    (m : Management) :
    (s.stampedFrame n rest).summedMgmt f k m = s.summedMgmt f k m := by
  unfold State.summedMgmt
  rw [stampedFrame_flow, stampedFrame_link, stampedFrame_same s n rest .setup (by decide)]

theorem sentMgmt_stampedFrame (s : State) (n : FrameNo) (rest : List FrameNo) :
    (s.stampedFrame n rest).sentMgmt = s.sentMgmt := by
  have setup : (s.stampedFrame n rest).setup = s.setup := stampedFrame_same s n rest .setup (by decide)
  funext k out m j
  simp only [State.sentMgmt, stampedFrame_flow, stampedFrame_link, setup]

theorem FramePassed.mgmt (P : FramePassed s n rest com exc) : (s.frameDone n rest).mgmt =
    (List.range (com ++ exc).length).foldl (s.sentMgmt (s.frameStale n rest) (com ++ exc))
      ((List.finRange 1024).foldl (fun m f => s.summedMgmt f (s.frameStale n rest f) m)
        ((List.finRange 1024).foldl (fun m f => s.sweptMgmt f (s.frameStale n rest f) m) s.mgmt)) := by
  have before : (s.stampedFrame n rest).mgmt = s.mgmt := stampedFrame_same s n rest .mgmt (by decide)
  have swept := (sweep_swept (s.stampedFrame n rest) n).mgmt
  simp only [sweptMgmt_stampedFrame, summedMgmt_stampedFrame, before] at swept
  rw [frameDone_same s n rest .mgmt (by decide), P.sends.mgmt, P.released, sentMgmt_stampedFrame,
    creditedFrame_mgmt, swept]

theorem FramePassed.link (P : FramePassed s n rest com exc) : (s.frameDone n rest).link =
    { s.link with
      announced := { s.link.announced with pbr := rest }
      outgoing := s.link.outgoing ++ (burstSlots (com ++ exc)).map (s.burst n (com ++ exc)) } := by
  have link : (s.creditedFrame n rest).passes.state.link =
      { s.link with announced := { s.link.announced with pbr := rest } } :=
    (P.sends.same .link (by decide)).trans
      ((creditedFrame_same s n rest .link (by decide)).trans (stampedFrame_link s n rest))
  have terms : (s.creditedFrame n rest).passes.state.terms = s.terms :=
    (P.sends.same .terms (by decide)).trans (frame_same s n rest .terms (by decide))
  rw [State.frameDone, sendBursts_link, link, P.released]
  exact congrArg (fun l => { s.link with
      announced := { s.link.announced with pbr := rest }, outgoing := s.link.outgoing ++ l })
    (List.map_congr_left fun i _ => burst_of_terms terms n _ i)

theorem FramePassed.outgoing (P : FramePassed s n rest com exc) : (s.frameDone n rest).link.outgoing =
    s.link.outgoing ++ (((List.finRange 256).filter fun i => (com ++ exc).any fun r => r.terminal = i).map fun i =>
      let sent := (com ++ exc).filter fun r => r.terminal = i
      mkRecord 0x82#8 ([num8 i.val, num8 (((s.term i).current.map Fin.val).getD 0)] ++ be16 n ++
        num16 (chargedFor sent) ++ num16 sent.length ++ payloadBytes (sent.map Released.bytes))) := by
  rw [P.link]
  exact congrArg (s.link.outgoing ++ ·) (List.map_congr_left fun i _ => burstRecord_eq i _ n _)

theorem FramePassed.stamp (P : FramePassed s n rest com exc) : (s.frameDone n rest).buffer.stamp = some n := by
  rw [frameDone_same s n rest .buffer (by decide), P.sends.stamp, creditedFrame_stamp]

theorem FramePassed.same (P : FramePassed s n rest com exc) :
    SameBut [.flows, .link, .buffer, .mgmt] s (s.frameDone n rest) :=
  ((frame_same s n rest).then P.sends.same (rs := [.flows, .link, .buffer, .mgmt]) rfl rfl).then
    (frameDone_same s n rest) rfl rfl

end

/-- Settles O38: the sweep, the credit and both passes of a frame event, clause by clause. -/
theorem releaseConservesPackets : Obligations.ReleaseConservesPackets := by
  unfold Obligations.ReleaseConservesPackets
  refine ⟨fun s n rest h => ?_, fun s h => ?_⟩
  · intro eligible cost before upTo charged bytesOf noted raised stamped
    obtain ⟨com, exc, P⟩ := frame_passed s n rest
    exact ⟨s.frameDone n rest, com ++ exc, com, exc, s.frameStale n rest, exec_pbrFrameEvent h, rfl, P.stamp,
      frameDone_conserves s n rest,
      fun f => ⟨stampedFrame_staleHeads_le s n rest f, P.flow f, P.split f, fun _ he => frameStale_stale he,
        fun _ _ down he ha => frameStale_fresh down he ha, fun _ _ releases he => P.committedStops releases he⟩,
      fun _ _ _ releases he => P.excessStops releases he, fun _ hr => P.withinPeak hr, pairwise_upTo P.sortedCom,
      pairwise_upTo P.sortedExc, fun _ hr => P.releases hr, P.costs, P.charged_le,
      fun _ _ releases => P.credit_releases releases, fun _ idle => P.credit_idle idle, P.mgmt, P.outgoing,
      (congrArg Link.announced P.link :), (congrArg Link.frame P.link :), (congrArg Link.sectorUp P.link :), P.same⟩
  · simp only [exec, execPbrFrameEvent]
    rw [h]

end Sys2Proof.Machine
